-- ==== Sys2Proof/Word.lean ====
section
/-! DEFINITION. The word types of the RKZ-1625 model and the index types of its replicated units.
Bit 0 is the least significant bit of every word (R7). -/

namespace Sys2Proof

/-- Eight bits: a byte of memory, of a packet or of a command payload. -/
abbrev Byte := BitVec 8

/-- The 32-bit word of registers, scalar registers and Myvik instructions. -/
abbrev Word := BitVec 32

/-- A mailbox slot, 0–15 (R252). -/
abbrev Slot := Fin 16

/-- A context of the context table, 0–15 (R135). -/
abbrev CtxIx := Fin 16

/-- A detection bay, 0–127 (R160). -/
abbrev BayIx := Fin 128

/-- A cart, 0–31 (R213). -/
abbrev CartIx := Fin 32

/-- A Sollys port, 0–3. -/
abbrev PortIx := Fin 4

/-- A data stream, 0–15 (R239). -/
abbrev StreamIx := Fin 16

/-- A timer, 0–15 (R370). -/
abbrev TmrIx := Fin 16

/-- A strobe engine, 0–7 (R378). -/
abbrev EngIx := Fin 8

/-- A PLL, 0 PLL-A, 1 PLL-B, 2–5 the port PLLs 0–3 (R366). -/
abbrev PllIx := Fin 6

/-- A housekeeping converter, 0 HKA and 1 HKB (R386). -/
abbrev ConvIx := Fin 2

/-- An encoder channel, 0 ENC0 and 1 ENC1 (R114). -/
abbrev EncIx := Fin 2

/-- A scalar register s0–s15 of a bay (R162). -/
abbrev SReg := Fin 16

/-- A vector register v0–v31 of a bay (R162). -/
abbrev VReg := Fin 32

/-- A predicate register p0–p7 of a bay (R162). -/
abbrev PReg := Fin 8

/-- The second source of a three-operand vector instruction: a vector register, or with S = 1 a
broadcast scalar register (R167). -/
inductive VSrc where
  | v (r : VReg)
  | s (r : SReg)
  deriving DecidableEq, Repr

/-- A term of the light that falls on the array: photo-electrons per microsecond on a rectangle of
stalls over an interval of time. Columns 0–16,383 are the active columns, 16,384–16,415 the
reference columns L0–L31 and 16,416–16,447 the columns H0–H31 (R2). Ranges are inclusive; the
interval runs from `tFrom` to `tTo` in ns of TB. -/
structure LightTerm where
  colFrom : Nat
  colTo : Nat
  rowFrom : Nat
  rowTo : Nat
  tFrom : Nat
  tTo : Nat
  rate : Nat
  deriving DecidableEq, Repr

/-- What a scrub step finds in the words it reads: nothing, a correctable word or an
uncorrectable word, at a byte address (R211, R330). -/
inductive ScrubFind where
  | clean
  | corrected (addr : Nat)
  | uncorrectable (addr : Nat)
  deriving DecidableEq, Repr

/-- The header fields a host chooses in a mailbox command (R265). The opcode is that of the
command, LEN and BULK_LEN are those of its payload; `reserved` joins the reserved header bytes
0x0D–0x0F, 0x12–0x13 and 0x18–0x1F. -/
structure CmdHeader where
  tag : BitVec 16
  flags : BitVec 16
  session : BitVec 32
  status : Byte
  elapsed : BitVec 32
  reserved : BitVec 104
  deriving DecidableEq, Repr

/-- The rails of R433 whose loss resets the device (R434, R435). -/
inductive Rail where
  | vddHub | vddAcc | vddaPix | vddaCmp | vddLink | vddhLink
  | hbmVpp | hbmVdd | hbmVddq | vddioA | vddioB | vaonIn
  deriving DecidableEq, Repr

/-- What a follower can lose sync by, apart from a message (R131). -/
inductive SyncCause where
  | symbolLock
  | codeErrors
  | recoveredClock
  deriving DecidableEq, Repr

/-- An item kept in RAM that is written to MRAM at most once per interval (R328). -/
inductive NvItem where
  | storedCtx (slot : Fin 64)
  | codeTable (gain : Fin 2) (index : Fin 8)
  | columnTable (index : Fin 32)
  | defectTable (index : Fin 32)
  | lookupTable (index : Fin 16)
  deriving DecidableEq, Repr

end Sys2Proof
end

