-- ==== Sys2Proof/Config.lean ====
section
/-! DEFINITION. What an implementation of the RKZ-1625 fixes outside the manual's words. Every constant is opaque:
nothing in Lean can evaluate it, so a statement that mentions it holds whatever it is. The
assumption log names each one. -/

namespace Sys2Proof.Config

/-- The output of the entropy source at the `seed`-th seeding of the DRBG (R289): nonces, SESSION numbers, seal keys K and BBK come from it. Log entry 3. -/
opaque entropy : (seed : Nat) → BitVec 384

/-- What the tack room reads at a place of the audit ring that an uncorrectable MRAM word lies in (R330). Log entry 4. -/
opaque auditDamaged : (place : Nat) → BitVec 512

/-- The initial contents of HBM, unknown until written (R205). Log entry 5. -/
opaque hbmInitial : (addr : Nat) → Byte

/-- Whether a never-written HBM word reads as poison (R205), by word address. Log entry 5. -/
opaque hbmInitPoison : (wordAddr : Nat) → Bool

/-- Whether a never-written HBM word that does not read as poison holds an error that its ECC corrects (R205, R211), by word address. Log entry 5. -/
opaque hbmInitWeak : (wordAddr : Nat) → Bool

/-- The byte a debug read finds in a loft ring, whose layout the manual does not give (R195,
R428). Log entry 6. -/
opaque ringByte : (bay offset tick : Nat) → Byte

/-- The µs from the doorbell to the answer beyond those that the times of the commands show (R265), which the manual bounds and does not fix.
Log entry 7. -/
opaque elapsedUs : (slot answers : Nat) → Nat

/-- The cycles beyond one that an instruction of a bay takes (R161, R212), by bay and by the cycle
count before it. Log entry 8. -/
opaque bayExtraCycles : (bay : Nat) → (cyc : BitVec 64) → Nat

/-- Whether an access made while a TLB invalidation is busy uses the old entry (R209).
Log entry 9. -/
opaque tlbUsesOld : (requester page cycle : Nat) → Bool

/-- The registers of the control processor (general registers, PC and status word as R429 numbers
them) after it executes one instruction; its instruction set is not given. Log entry 10. -/
opaque cpStep : List Word → Nat → Word

/-- Whether the control processor, set running from a halt, comes to the instruction at an address and halts there on its breakpoint (R425), by address and
by count of halts; and whether the instruction that it executes touches the bytes of a watchpoint, by watchpoint and by that count. Its
instruction set is not given. Log entry 100. -/
opaque cpMeets : (addr steps : Nat) → Bool
opaque cpTouches : (watchpoint steps : Nat) → Bool

/-- The PC of the control processor when the watchdog expires while it runs (R411).
Log entry 10. -/
opaque cpPc : (restarts : Nat) → Word

/-- The ns of TB from an active TRIG edge to the opening of the transfer gates, before its bound of 4.5 ns applies: the manual gives a
typical value (R121). Log entry 12. -/
opaque triggerNs : (tb : Nat) → Nat

/-- The one-way delay of a hop of the string in 1/128 ns as the leader learns it (R127), by hop and by update: no message of
R126 carries it up. Log entry 13. -/
opaque hopDelay : (hop update : Nat) → Nat

/-- Whether a fuse cell ends up programmed when power fails during its pulse (R322), by word, bit and cell. Log entry 14. -/
opaque pulseCut : (word bit cell : Nat) → Bool

/-- Whether the canary is still intact on a cell between 1.40 V and 1.45 V (R334, R336), by the voltage in mV and by the oscillator's count. Log entry 102. -/
opaque canaryHolds : (vbatMv osc : Nat) → Bool

/-- The current in µA of the CV state, which falls (R342), by the oscillator's count. Log entry 103. -/
opaque cvCurrent : (osc : Nat) → Nat

/-- The VCO ranges that a sweep of a PLL measures (R366), as BAND words, by PLL, band and RTC count. Log entry 15. -/
opaque bandEntry : (pll band rtc : Nat) → Word

/-- The manufacture data of a part: the private keys DSK and DKAK, drawn at the factory and held
under SKEK (R290). Log entry 4. -/
opaque dsk : BitVec 384
opaque dkak : BitVec 384

/-- The maker public key MPK held in MRAM (R290). Log entry 4. -/
opaque mpk : BitVec 776

/-- The choice of POINT among 0x04 to 0x06 in bits 7–0 and the faulting address in bits 47–8 of the record that a reset of the carts writes for a running cart: the manual
gives its CLASS alone (R217, R219), by record count. Log entry 16. -/
opaque cartReset : (records : Nat) → BitVec 48

end Sys2Proof.Config
end

