-- ==== Sys2Proof/Syntax.lean ====
section
/-! DEFINITION. The commands of the RKZ-1625: one constructor per row of opcode_table.json, in the table's order.
Operands: `t` is the timebase value (TB, ns) at which a timed event occurs, `rtc` the RTC value
(1/32,768 s) of an event timed by the RTC, `slot` and `h` the mailbox slot and header of a Belif
command, `b` the bay that issues a Myvik instruction. An operand written `:= x` is x in a row written
without it: an instant that says nothing new, control bits at 0, a frame write that does not fail. -/

namespace Sys2Proof

/-- A step of the part: an operation asked of it, or an event of its own (opcode_table.json). -/
inductive Instr where
  /-- LINE_TICK (R21). -/
  | lineTick (light : List LightTerm)
  /-- SHUTTER_TIMEOUT (R37). -/
  | shutterTimeout (t : Nat)
  /-- MAP_SHADOW_LOAD_DONE (R50). -/
  | mapShadowLoadDone (us : BitVec 16)
  /-- MODE_TRANSITION_DONE (R96). -/
  | modeTransitionDone (t : Nat)
  /-- MODE_SET_TIMEOUT (R98). -/
  | modeSetTimeout (t : Nat)
  /-- YARD_TEMP_SAMPLE (R27). -/
  | yardTempSample (t : Nat) (temps : Vector Byte 8)
  /-- HAYLOFT_SCRUB (R27). -/
  | hayloftScrub (t : Nat) (bank : Fin 16) (found : ScrubFind)
  /-- MRAM_SCRUB (R330). -/
  | mramScrub (t : Nat) (found : ScrubFind)
  /-- HBM_REFRESH (R27). -/
  | hbmRefresh (forced : Bool)
  /-- LOG_FLUSH (R27). -/
  | logFlush (t : Nat)
  /-- TELEMETRY_SNAPSHOT (R27). -/
  | telemetrySnapshot (t : Nat)
  /-- PLL_BAND_CHECK (R368). -/
  | pllBandCheck (t : Nat) (q : PllIx) (inside : Bool)
  /-- FLAW_CREDIT_REFILL (R30). -/
  | flawCreditRefill (t : Nat)
  /-- ENCODER_EDGE (R114). -/
  | encoderEdge (ch : EncIx) (a b : Bool) (t : Nat) (held : Nat := 15)
  /-- Z_CAPTURE (R117). -/
  | zCapture (ch : EncIx)
  /-- PREDICTOR_TIMEOUT (R119). -/
  | predictorTimeout (ch : EncIx) (t : Nat)
  /-- TICK_REQUEST (R118). -/
  | tickRequest (t : Nat)
  /-- TICK_COMMIT (R120). -/
  | tickCommit (t : Nat)
  /-- TRIG_EDGE (R121). -/
  | trigEdge (t : Nat) (rising : Bool)
  /-- INTERNAL_PERIOD (R122). -/
  | internalPeriod (t : Nat)
  /-- TICKS_ALLOWED (R358). -/
  | ticksAllowed (t : Nat)
  /-- TICK (R127). -/
  | tick (t : Nat) (frame : List Byte)
  /-- CTX_AT (R130). -/
  | ctxAt (frame : List Byte)
  /-- CTX_ACK (R130). -/
  | ctxAck (frame : List Byte)
  /-- CTX_CANCEL_MSG (R130). -/
  | ctxCancelMsg (frame : List Byte)
  /-- DREQ (R128). -/
  | dreq (t2 t3 : Nat) (frame : List Byte)
  /-- DRSP (R128). -/
  | drsp (t4 : Nat) (frame : List Byte)
  /-- HOP_MEASURE_DUE (R128). -/
  | hopMeasureDue (t1 : Nat)
  /-- ENUM (R129). -/
  | enum (frame : List Byte)
  /-- ENUM_ACK (R129). -/
  | enumAck (frame : List Byte)
  /-- ALIGNED (R129). -/
  | aligned (frame : List Byte)
  /-- LOST (R131). -/
  | lost (fromAbove : Bool) (frame : List Byte)
  /-- JOIN_REQ (R132). -/
  | joinReq (frame : List Byte)
  /-- JOIN_AT (R132). -/
  | joinAt (frame : List Byte)
  /-- SYNC_LOSS (R131). -/
  | syncLoss (cause : SyncCause)
  /-- SYNC_LINK_RECOVERED (R132). -/
  | syncLinkRecovered
  /-- HOP_SYMBOL_LOCK (R129). -/
  | hopSymbolLock
  /-- WRITE (R255). -/
  | write (op : Byte) (addr : BitVec 24) (data : List Byte) (crc : Option (BitVec 16))
  /-- READ (R255). -/
  | read (addr : BitVec 24) (len : Nat)
  /-- QUAD_ON (R255). -/
  | quadOn
  /-- QUAD_OFF (R255). -/
  | quadOff
  /-- REGISTER_WRITE (R9). -/
  | registerWrite (addr : BitVec 40) (value : BitVec 64) (byDebug : Bool)
  /-- MBX_DOORBELL (R264). -/
  | mbxDoorbell (ring : BitVec 16)
  /-- FLT_CLASS_CLEAR (R402). -/
  | fltClassClear (mask : Word)
  /-- NOP (R272). -/
  | nop (slot : Slot) (h : CmdHeader) (data : List Byte)
  /-- IDENTIFY (R272). -/
  | identify (slot : Slot) (h : CmdHeader)
  /-- GET_STATUS (R272). -/
  | getStatus (slot : Slot) (h : CmdHeader)
  /-- FW_RESTART (R272). -/
  | fwRestart (slot : Slot) (h : CmdHeader)
  /-- SHIP_MODE (R345). -/
  | shipMode (slot : Slot) (h : CmdHeader)
  /-- OBJ_CHUNK (R268). -/
  | objChunk (slot : Slot) (h : CmdHeader) (offset : Word) (bulk : List Byte)
  /-- OBJ_END (R268). -/
  | objEnd (slot : Slot) (h : CmdHeader)
  /-- OBJ_ABORT (R268). -/
  | objAbort (slot : Slot) (h : CmdHeader)
  /-- MODE_SET (R96). -/
  | modeSet (slot : Slot) (h : CmdHeader) (mode ctx opts : Byte) (start : BitVec 48)
  /-- CTX_SET (R274). -/
  | ctxSet (slot : Slot) (h : CmdHeader) (ctx : Byte) (mask : BitVec 16) (values : Vector Word 12)
  /-- CTX_GET (R273). -/
  | ctxGet (slot : Slot) (h : CmdHeader) (ctx half : Byte)
  /-- CTX_SCHEDULE (R136). -/
  | ctxSchedule (slot : Slot) (h : CmdHeader) (ctx : Byte) (line : BitVec 48)
  /-- CTX_CANCEL (R273). -/
  | ctxCancel (slot : Slot) (h : CmdHeader) (ctx : Byte)
  /-- CTX_LOCK_TIMEOUT (R139). -/
  | ctxLockTimeout (slot : Slot)
  /-- CTX_STORE (R273). -/
  | ctxStore (slot : Slot) (h : CmdHeader) (ctx store : Byte)
  /-- CTX_LOAD (R273). -/
  | ctxLoad (slot : Slot) (h : CmdHeader) (store ctx : Byte)
  /-- TICK_SET (R111). -/
  | tickSet (slot : Slot) (h : CmdHeader) (src policy lagLimit trigEdge : Byte) (perNs : Word) (velWin revHyst : Byte) (accMax : BitVec 16)
  /-- RATIO_SET (R118). -/
  | ratioSet (slot : Slot) (h : CmdHeader) (ratio : Word)
  /-- ENC_SET (R114). -/
  | encSet (slot : Slot) (h : CmdHeader) (ch filtNs decode invert zmode : Byte)
  /-- CAL_BEGIN (R269). -/
  | calBegin (slot : Slot) (h : CmdHeader) (type index arg : Byte) (total crc : Word)
  /-- CAL_CAPTURE (R275). -/
  | calCapture (slot : Slot) (h : CmdHeader) (lines : Word) (pa : BitVec 40)
  /-- CAL_CAPTURE_DONE (R275). -/
  | calCaptureDone
  /-- CAL_STATUS (R275). -/
  | calStatus (slot : Slot) (h : CmdHeader) (yard : Byte)
  /-- STRING_SET (R275). -/
  | stringSet (slot : Slot) (h : CmdHeader) (role : Byte) (colOfs : Word) (asym leadNs : BitVec 16)
  /-- STRING_FORM (R129). -/
  | stringForm (slot : Slot) (h : CmdHeader)
  /-- STRING_FORM_DONE (R129). -/
  | stringFormDone (timedOut : Bool)
  /-- STRING_LEAVE (R275). -/
  | stringLeave (slot : Slot) (h : CmdHeader)
  /-- STRING_STATUS (R275). -/
  | stringStatus (slot : Slot) (h : CmdHeader)
  /-- KERN_BEGIN (R269). -/
  | kernBegin (slot : Slot) (h : CmdHeader) (kslot : Byte) (pa entry : BitVec 40) (total crc : Word)
  /-- AS_SET (R276). -/
  | asSet (slot : Slot) (h : CmdHeader) (asid : Byte) (l1 : BitVec 40) (en : Byte)
  /-- MEM_WRITE (R276). -/
  | memWrite (slot : Slot) (h : CmdHeader) (pa : BitVec 40) (bulk : List Byte)
  /-- MEM_READ (R276). -/
  | memRead (slot : Slot) (h : CmdHeader) (pa : BitVec 40) (len : BitVec 16)
  /-- TLB_INV (R276). -/
  | tlbInv (slot : Slot) (h : CmdHeader) (asid scope : Byte) (va : BitVec 40)
  /-- JOB_SET (R276). -/
  | jobSet (slot : Slot) (h : CmdHeader) (loftSplit : Byte)
  /-- DJ_FILL (R199). -/
  | djFill (slot : Slot) (h : CmdHeader) (bay djSlot kslot asid : Byte)
  /-- DJ_RESUME (R276). -/
  | djResume (slot : Slot) (h : CmdHeader) (bay djSlot : Byte)
  /-- DJ_DISCARD (R276). -/
  | djDiscard (slot : Slot) (h : CmdHeader) (bay djSlot : Byte)
  /-- CART_SET (R276). -/
  | cartSet (slot : Slot) (h : CmdHeader) (cart owner : Byte)
  /-- CART_CTRL_RESUME (R276). -/
  | cartCtrlResume (slot : Slot) (h : CmdHeader) (cart : Byte)
  /-- CART_CTRL_ABORT (R276). -/
  | cartCtrlAbort (slot : Slot) (h : CmdHeader) (cart : Byte)
  /-- FAULT_READ (R276). -/
  | faultRead (slot : Slot) (h : CmdHeader) (max : Byte)
  /-- PORT_SET (R277). -/
  | portSet (slot : Slot) (h : CmdHeader) (port rate sealEn : Byte) (sealN : BitVec 16)
  /-- PORT_START (R244). -/
  | portStart (slot : Slot) (h : CmdHeader) (port : Byte)
  /-- PORT_STOP (R244). -/
  | portStop (slot : Slot) (h : CmdHeader) (port : Byte)
  /-- LANE_SET (R222). -/
  | laneSet (slot : Slot) (h : CmdHeader) (lane pre post swing zdiff pol : Byte)
  /-- STREAM_SET (R239). -/
  | streamSet (slot : Slot) (h : CmdHeader) (stream kind port field : Byte)
  /-- STREAM_ENABLE (R239). -/
  | streamEnable (slot : Slot) (h : CmdHeader) (stream en : Byte)
  /-- PORT_STATUS (R277). -/
  | portStatus (slot : Slot) (h : CmdHeader) (port : Byte)
  /-- AUTH_CHALLENGE (R292). -/
  | authChallenge (slot : Slot) (h : CmdHeader) (role index : Byte)
  /-- AUTH_RESPONSE (R292). -/
  | authResponse (slot : Slot) (h : CmdHeader) (sig : BitVec 768)
  /-- SESSION_END (R294). -/
  | sessionEnd (slot : Slot) (h : CmdHeader)
  /-- ENROL (R298). -/
  | enrol (slot : Slot) (h : CmdHeader) (role index : Byte) (key : BitVec 776)
  /-- REVOKE (R278). -/
  | revoke (slot : Slot) (h : CmdHeader) (role index : Byte)
  /-- TIME_SET (R298). -/
  | timeSet (slot : Slot) (h : CmdHeader) (rtc : BitVec 64) (sig : BitVec 768)
  /-- SEAL_EXPORT_SET (R291). -/
  | sealExportSet (slot : Slot) (h : CmdHeader) (bulk : List Byte)
  /-- ZEROIZE (R303). -/
  | zeroize (slot : Slot) (h : CmdHeader)
  /-- DEBUG_UNLOCK (R421). -/
  | debugUnlock (slot : Slot) (h : CmdHeader)
  /-- FW_BEGIN (R279). -/
  | fwBegin (slot : Slot) (h : CmdHeader) (bank : Byte) (total crc : Word)
  /-- FW_ACTIVATE (R299). -/
  | fwActivate (slot : Slot) (h : CmdHeader) (bank : Byte)
  /-- FUSE_READ (R313). -/
  | fuseRead (slot : Slot) (h : CmdHeader) (word : Byte)
  /-- FUSE_PROGRAM (R321). -/
  | fuseProgram (slot : Slot) (h : CmdHeader) (word bit : Byte) (vpp : Option Nat := none)
  /-- FUSE_PROGRAM_INST (R321). -/
  | fuseProgramInst (slot : Slot) (h : CmdHeader) (bit : BitVec 16) (vpp : Option Nat := none)
  /-- FUSE_PULSE_DONE (R322). -/
  | fusePulseDone (verified : Bool)
  /-- NVM_STATUS (R279). -/
  | nvmStatus (slot : Slot) (h : CmdHeader)
  /-- TELEM_READ (R280). -/
  | telemRead (slot : Slot) (h : CmdHeader)
  /-- LOG_READ (R280). -/
  | logRead (slot : Slot) (h : CmdHeader) (index : Word) (count : Byte)
  /-- AUDIT_READ (R280). -/
  | auditRead (slot : Slot) (h : CmdHeader) (index : BitVec 16) (count : Byte)
  /-- PERIPH_SET (R281). -/
  | periphSet (slot : Slot) (h : CmdHeader) (block unit : Byte) (reg : BitVec 16) (value : Word)
  /-- PERIPH_GET (R281). -/
  | periphGet (slot : Slot) (h : CmdHeader) (block unit : Byte) (reg : BitVec 16)
  /-- PERIPH_GO (R281). -/
  | periphGo (slot : Slot) (h : CmdHeader) (block : Byte) (mask : BitVec 16)
  /-- STROBE_BEGIN (R269). -/
  | strobeBegin (slot : Slot) (h : CmdHeader) (engine : Byte) (total crc : Word)
  /-- DAC_SET (R281). -/
  | dacSet (slot : Slot) (h : CmdHeader) (dac range : Byte) (code : BitVec 16)
  /-- I2C_XFER (R283). -/
  | i2cXfer (slot : Slot) (h : CmdHeader) (addr wlen rlen : Byte) (wdata : List Byte)
  /-- I2C_XFER_DONE (R283). -/
  | i2cXferDone (result index : Byte) (rdata : List Byte)
  /-- HK_READ (R281). -/
  | hkRead (slot : Slot) (h : CmdHeader) (conv ch : Byte)
  /-- LOCKSTEP_FAULT (R401). -/
  | lockstepFault
  /-- MAILBOXES_READY (R260). -/
  | mailboxesReady
  /-- SESSION_EXPIRY (R294). -/
  | sessionExpiry (slot : Slot) (rtc : Nat)
  /-- CHALLENGE_EXPIRY (R292). -/
  | challengeExpiry (slot : Slot) (rtc : Nat)
  /-- LOCKOUT_END (R295). -/
  | lockoutEnd (role : Fin 4) (index : Fin 8) (rtc : Nat)
  /-- LOCKOUT_JOURNAL_WRITE (R295). -/
  | lockoutJournalWrite (role : Fin 4) (index : Fin 8) (rtc : Nat)
  /-- ENTROPY_HEALTH_FAIL (R302). -/
  | entropyHealthFail (test : BitVec 4)
  /-- TAMPER_VOLTAGE (R305). -/
  | tamperVoltage (detector : BitVec 4) (rtc : Nat)
  /-- TAMPER_CLOCK (R305). -/
  | tamperClock (detector : BitVec 4) (rtc : Nat)
  /-- TAMPER_TEMPERATURE (R305). -/
  | tamperTemperature (rtc : Nat)
  /-- LID_LIGHT (R305). -/
  | lidLight (rtc : Nat)
  /-- TAMPER_PAUSE_END (R305). -/
  | tamperPauseEnd
  /-- LAST_RAIL_GOOD (R434). -/
  | lastRailGood (vddioB33 : Bool)
  /-- POR_RELEASE (R318). -/
  | porRelease (addrPins : BitVec 2)
  /-- FUSE_LOAD_DONE (R318). -/
  | fuseLoadDone
  /-- SELFTEST_DONE (R301). -/
  | selftestDone (failTest : BitVec 4)
  /-- FW_VERIFIED (R299). -/
  | fwVerified
  /-- HBM_TRAINED (R437). -/
  | hbmTrained
  /-- RAIL_LOSS (R435). -/
  | railLoss (rail : Rail)
  /-- RESET_N (R436). -/
  | resetN
  /-- RESET_N_RELEASE (R436). -/
  | resetNRelease (addrPins : BitVec 2)
  /-- VAON_IN_GOOD (R333). -/
  | vaonInGood
  /-- VAON_IN_LOSS (R333). -/
  | vaonInLoss
  /-- BACKUP_DOMAIN_POR (R336). -/
  | backupDomainPor
  /-- RECONCILIATION (R340). -/
  | reconciliation (t rtc : Nat)
  /-- RTC_TRIM (R332). -/
  | rtcTrim
  /-- CHARGER_DETECT (R341). -/
  | chargerDetect (auxHeld vddioB30 : Bool)
  /-- CHARGER_ZONE_READ (R343). -/
  | chargerZoneRead (ntcOpen : Bool) (temp : Int)
  /-- CHARGER_VBAT_THRESHOLD (R342). -/
  | chargerVbatThreshold (vbatMv : Nat)
  /-- CHARGER_TIMEOUT (R342). -/
  | chargerTimeout (rtc : Nat := 0)
  /-- CHARGER_CUTBACK (R344). -/
  | chargerCutback (vaonMv : Nat)
  /-- SVC_BTN_LONG_PRESS (R346). -/
  | svcBtnLongPress
  /-- SVC_BTN_RESET_END (R346). -/
  | svcBtnResetEnd
  /-- REFCLK_LOSS (R459). -/
  | refclkLoss
  /-- PLLA_LOCK_LOSS (R356). -/
  | pllaLockLoss (t : Nat)
  /-- PLLA_RELOCK_ATTEMPT (R358). -/
  | pllaRelockAttempt
  /-- PLLA_LOCK (R358). -/
  | pllaLock (t : Nat)
  /-- PLLB_LOCK_LOSS (R362). -/
  | pllbLockLoss
  /-- PLLB_RELOCK_ATTEMPT (R362). -/
  | pllbRelockAttempt
  /-- PLLB_LOCK (R362). -/
  | pllbLock
  /-- PORT_PLL_LOCK_LOSS (R365). -/
  | portPllLockLoss (p : PortIx)
  /-- PORT_PLL_RELOCK_ATTEMPT (R365). -/
  | portPllRelockAttempt (p : PortIx)
  /-- PORT_PLL_LOCK (R365). -/
  | portPllLock (p : PortIx)
  /-- PLLA_PHASE_WRITE (R354). -/
  | pllaPhaseWrite (value : Word)
  /-- PHASE_STEP (R354). -/
  | phaseStep (t : Nat := 0)
  /-- PLLB_PROFILE_GO (R361). -/
  | pllbProfileGo (value : Word)
  /-- PLLB_PROFILE_SEGMENT_END (R361). -/
  | pllbProfileSegmentEnd
  /-- TMR_GO (R373). -/
  | tmrGo (mask : BitVec 16)
  /-- TMR_STOP (R373). -/
  | tmrStop (tmr : TmrIx)
  /-- TIMER_COUNT_STEP (R370). -/
  | timerCountStep (tmr : TmrIx)
  /-- TIMER_EVENT_START (R373). -/
  | timerEventStart (tmr : TmrIx)
  /-- TIMER_CAPTURE (R375). -/
  | timerCapture (tmr : TmrIx)
  /-- TMR_CAP_READ (R375). -/
  | tmrCapRead (tmr : TmrIx)
  /-- STB_GO (R378). -/
  | stbGo (mask : Byte)
  /-- STB_STOP (R383). -/
  | stbStop (e : EngIx)
  /-- STROBE_STEP (R378). -/
  | strobeStep (e : EngIx) (pins : BitVec 16)
  /-- PRE_LT (R379). -/
  | preLt (t : Nat)
  /-- STB_TX_WRITE (R381). -/
  | stbTxWrite (e : EngIx) (word : Word)
  /-- STB_RX_READ (R381). -/
  | stbRxRead (e : EngIx)
  /-- HK_REGULAR_PASS (R388). -/
  | hkRegularPass (conv : ConvIx) (t : Nat := 0)
  /-- HK_CONVERSION (R386). -/
  | hkConversion (conv : ConvIx) (code checkCode : BitVec 12) (t : Nat := 0)
  /-- HK_RESULT (R386). -/
  | hkResult (conv : ConvIx) (t : Nat := 0)
  /-- HK_INJECT_TRIGGER (R389). -/
  | hkInjectTrigger (conv : ConvIx) (t : Nat)
  /-- DAC_WRITE (R395). -/
  | dacWrite (d : Fin 4) (value : Word)
  /-- DAC_RANGE_HOLD_END (R395). -/
  | dacRangeHoldEnd (d : Fin 4) (t : Nat := 0)
  /-- DAC_SLEW_DONE (R395). -/
  | dacSlewDone (d : Fin 4)
  /-- I2C_TARGET_WRITE (R398). -/
  | i2cTargetWrite (addr : BitVec 7) (bytes : List Byte) (more : Bool := false)
  /-- I2C_TARGET_READ (R398). -/
  | i2cTargetRead (addr : BitVec 7) (len : Nat) (more : Bool := false)
  /-- I2C_TIMEOUT (R399). -/
  | i2cTimeout (target : Bool) (index : Byte) (rdata : List Byte)
  /-- WDT_ARM (R407). -/
  | wdtArm
  /-- WDT_SERVICE (R407). -/
  | wdtService
  /-- WDT_DISARM (R407). -/
  | wdtDisarm
  /-- WDT_WINDOW_OPEN (R406). -/
  | wdtWindowOpen
  /-- WDT_EXPIRY (R411). -/
  | wdtExpiry
  /-- WDT_CLKSTOP (R409). -/
  | wdtClkstop
  /-- WDT_DISABLE (R410). -/
  | wdtDisable (first second : BitVec 16)
  /-- PFR_F0 (R415). -/
  | pfrF0
  /-- PFR_PORT (R243). -/
  | pfrPort (p : PortIx)
  /-- PFR_GROOMING (R416). -/
  | pfrGrooming
  /-- PFR_BAYS (R219). -/
  | pfrBays (oneShed : Bool) (shed : Fin 16)
  /-- PFR_CARTS (R219). -/
  | pfrCarts
  /-- PFR_HBM (R219). -/
  | pfrHbm
  /-- PFR_STROBES (R415). -/
  | pfrStrobes
  /-- PFR_HOUSEKEEPING (R415). -/
  | pfrHousekeeping
  /-- PFR_I2C (R415). -/
  | pfrI2c
  /-- PFR_SYNC (R415). -/
  | pfrSync
  /-- PFR_DONE (R415). -/
  | pfrDone (fn : Fin 13)
  /-- PORT_CFG_START (R244). -/
  | portCfgStart (p : PortIx)
  /-- PORT_CFG_STOP (R244). -/
  | portCfgStop (p : PortIx)
  /-- PORT_START_DONE (R244). -/
  | portStartDone (p : PortIx) (t : Nat)
  /-- PORT_STOP_DONE (R244). -/
  | portStopDone (p : PortIx)
  /-- PORT_PERIOD (R242). -/
  | portPeriod (t : Nat)
  /-- ALIGNMENT_MARKER (R225). -/
  | alignmentMarker (p : PortIx)
  /-- STATUS_DUE (R236). -/
  | statusDue (p : PortIx) (t : Nat)
  /-- TIME_DUE (R237). -/
  | timeDue (p : PortIx) (t rtc : Nat)
  /-- SEAL_SIG_DUE (R248). -/
  | sealSigDue (p : PortIx) (rtc : Nat)
  /-- SEAL_BLOCK_TIMEOUT (R246). -/
  | sealBlockTimeout (p : PortIx) (t : Nat)
  /-- IDLE_DUE (R241). -/
  | idleDue (p : PortIx) (t : Nat)
  /-- SAVE_FRAME_WRITTEN (R201). -/
  | saveFrameWritten (b : BayIx) (failed : Option (Fin 288) := none) (bus : Bool := false)
  /-- CART_DESCRIPTOR_START (R213). -/
  | cartDescriptorStart (q : CartIx)
  /-- CART_CHUNK (R215). -/
  | cartChunk (q : CartIx)
  /-- CART_DESCRIPTOR_DONE (R215). -/
  | cartDescriptorDone (q : CartIx)
  /-- CART_RESUME (R216). -/
  | cartResume (q : CartIx)
  /-- CART_ABORT (R216). -/
  | cartAbort (q : CartIx)
  /-- TLB_INV_GO (R209). -/
  | tlbInvGo (value : Word)
  /-- TLB_INV_DONE (R209). -/
  | tlbInvDone
  /-- ILLEGAL_INSTRUCTION (R170). -/
  | illegalInstruction (b : BayIx) (word : Word)
  /-- ADD (R171). -/
  | add (b : BayIx) (sd sa sb : SReg)
  /-- SUB (R171). -/
  | sub (b : BayIx) (sd sa sb : SReg)
  /-- AND (R171). -/
  | and (b : BayIx) (sd sa sb : SReg)
  /-- OR (R171). -/
  | or (b : BayIx) (sd sa sb : SReg)
  /-- XOR (R171). -/
  | xor (b : BayIx) (sd sa sb : SReg)
  /-- ANDN (R171). -/
  | andn (b : BayIx) (sd sa sb : SReg)
  /-- SLL (R171). -/
  | sll (b : BayIx) (sd sa sb : SReg)
  /-- SRL (R171). -/
  | srl (b : BayIx) (sd sa sb : SReg)
  /-- SRA (R171). -/
  | sra (b : BayIx) (sd sa sb : SReg)
  /-- ROL (R171). -/
  | rol (b : BayIx) (sd sa sb : SReg)
  /-- ROR (R171). -/
  | ror (b : BayIx) (sd sa sb : SReg)
  /-- SETLT (R171). -/
  | setlt (b : BayIx) (sd sa sb : SReg)
  /-- SETLTU (R171). -/
  | setltu (b : BayIx) (sd sa sb : SReg)
  /-- MIN (R171). -/
  | min (b : BayIx) (sd sa sb : SReg)
  /-- MAX (R171). -/
  | max (b : BayIx) (sd sa sb : SReg)
  /-- MINU (R171). -/
  | minu (b : BayIx) (sd sa sb : SReg)
  /-- MAXU (R171). -/
  | maxu (b : BayIx) (sd sa sb : SReg)
  /-- MUL (R171). -/
  | mul (b : BayIx) (sd sa sb : SReg)
  /-- MULHS (R171). -/
  | mulhs (b : BayIx) (sd sa sb : SReg)
  /-- MULHU (R171). -/
  | mulhu (b : BayIx) (sd sa sb : SReg)
  /-- DIV (R190). -/
  | div (b : BayIx) (sd sa sb : SReg)
  /-- DIVU (R190). -/
  | divu (b : BayIx) (sd sa sb : SReg)
  /-- REM (R190). -/
  | rem (b : BayIx) (sd sa sb : SReg)
  /-- REMU (R190). -/
  | remu (b : BayIx) (sd sa sb : SReg)
  /-- CLZ (R171). -/
  | clz (b : BayIx) (sd sa : SReg)
  /-- POPC (R171). -/
  | popc (b : BayIx) (sd sa : SReg)
  /-- ADDK (R172). -/
  | addk (b : BayIx) (sd sa : SReg) (imm : BitVec 14)
  /-- ANDK (R172). -/
  | andk (b : BayIx) (sd sa : SReg) (imm : BitVec 14)
  /-- ORK (R172). -/
  | ork (b : BayIx) (sd sa : SReg) (imm : BitVec 14)
  /-- XORK (R172). -/
  | xork (b : BayIx) (sd sa : SReg) (imm : BitVec 14)
  /-- SETLTK (R172). -/
  | setltk (b : BayIx) (sd sa : SReg) (imm : BitVec 14)
  /-- SETLTUK (R172). -/
  | setltuk (b : BayIx) (sd sa : SReg) (imm : BitVec 14)
  /-- RSUBK (R172). -/
  | rsubk (b : BayIx) (sd sa : SReg) (imm : BitVec 14)
  /-- KSET (R172). -/
  | kset (b : BayIx) (sd : SReg) (imm : BitVec 19)
  /-- KHI (R172). -/
  | khi (b : BayIx) (sd : SReg) (imm : BitVec 16)
  /-- PCADD (R172). -/
  | pcadd (b : BayIx) (sd : SReg) (imm : BitVec 19)
  /-- SLLI (R172). -/
  | slli (b : BayIx) (sd sa : SReg) (amt : Byte)
  /-- SRLI (R172). -/
  | srli (b : BayIx) (sd sa : SReg) (amt : Byte)
  /-- SRAI (R172). -/
  | srai (b : BayIx) (sd sa : SReg) (amt : Byte)
  /-- ROLI (R172). -/
  | roli (b : BayIx) (sd sa : SReg) (amt : Byte)
  /-- RORI (R172). -/
  | rori (b : BayIx) (sd sa : SReg) (amt : Byte)
  /-- BC_EQ (R173). -/
  | bcEq (b : BayIx) (sa sb : SReg) (off : BitVec 13)
  /-- BC_NE (R173). -/
  | bcNe (b : BayIx) (sa sb : SReg) (off : BitVec 13)
  /-- BC_LT (R173). -/
  | bcLt (b : BayIx) (sa sb : SReg) (off : BitVec 13)
  /-- BC_GE (R173). -/
  | bcGe (b : BayIx) (sa sb : SReg) (off : BitVec 13)
  /-- BC_LTU (R173). -/
  | bcLtu (b : BayIx) (sa sb : SReg) (off : BitVec 13)
  /-- BC_GEU (R173). -/
  | bcGeu (b : BayIx) (sa sb : SReg) (off : BitVec 13)
  /-- BC_LE (R173). -/
  | bcLe (b : BayIx) (sa sb : SReg) (off : BitVec 13)
  /-- BC_GT (R173). -/
  | bcGt (b : BayIx) (sa sb : SReg) (off : BitVec 13)
  /-- BC_TZ (R173). -/
  | bcTz (b : BayIx) (sa sb : SReg) (off : BitVec 13)
  /-- BC_TNZ (R173). -/
  | bcTnz (b : BayIx) (sa sb : SReg) (off : BitVec 13)
  /-- JREL (R173). -/
  | jrel (b : BayIx) (sd : SReg) (off : BitVec 21)
  /-- JREG (R173). -/
  | jreg (b : BayIx) (sd sa : SReg) (imm : BitVec 14)
  /-- BPANY (R173). -/
  | bpany (b : BayIx) (pa : PReg) (off : BitVec 17)
  /-- BPNONE (R173). -/
  | bpnone (b : BayIx) (pa : PReg) (off : BitVec 17)
  /-- LD_B (R174). -/
  | ldB (b : BayIx) (sd sa : SReg) (imm : BitVec 14)
  /-- LD_BU (R174). -/
  | ldBu (b : BayIx) (sd sa : SReg) (imm : BitVec 14)
  /-- LD_H (R174). -/
  | ldH (b : BayIx) (sd sa : SReg) (imm : BitVec 14)
  /-- LD_HU (R174). -/
  | ldHu (b : BayIx) (sd sa : SReg) (imm : BitVec 14)
  /-- LD_W (R174). -/
  | ldW (b : BayIx) (sd sa : SReg) (imm : BitVec 14)
  /-- ST_B (R174). -/
  | stB (b : BayIx) (s sa : SReg) (imm : BitVec 14)
  /-- ST_H (R174). -/
  | stH (b : BayIx) (s sa : SReg) (imm : BitVec 14)
  /-- ST_W (R174). -/
  | stW (b : BayIx) (s sa : SReg) (imm : BitVec 14)
  /-- VLD (R175). -/
  | vld (b : BayIx) (vd : VReg) (sa : SReg) (pg : PReg) (off : BitVec 13)
  /-- VST (R175). -/
  | vst (b : BayIx) (vd : VReg) (sa : SReg) (pg : PReg) (off : BitVec 13)
  /-- VLDS (R175). -/
  | vlds (b : BayIx) (vd : VReg) (sa sb : SReg) (pg : PReg)
  /-- VSTS (R175). -/
  | vsts (b : BayIx) (vd : VReg) (sa sb : SReg) (pg : PReg)
  /-- VLDBU (R175). -/
  | vldbu (b : BayIx) (vd : VReg) (sa : SReg) (pg : PReg) (off : BitVec 13)
  /-- VSTB (R175). -/
  | vstb (b : BayIx) (vd : VReg) (sa : SReg) (pg : PReg) (off : BitVec 13)
  /-- LFR (R176). -/
  | lfr (b : BayIx) (vd : VReg) (sa : SReg) (age : BitVec 4) (fld : BitVec 2)
  /-- EMIT (R177). -/
  | emit (b : BayIx) (va : VReg)
  /-- YIELD (R178). -/
  | yield (b : BayIx)
  /-- HALT (R196). -/
  | halt (b : BayIx)
  /-- CPOST (R178). -/
  | cpost (b : BayIx) (sd sa sb : SReg)
  /-- CWAIT (R178). -/
  | cwait (b : BayIx) (flag : BitVec 4)
  /-- MFC (R179). -/
  | mfc (b : BayIx) (s : SReg) (csr : Byte)
  /-- MTC (R179). -/
  | mtc (b : BayIx) (s : SReg) (csr : Byte)
  /-- FENCE (R178). -/
  | fence (b : BayIx)
  /-- VADD (R180). -/
  | vadd (b : BayIx) (vd va : VReg) (vb : VSrc) (pg : PReg) (w : Bool)
  /-- VSUB (R180). -/
  | vsub (b : BayIx) (vd va : VReg) (vb : VSrc) (pg : PReg) (w : Bool)
  /-- VADDS (R180). -/
  | vadds (b : BayIx) (vd va : VReg) (vb : VSrc) (pg : PReg) (w : Bool)
  /-- VSUBS (R180). -/
  | vsubs (b : BayIx) (vd va : VReg) (vb : VSrc) (pg : PReg) (w : Bool)
  /-- VADDUS (R180). -/
  | vaddus (b : BayIx) (vd va : VReg) (vb : VSrc) (pg : PReg) (w : Bool)
  /-- VSUBUS (R180). -/
  | vsubus (b : BayIx) (vd va : VReg) (vb : VSrc) (pg : PReg) (w : Bool)
  /-- VNEG (R180). -/
  | vneg (b : BayIx) (vd va : VReg) (pg : PReg) (w : Bool)
  /-- VNEGS (R180). -/
  | vnegs (b : BayIx) (vd va : VReg) (pg : PReg) (w : Bool)
  /-- VABS (R180). -/
  | vabs (b : BayIx) (vd va : VReg) (pg : PReg) (w : Bool)
  /-- VABSS (R180). -/
  | vabss (b : BayIx) (vd va : VReg) (pg : PReg) (w : Bool)
  /-- VABSDU (R180). -/
  | vabsdu (b : BayIx) (vd va : VReg) (vb : VSrc) (pg : PReg) (w : Bool)
  /-- VAVGU (R180). -/
  | vavgu (b : BayIx) (vd va : VReg) (vb : VSrc) (pg : PReg) (w : Bool)
  /-- VAND (R180). -/
  | vand (b : BayIx) (vd va : VReg) (vb : VSrc) (pg : PReg) (w : Bool)
  /-- VOR (R180). -/
  | vor (b : BayIx) (vd va : VReg) (vb : VSrc) (pg : PReg) (w : Bool)
  /-- VXOR (R180). -/
  | vxor (b : BayIx) (vd va : VReg) (vb : VSrc) (pg : PReg) (w : Bool)
  /-- VANDN (R180). -/
  | vandn (b : BayIx) (vd va : VReg) (vb : VSrc) (pg : PReg) (w : Bool)
  /-- VMIN (R180). -/
  | vmin (b : BayIx) (vd va : VReg) (vb : VSrc) (pg : PReg) (w : Bool)
  /-- VMAX (R180). -/
  | vmax (b : BayIx) (vd va : VReg) (vb : VSrc) (pg : PReg) (w : Bool)
  /-- VMINU (R180). -/
  | vminu (b : BayIx) (vd va : VReg) (vb : VSrc) (pg : PReg) (w : Bool)
  /-- VMAXU (R180). -/
  | vmaxu (b : BayIx) (vd va : VReg) (vb : VSrc) (pg : PReg) (w : Bool)
  /-- VMUL (R180). -/
  | vmul (b : BayIx) (vd va : VReg) (vb : VSrc) (pg : PReg) (w : Bool)
  /-- VMULHS (R180). -/
  | vmulhs (b : BayIx) (vd va : VReg) (vb : VSrc) (pg : PReg) (w : Bool)
  /-- VMULHU (R180). -/
  | vmulhu (b : BayIx) (vd va : VReg) (vb : VSrc) (pg : PReg) (w : Bool)
  /-- VMULQ (R180). -/
  | vmulq (b : BayIx) (vd va : VReg) (vb : VSrc) (pg : PReg)
  /-- VMULUS (R180). -/
  | vmulus (b : BayIx) (vd va : VReg) (vb : VSrc) (pg : PReg) (w : Bool)
  /-- VMAC (R181). -/
  | vmac (b : BayIx) (vd va : VReg) (vb : VSrc) (pg : PReg) (w : Bool)
  /-- VMACS (R181). -/
  | vmacs (b : BayIx) (vd va : VReg) (vb : VSrc) (pg : PReg) (w : Bool)
  /-- VMACUS (R181). -/
  | vmacus (b : BayIx) (vd va : VReg) (vb : VSrc) (pg : PReg) (w : Bool)
  /-- VMSUB (R181). -/
  | vmsub (b : BayIx) (vd va : VReg) (vb : VSrc) (pg : PReg) (w : Bool)
  /-- VMACW (R181). -/
  | vmacw (b : BayIx) (vd va : VReg) (vb : VSrc) (pg : PReg)
  /-- VMACWU (R181). -/
  | vmacwu (b : BayIx) (vd va : VReg) (vb : VSrc) (pg : PReg)
  /-- VMACWS (R181). -/
  | vmacws (b : BayIx) (vd va : VReg) (vb : VSrc) (pg : PReg)
  /-- VSADW (R181). -/
  | vsadw (b : BayIx) (vd va : VReg) (vb : VSrc) (pg : PReg)
  /-- VCMP_EQ (R182). -/
  | vcmpEq (b : BayIx) (pd : PReg) (va : VReg) (vb : VSrc) (pg : PReg) (w : Bool)
  /-- VCMP_NE (R182). -/
  | vcmpNe (b : BayIx) (pd : PReg) (va : VReg) (vb : VSrc) (pg : PReg) (w : Bool)
  /-- VCMP_LT (R182). -/
  | vcmpLt (b : BayIx) (pd : PReg) (va : VReg) (vb : VSrc) (pg : PReg) (w : Bool)
  /-- VCMP_LE (R182). -/
  | vcmpLe (b : BayIx) (pd : PReg) (va : VReg) (vb : VSrc) (pg : PReg) (w : Bool)
  /-- VCMP_GT (R182). -/
  | vcmpGt (b : BayIx) (pd : PReg) (va : VReg) (vb : VSrc) (pg : PReg) (w : Bool)
  /-- VCMP_GE (R182). -/
  | vcmpGe (b : BayIx) (pd : PReg) (va : VReg) (vb : VSrc) (pg : PReg) (w : Bool)
  /-- VCMP_LTU (R182). -/
  | vcmpLtu (b : BayIx) (pd : PReg) (va : VReg) (vb : VSrc) (pg : PReg) (w : Bool)
  /-- VCMP_LEU (R182). -/
  | vcmpLeu (b : BayIx) (pd : PReg) (va : VReg) (vb : VSrc) (pg : PReg) (w : Bool)
  /-- VCMP_GTU (R182). -/
  | vcmpGtu (b : BayIx) (pd : PReg) (va : VReg) (vb : VSrc) (pg : PReg) (w : Bool)
  /-- VCMP_GEU (R182). -/
  | vcmpGeu (b : BayIx) (pd : PReg) (va : VReg) (vb : VSrc) (pg : PReg) (w : Bool)
  /-- VCMP_TEST (R182). -/
  | vcmpTest (b : BayIx) (pd : PReg) (va : VReg) (vb : VSrc) (pg : PReg) (w : Bool)
  /-- VSLL (R183). -/
  | vsll (b : BayIx) (vd va : VReg) (vb : VSrc) (pg : PReg) (w : Bool)
  /-- VSRL (R183). -/
  | vsrl (b : BayIx) (vd va : VReg) (vb : VSrc) (pg : PReg) (w : Bool)
  /-- VSRA (R183). -/
  | vsra (b : BayIx) (vd va : VReg) (vb : VSrc) (pg : PReg) (w : Bool)
  /-- VROL (R183). -/
  | vrol (b : BayIx) (vd va : VReg) (vb : VSrc) (pg : PReg) (w : Bool)
  /-- VROR (R183). -/
  | vror (b : BayIx) (vd va : VReg) (vb : VSrc) (pg : PReg) (w : Bool)
  /-- VSRAR (R183). -/
  | vsrar (b : BayIx) (vd va : VReg) (vb : VSrc) (pg : PReg) (w : Bool)
  /-- VSRLR (R183). -/
  | vsrlr (b : BayIx) (vd va : VReg) (vb : VSrc) (pg : PReg) (w : Bool)
  /-- VSLLS (R183). -/
  | vslls (b : BayIx) (vd va : VReg) (vb : VSrc) (pg : PReg) (w : Bool)
  /-- VEXT (R184). -/
  | vext (b : BayIx) (vd va vb : VReg) (sc : SReg) (w : Bool)
  /-- VSLUP (R184). -/
  | vslup (b : BayIx) (vd va : VReg) (sc : SReg) (w : Bool)
  /-- VSLDN (R184). -/
  | vsldn (b : BayIx) (vd va : VReg) (sc : SReg) (w : Bool)
  /-- VROT (R184). -/
  | vrot (b : BayIx) (vd va : VReg) (sc : SReg) (w : Bool)
  /-- VREV (R184). -/
  | vrev (b : BayIx) (vd va : VReg) (w : Bool)
  /-- VTBL (R184). -/
  | vtbl (b : BayIx) (vd va vb : VReg) (w : Bool)
  /-- VSPLAT (R184). -/
  | vsplat (b : BayIx) (vd va : VReg) (sc : SReg) (w : Bool)
  /-- VZIPL (R184). -/
  | vzipl (b : BayIx) (vd va vb : VReg) (w : Bool)
  /-- VZIPH (R184). -/
  | vziph (b : BayIx) (vd va vb : VReg) (w : Bool)
  /-- VUZPE (R184). -/
  | vuzpe (b : BayIx) (vd va vb : VReg) (w : Bool)
  /-- VUZPO (R184). -/
  | vuzpo (b : BayIx) (vd va vb : VReg) (w : Bool)
  /-- VRSUM (R185). -/
  | vrsum (b : BayIx) (sd : SReg) (va : VReg) (pg : PReg) (w : Bool)
  /-- VRSUMU (R185). -/
  | vrsumu (b : BayIx) (sd : SReg) (va : VReg) (pg : PReg) (w : Bool)
  /-- VRMIN (R185). -/
  | vrmin (b : BayIx) (sd : SReg) (va : VReg) (pg : PReg) (w : Bool)
  /-- VRMAX (R185). -/
  | vrmax (b : BayIx) (sd : SReg) (va : VReg) (pg : PReg) (w : Bool)
  /-- VRMINU (R185). -/
  | vrminu (b : BayIx) (sd : SReg) (va : VReg) (pg : PReg) (w : Bool)
  /-- VRMAXU (R185). -/
  | vrmaxu (b : BayIx) (sd : SReg) (va : VReg) (pg : PReg) (w : Bool)
  /-- VRBAND (R185). -/
  | vrband (b : BayIx) (sd : SReg) (va : VReg) (pg : PReg) (w : Bool)
  /-- VRBOR (R185). -/
  | vrbor (b : BayIx) (sd : SReg) (va : VReg) (pg : PReg) (w : Bool)
  /-- VRARGMAX (R185). -/
  | vrargmax (b : BayIx) (sd : SReg) (va : VReg) (pg : PReg) (w : Bool)
  /-- VRARGMIN (R185). -/
  | vrargmin (b : BayIx) (sd : SReg) (va : VReg) (pg : PReg) (w : Bool)
  /-- VMOV (R186). -/
  | vmov (b : BayIx) (vd va : VReg) (pg : PReg) (w : Bool)
  /-- VSEL (R186). -/
  | vsel (b : BayIx) (vd va : VReg) (vb : VSrc) (pg : PReg) (w : Bool)
  /-- VIOTA (R186). -/
  | viota (b : BayIx) (vd : VReg) (pg : PReg) (w : Bool)
  /-- VINS (R186). -/
  | vins (b : BayIx) (vd : VReg) (k : Fin 32) (sb : SReg) (w : Bool)
  /-- VEXTR (R186). -/
  | vextr (b : BayIx) (sd : SReg) (va : VReg) (k : Fin 32) (w : Bool)
  /-- VEXTRU (R186). -/
  | vextru (b : BayIx) (sd : SReg) (va : VReg) (k : Fin 32) (w : Bool)
  /-- VWIDEN (R186). -/
  | vwiden (b : BayIx) (vd va : VReg) (pg : PReg)
  /-- VWIDENU (R186). -/
  | vwidenu (b : BayIx) (vd va : VReg) (pg : PReg)
  /-- VNARROW (R186). -/
  | vnarrow (b : BayIx) (vd va : VReg) (pg : PReg)
  /-- VNARROWS (R186). -/
  | vnarrows (b : BayIx) (vd va : VReg) (pg : PReg)
  /-- VNARROWUS (R186). -/
  | vnarrowus (b : BayIx) (vd va : VReg) (pg : PReg)
  /-- PAND (R187). -/
  | pand (b : BayIx) (pd pa pb : PReg)
  /-- POR (R187). -/
  | por (b : BayIx) (pd pa pb : PReg)
  /-- PXOR (R187). -/
  | pxor (b : BayIx) (pd pa pb : PReg)
  /-- PANDN (R187). -/
  | pandn (b : BayIx) (pd pa pb : PReg)
  /-- PNOT (R187). -/
  | pnot (b : BayIx) (pd pa : PReg)
  /-- PSET (R187). -/
  | pset (b : BayIx) (pd : PReg)
  /-- PCLR (R187). -/
  | pclr (b : BayIx) (pd : PReg)
  /-- PFIRST (R187). -/
  | pfirst (b : BayIx) (pd pa : PReg)
  /-- PTOS (R187). -/
  | ptos (b : BayIx) (pa : PReg) (s : SReg)
  /-- STOP (R187). -/
  | stop (b : BayIx) (pd : PReg) (s : SReg)
  /-- PCNT (R187). -/
  | pcnt (b : BayIx) (pa : PReg) (s : SReg)
  /-- VLI (R188). -/
  | vli (b : BayIx) (vd : VReg) (imm : BitVec 16)
  /-- TAP_RESET (R419). -/
  | tapReset
  /-- EXTEST (R420). -/
  | extest (drive : Option (List Bool) := none)
  /-- SAMPLE_PRELOAD (R420). -/
  | samplePreload (pins : List Bool) (preload : Option (List Bool) := none)
  /-- IDCODE (R420). -/
  | idcode
  /-- CLAMP (R420). -/
  | clamp
  /-- HIGHZ (R420). -/
  | highz
  /-- CP_HALT (R422). -/
  | cpHalt (value : Word := 0)
  /-- CP_RESUME (R422). -/
  | cpResume (value : Word := 0)
  /-- CP_STEP (R422). -/
  | cpStep (value : Word := 0)
  /-- BAY_HALT (R422). -/
  | bayHalt (value : Word := 0)
  /-- BAY_RESUME (R422). -/
  | bayResume (value : Word := 0)
  /-- BAY_STEP (R422). -/
  | bayStep (value : Word := 0)
  /-- SEL_WR (R431). -/
  | selWr (value : Word)
  /-- DBG_ACCESS (R427). -/
  | dbgAccess (dr : BitVec 80)
  /-- REFCLK_RETURN (R459). -/
  | refclkReturn
  /-- CHILD_LINK_LOSS (R131). -/
  | childLinkLoss
  /-- FRAME_RESTORE_DONE (R201). -/
  | frameRestoreDone (b : BayIx)
  /-- HK_CAL_CONVERGED (R386). -/
  | hkCalConverged (conv : ConvIx)
  /-- NVM_DEFERRED_WRITE (R328). -/
  | nvmDeferredWrite (item : NvItem)
  /-- CHORE_AGE_LIMIT (R28). -/
  | choreAgeLimit (chore : Fin 9) (t : Nat)
  /-- CAL_CAPTURE_TIMEOUT (R275). -/
  | calCaptureTimeout (t : Nat)
  /-- CHARGER_SOURCE_LOSS (R341). -/
  | chargerSourceLoss (aux : Bool)
  /-- CHARGE_TERMINATION (R342). -/
  | chargeTermination
  deriving DecidableEq, Repr

end Sys2Proof
end

