-- ==== Sys2Proof/Myvik.lean ====
section
/-! DEFINITION. The Myvik instructions as a bay executes them (R171–R188): the instruction rows of the command table without the bay
that issues them. -/

namespace Sys2Proof

/-- A Myvik instruction. -/
inductive Myvik where
  /-- ADD (R171). -/
  | add (sd sa sb : SReg)
  /-- SUB (R171). -/
  | sub (sd sa sb : SReg)
  /-- AND (R171). -/
  | and (sd sa sb : SReg)
  /-- OR (R171). -/
  | or (sd sa sb : SReg)
  /-- XOR (R171). -/
  | xor (sd sa sb : SReg)
  /-- ANDN (R171). -/
  | andn (sd sa sb : SReg)
  /-- SLL (R171). -/
  | sll (sd sa sb : SReg)
  /-- SRL (R171). -/
  | srl (sd sa sb : SReg)
  /-- SRA (R171). -/
  | sra (sd sa sb : SReg)
  /-- ROL (R171). -/
  | rol (sd sa sb : SReg)
  /-- ROR (R171). -/
  | ror (sd sa sb : SReg)
  /-- SETLT (R171). -/
  | setlt (sd sa sb : SReg)
  /-- SETLTU (R171). -/
  | setltu (sd sa sb : SReg)
  /-- MIN (R171). -/
  | min (sd sa sb : SReg)
  /-- MAX (R171). -/
  | max (sd sa sb : SReg)
  /-- MINU (R171). -/
  | minu (sd sa sb : SReg)
  /-- MAXU (R171). -/
  | maxu (sd sa sb : SReg)
  /-- MUL (R171). -/
  | mul (sd sa sb : SReg)
  /-- MULHS (R171). -/
  | mulhs (sd sa sb : SReg)
  /-- MULHU (R171). -/
  | mulhu (sd sa sb : SReg)
  /-- DIV (R190). -/
  | div (sd sa sb : SReg)
  /-- DIVU (R190). -/
  | divu (sd sa sb : SReg)
  /-- REM (R190). -/
  | rem (sd sa sb : SReg)
  /-- REMU (R190). -/
  | remu (sd sa sb : SReg)
  /-- CLZ (R171). -/
  | clz (sd sa : SReg)
  /-- POPC (R171). -/
  | popc (sd sa : SReg)
  /-- ADDK (R172). -/
  | addk (sd sa : SReg) (imm : BitVec 14)
  /-- ANDK (R172). -/
  | andk (sd sa : SReg) (imm : BitVec 14)
  /-- ORK (R172). -/
  | ork (sd sa : SReg) (imm : BitVec 14)
  /-- XORK (R172). -/
  | xork (sd sa : SReg) (imm : BitVec 14)
  /-- SETLTK (R172). -/
  | setltk (sd sa : SReg) (imm : BitVec 14)
  /-- SETLTUK (R172). -/
  | setltuk (sd sa : SReg) (imm : BitVec 14)
  /-- RSUBK (R172). -/
  | rsubk (sd sa : SReg) (imm : BitVec 14)
  /-- KSET (R172). -/
  | kset (sd : SReg) (imm : BitVec 19)
  /-- KHI (R172). -/
  | khi (sd : SReg) (imm : BitVec 16)
  /-- PCADD (R172). -/
  | pcadd (sd : SReg) (imm : BitVec 19)
  /-- SLLI (R172). -/
  | slli (sd sa : SReg) (amt : Byte)
  /-- SRLI (R172). -/
  | srli (sd sa : SReg) (amt : Byte)
  /-- SRAI (R172). -/
  | srai (sd sa : SReg) (amt : Byte)
  /-- ROLI (R172). -/
  | roli (sd sa : SReg) (amt : Byte)
  /-- RORI (R172). -/
  | rori (sd sa : SReg) (amt : Byte)
  /-- BC_EQ (R173). -/
  | bcEq (sa sb : SReg) (off : BitVec 13)
  /-- BC_NE (R173). -/
  | bcNe (sa sb : SReg) (off : BitVec 13)
  /-- BC_LT (R173). -/
  | bcLt (sa sb : SReg) (off : BitVec 13)
  /-- BC_GE (R173). -/
  | bcGe (sa sb : SReg) (off : BitVec 13)
  /-- BC_LTU (R173). -/
  | bcLtu (sa sb : SReg) (off : BitVec 13)
  /-- BC_GEU (R173). -/
  | bcGeu (sa sb : SReg) (off : BitVec 13)
  /-- BC_LE (R173). -/
  | bcLe (sa sb : SReg) (off : BitVec 13)
  /-- BC_GT (R173). -/
  | bcGt (sa sb : SReg) (off : BitVec 13)
  /-- BC_TZ (R173). -/
  | bcTz (sa sb : SReg) (off : BitVec 13)
  /-- BC_TNZ (R173). -/
  | bcTnz (sa sb : SReg) (off : BitVec 13)
  /-- JREL (R173). -/
  | jrel (sd : SReg) (off : BitVec 21)
  /-- JREG (R173). -/
  | jreg (sd sa : SReg) (imm : BitVec 14)
  /-- BPANY (R173). -/
  | bpany (pa : PReg) (off : BitVec 17)
  /-- BPNONE (R173). -/
  | bpnone (pa : PReg) (off : BitVec 17)
  /-- LD_B (R174). -/
  | ldB (sd sa : SReg) (imm : BitVec 14)
  /-- LD_BU (R174). -/
  | ldBu (sd sa : SReg) (imm : BitVec 14)
  /-- LD_H (R174). -/
  | ldH (sd sa : SReg) (imm : BitVec 14)
  /-- LD_HU (R174). -/
  | ldHu (sd sa : SReg) (imm : BitVec 14)
  /-- LD_W (R174). -/
  | ldW (sd sa : SReg) (imm : BitVec 14)
  /-- ST_B (R174). -/
  | stB (s sa : SReg) (imm : BitVec 14)
  /-- ST_H (R174). -/
  | stH (s sa : SReg) (imm : BitVec 14)
  /-- ST_W (R174). -/
  | stW (s sa : SReg) (imm : BitVec 14)
  /-- VLD (R175). -/
  | vld (vd : VReg) (sa : SReg) (pg : PReg) (off : BitVec 13)
  /-- VST (R175). -/
  | vst (vd : VReg) (sa : SReg) (pg : PReg) (off : BitVec 13)
  /-- VLDS (R175). -/
  | vlds (vd : VReg) (sa sb : SReg) (pg : PReg)
  /-- VSTS (R175). -/
  | vsts (vd : VReg) (sa sb : SReg) (pg : PReg)
  /-- VLDBU (R175). -/
  | vldbu (vd : VReg) (sa : SReg) (pg : PReg) (off : BitVec 13)
  /-- VSTB (R175). -/
  | vstb (vd : VReg) (sa : SReg) (pg : PReg) (off : BitVec 13)
  /-- LFR (R176). -/
  | lfr (vd : VReg) (sa : SReg) (age : BitVec 4) (fld : BitVec 2)
  /-- EMIT (R177). -/
  | emit (va : VReg)
  /-- YIELD (R178). -/
  | yield
  /-- HALT (R196). -/
  | halt
  /-- CPOST (R178). -/
  | cpost (sd sa sb : SReg)
  /-- CWAIT (R178). -/
  | cwait (flag : BitVec 4)
  /-- MFC (R179). -/
  | mfc (s : SReg) (csr : Byte)
  /-- MTC (R179). -/
  | mtc (s : SReg) (csr : Byte)
  /-- FENCE (R178). -/
  | fence
  /-- VADD (R180). -/
  | vadd (vd va : VReg) (vb : VSrc) (pg : PReg) (w : Bool)
  /-- VSUB (R180). -/
  | vsub (vd va : VReg) (vb : VSrc) (pg : PReg) (w : Bool)
  /-- VADDS (R180). -/
  | vadds (vd va : VReg) (vb : VSrc) (pg : PReg) (w : Bool)
  /-- VSUBS (R180). -/
  | vsubs (vd va : VReg) (vb : VSrc) (pg : PReg) (w : Bool)
  /-- VADDUS (R180). -/
  | vaddus (vd va : VReg) (vb : VSrc) (pg : PReg) (w : Bool)
  /-- VSUBUS (R180). -/
  | vsubus (vd va : VReg) (vb : VSrc) (pg : PReg) (w : Bool)
  /-- VNEG (R180). -/
  | vneg (vd va : VReg) (pg : PReg) (w : Bool)
  /-- VNEGS (R180). -/
  | vnegs (vd va : VReg) (pg : PReg) (w : Bool)
  /-- VABS (R180). -/
  | vabs (vd va : VReg) (pg : PReg) (w : Bool)
  /-- VABSS (R180). -/
  | vabss (vd va : VReg) (pg : PReg) (w : Bool)
  /-- VABSDU (R180). -/
  | vabsdu (vd va : VReg) (vb : VSrc) (pg : PReg) (w : Bool)
  /-- VAVGU (R180). -/
  | vavgu (vd va : VReg) (vb : VSrc) (pg : PReg) (w : Bool)
  /-- VAND (R180). -/
  | vand (vd va : VReg) (vb : VSrc) (pg : PReg) (w : Bool)
  /-- VOR (R180). -/
  | vor (vd va : VReg) (vb : VSrc) (pg : PReg) (w : Bool)
  /-- VXOR (R180). -/
  | vxor (vd va : VReg) (vb : VSrc) (pg : PReg) (w : Bool)
  /-- VANDN (R180). -/
  | vandn (vd va : VReg) (vb : VSrc) (pg : PReg) (w : Bool)
  /-- VMIN (R180). -/
  | vmin (vd va : VReg) (vb : VSrc) (pg : PReg) (w : Bool)
  /-- VMAX (R180). -/
  | vmax (vd va : VReg) (vb : VSrc) (pg : PReg) (w : Bool)
  /-- VMINU (R180). -/
  | vminu (vd va : VReg) (vb : VSrc) (pg : PReg) (w : Bool)
  /-- VMAXU (R180). -/
  | vmaxu (vd va : VReg) (vb : VSrc) (pg : PReg) (w : Bool)
  /-- VMUL (R180). -/
  | vmul (vd va : VReg) (vb : VSrc) (pg : PReg) (w : Bool)
  /-- VMULHS (R180). -/
  | vmulhs (vd va : VReg) (vb : VSrc) (pg : PReg) (w : Bool)
  /-- VMULHU (R180). -/
  | vmulhu (vd va : VReg) (vb : VSrc) (pg : PReg) (w : Bool)
  /-- VMULQ (R180). -/
  | vmulq (vd va : VReg) (vb : VSrc) (pg : PReg)
  /-- VMULUS (R180). -/
  | vmulus (vd va : VReg) (vb : VSrc) (pg : PReg) (w : Bool)
  /-- VMAC (R181). -/
  | vmac (vd va : VReg) (vb : VSrc) (pg : PReg) (w : Bool)
  /-- VMACS (R181). -/
  | vmacs (vd va : VReg) (vb : VSrc) (pg : PReg) (w : Bool)
  /-- VMACUS (R181). -/
  | vmacus (vd va : VReg) (vb : VSrc) (pg : PReg) (w : Bool)
  /-- VMSUB (R181). -/
  | vmsub (vd va : VReg) (vb : VSrc) (pg : PReg) (w : Bool)
  /-- VMACW (R181). -/
  | vmacw (vd va : VReg) (vb : VSrc) (pg : PReg)
  /-- VMACWU (R181). -/
  | vmacwu (vd va : VReg) (vb : VSrc) (pg : PReg)
  /-- VMACWS (R181). -/
  | vmacws (vd va : VReg) (vb : VSrc) (pg : PReg)
  /-- VSADW (R181). -/
  | vsadw (vd va : VReg) (vb : VSrc) (pg : PReg)
  /-- VCMP_EQ (R182). -/
  | vcmpEq (pd : PReg) (va : VReg) (vb : VSrc) (pg : PReg) (w : Bool)
  /-- VCMP_NE (R182). -/
  | vcmpNe (pd : PReg) (va : VReg) (vb : VSrc) (pg : PReg) (w : Bool)
  /-- VCMP_LT (R182). -/
  | vcmpLt (pd : PReg) (va : VReg) (vb : VSrc) (pg : PReg) (w : Bool)
  /-- VCMP_LE (R182). -/
  | vcmpLe (pd : PReg) (va : VReg) (vb : VSrc) (pg : PReg) (w : Bool)
  /-- VCMP_GT (R182). -/
  | vcmpGt (pd : PReg) (va : VReg) (vb : VSrc) (pg : PReg) (w : Bool)
  /-- VCMP_GE (R182). -/
  | vcmpGe (pd : PReg) (va : VReg) (vb : VSrc) (pg : PReg) (w : Bool)
  /-- VCMP_LTU (R182). -/
  | vcmpLtu (pd : PReg) (va : VReg) (vb : VSrc) (pg : PReg) (w : Bool)
  /-- VCMP_LEU (R182). -/
  | vcmpLeu (pd : PReg) (va : VReg) (vb : VSrc) (pg : PReg) (w : Bool)
  /-- VCMP_GTU (R182). -/
  | vcmpGtu (pd : PReg) (va : VReg) (vb : VSrc) (pg : PReg) (w : Bool)
  /-- VCMP_GEU (R182). -/
  | vcmpGeu (pd : PReg) (va : VReg) (vb : VSrc) (pg : PReg) (w : Bool)
  /-- VCMP_TEST (R182). -/
  | vcmpTest (pd : PReg) (va : VReg) (vb : VSrc) (pg : PReg) (w : Bool)
  /-- VSLL (R183). -/
  | vsll (vd va : VReg) (vb : VSrc) (pg : PReg) (w : Bool)
  /-- VSRL (R183). -/
  | vsrl (vd va : VReg) (vb : VSrc) (pg : PReg) (w : Bool)
  /-- VSRA (R183). -/
  | vsra (vd va : VReg) (vb : VSrc) (pg : PReg) (w : Bool)
  /-- VROL (R183). -/
  | vrol (vd va : VReg) (vb : VSrc) (pg : PReg) (w : Bool)
  /-- VROR (R183). -/
  | vror (vd va : VReg) (vb : VSrc) (pg : PReg) (w : Bool)
  /-- VSRAR (R183). -/
  | vsrar (vd va : VReg) (vb : VSrc) (pg : PReg) (w : Bool)
  /-- VSRLR (R183). -/
  | vsrlr (vd va : VReg) (vb : VSrc) (pg : PReg) (w : Bool)
  /-- VSLLS (R183). -/
  | vslls (vd va : VReg) (vb : VSrc) (pg : PReg) (w : Bool)
  /-- VEXT (R184). -/
  | vext (vd va vb : VReg) (sc : SReg) (w : Bool)
  /-- VSLUP (R184). -/
  | vslup (vd va : VReg) (sc : SReg) (w : Bool)
  /-- VSLDN (R184). -/
  | vsldn (vd va : VReg) (sc : SReg) (w : Bool)
  /-- VROT (R184). -/
  | vrot (vd va : VReg) (sc : SReg) (w : Bool)
  /-- VREV (R184). -/
  | vrev (vd va : VReg) (w : Bool)
  /-- VTBL (R184). -/
  | vtbl (vd va vb : VReg) (w : Bool)
  /-- VSPLAT (R184). -/
  | vsplat (vd va : VReg) (sc : SReg) (w : Bool)
  /-- VZIPL (R184). -/
  | vzipl (vd va vb : VReg) (w : Bool)
  /-- VZIPH (R184). -/
  | vziph (vd va vb : VReg) (w : Bool)
  /-- VUZPE (R184). -/
  | vuzpe (vd va vb : VReg) (w : Bool)
  /-- VUZPO (R184). -/
  | vuzpo (vd va vb : VReg) (w : Bool)
  /-- VRSUM (R185). -/
  | vrsum (sd : SReg) (va : VReg) (pg : PReg) (w : Bool)
  /-- VRSUMU (R185). -/
  | vrsumu (sd : SReg) (va : VReg) (pg : PReg) (w : Bool)
  /-- VRMIN (R185). -/
  | vrmin (sd : SReg) (va : VReg) (pg : PReg) (w : Bool)
  /-- VRMAX (R185). -/
  | vrmax (sd : SReg) (va : VReg) (pg : PReg) (w : Bool)
  /-- VRMINU (R185). -/
  | vrminu (sd : SReg) (va : VReg) (pg : PReg) (w : Bool)
  /-- VRMAXU (R185). -/
  | vrmaxu (sd : SReg) (va : VReg) (pg : PReg) (w : Bool)
  /-- VRBAND (R185). -/
  | vrband (sd : SReg) (va : VReg) (pg : PReg) (w : Bool)
  /-- VRBOR (R185). -/
  | vrbor (sd : SReg) (va : VReg) (pg : PReg) (w : Bool)
  /-- VRARGMAX (R185). -/
  | vrargmax (sd : SReg) (va : VReg) (pg : PReg) (w : Bool)
  /-- VRARGMIN (R185). -/
  | vrargmin (sd : SReg) (va : VReg) (pg : PReg) (w : Bool)
  /-- VMOV (R186). -/
  | vmov (vd va : VReg) (pg : PReg) (w : Bool)
  /-- VSEL (R186). -/
  | vsel (vd va : VReg) (vb : VSrc) (pg : PReg) (w : Bool)
  /-- VIOTA (R186). -/
  | viota (vd : VReg) (pg : PReg) (w : Bool)
  /-- VINS (R186). -/
  | vins (vd : VReg) (k : Fin 32) (sb : SReg) (w : Bool)
  /-- VEXTR (R186). -/
  | vextr (sd : SReg) (va : VReg) (k : Fin 32) (w : Bool)
  /-- VEXTRU (R186). -/
  | vextru (sd : SReg) (va : VReg) (k : Fin 32) (w : Bool)
  /-- VWIDEN (R186). -/
  | vwiden (vd va : VReg) (pg : PReg)
  /-- VWIDENU (R186). -/
  | vwidenu (vd va : VReg) (pg : PReg)
  /-- VNARROW (R186). -/
  | vnarrow (vd va : VReg) (pg : PReg)
  /-- VNARROWS (R186). -/
  | vnarrows (vd va : VReg) (pg : PReg)
  /-- VNARROWUS (R186). -/
  | vnarrowus (vd va : VReg) (pg : PReg)
  /-- PAND (R187). -/
  | pand (pd pa pb : PReg)
  /-- POR (R187). -/
  | por (pd pa pb : PReg)
  /-- PXOR (R187). -/
  | pxor (pd pa pb : PReg)
  /-- PANDN (R187). -/
  | pandn (pd pa pb : PReg)
  /-- PNOT (R187). -/
  | pnot (pd pa : PReg)
  /-- PSET (R187). -/
  | pset (pd : PReg)
  /-- PCLR (R187). -/
  | pclr (pd : PReg)
  /-- PFIRST (R187). -/
  | pfirst (pd pa : PReg)
  /-- PTOS (R187). -/
  | ptos (pa : PReg) (s : SReg)
  /-- STOP (R187). -/
  | stop (pd : PReg) (s : SReg)
  /-- PCNT (R187). -/
  | pcnt (pa : PReg) (s : SReg)
  /-- VLI (R188). -/
  | vli (vd : VReg) (imm : BitVec 16)
  deriving DecidableEq, Repr

/-- The bay and the instruction of a command that is a Myvik instruction. -/
def Instr.toMyvik (i : Instr) : Option (BayIx × Myvik) :=
  match i with
  | .lineTick _ => none
  | .shutterTimeout _ => none
  | .mapShadowLoadDone _ => none
  | .modeTransitionDone _ => none
  | .modeSetTimeout _ => none
  | .yardTempSample _ _ => none
  | .hayloftScrub _ _ _ => none
  | .mramScrub _ _ => none
  | .hbmRefresh _ => none
  | .logFlush _ => none
  | .telemetrySnapshot _ => none
  | .pllBandCheck _ _ _ => none
  | .flawCreditRefill _ => none
  | .encoderEdge _ _ _ _ _ => none
  | .zCapture _ => none
  | .predictorTimeout _ _ => none
  | .tickRequest _ => none
  | .tickCommit _ => none
  | .trigEdge _ _ => none
  | .internalPeriod _ => none
  | .ticksAllowed _ => none
  | .tick _ _ => none
  | .ctxAt _ => none
  | .ctxAck _ => none
  | .ctxCancelMsg _ => none
  | .dreq _ _ _ => none
  | .drsp _ _ => none
  | .hopMeasureDue _ => none
  | .enum _ => none
  | .enumAck _ => none
  | .aligned _ => none
  | .lost _ _ => none
  | .joinReq _ => none
  | .joinAt _ => none
  | .syncLoss _ => none
  | .syncLinkRecovered => none
  | .hopSymbolLock => none
  | .write _ _ _ _ => none
  | .read _ _ => none
  | .quadOn => none
  | .quadOff => none
  | .registerWrite _ _ _ => none
  | .mbxDoorbell _ => none
  | .fltClassClear _ => none
  | .nop _ _ _ => none
  | .identify _ _ => none
  | .getStatus _ _ => none
  | .fwRestart _ _ => none
  | .shipMode _ _ => none
  | .objChunk _ _ _ _ => none
  | .objEnd _ _ => none
  | .objAbort _ _ => none
  | .modeSet _ _ _ _ _ _ => none
  | .ctxSet _ _ _ _ _ => none
  | .ctxGet _ _ _ _ => none
  | .ctxSchedule _ _ _ _ => none
  | .ctxCancel _ _ _ => none
  | .ctxLockTimeout _ => none
  | .ctxStore _ _ _ _ => none
  | .ctxLoad _ _ _ _ => none
  | .tickSet _ _ _ _ _ _ _ _ _ _ => none
  | .ratioSet _ _ _ => none
  | .encSet _ _ _ _ _ _ _ => none
  | .calBegin _ _ _ _ _ _ _ => none
  | .calCapture _ _ _ _ => none
  | .calCaptureDone => none
  | .calStatus _ _ _ => none
  | .stringSet _ _ _ _ _ _ => none
  | .stringForm _ _ => none
  | .stringFormDone _ => none
  | .stringLeave _ _ => none
  | .stringStatus _ _ => none
  | .kernBegin _ _ _ _ _ _ _ => none
  | .asSet _ _ _ _ _ => none
  | .memWrite _ _ _ _ => none
  | .memRead _ _ _ _ => none
  | .tlbInv _ _ _ _ _ => none
  | .jobSet _ _ _ => none
  | .djFill _ _ _ _ _ _ => none
  | .djResume _ _ _ _ => none
  | .djDiscard _ _ _ _ => none
  | .cartSet _ _ _ _ => none
  | .cartCtrlResume _ _ _ => none
  | .cartCtrlAbort _ _ _ => none
  | .faultRead _ _ _ => none
  | .portSet _ _ _ _ _ _ => none
  | .portStart _ _ _ => none
  | .portStop _ _ _ => none
  | .laneSet _ _ _ _ _ _ _ _ => none
  | .streamSet _ _ _ _ _ _ => none
  | .streamEnable _ _ _ _ => none
  | .portStatus _ _ _ => none
  | .authChallenge _ _ _ _ => none
  | .authResponse _ _ _ => none
  | .sessionEnd _ _ => none
  | .enrol _ _ _ _ _ => none
  | .revoke _ _ _ _ => none
  | .timeSet _ _ _ _ => none
  | .sealExportSet _ _ _ => none
  | .zeroize _ _ => none
  | .debugUnlock _ _ => none
  | .fwBegin _ _ _ _ _ => none
  | .fwActivate _ _ _ => none
  | .fuseRead _ _ _ => none
  | .fuseProgram _ _ _ _ _ => none
  | .fuseProgramInst _ _ _ _ => none
  | .fusePulseDone _ => none
  | .nvmStatus _ _ => none
  | .telemRead _ _ => none
  | .logRead _ _ _ _ => none
  | .auditRead _ _ _ _ => none
  | .periphSet _ _ _ _ _ _ => none
  | .periphGet _ _ _ _ _ => none
  | .periphGo _ _ _ _ => none
  | .strobeBegin _ _ _ _ _ => none
  | .dacSet _ _ _ _ _ => none
  | .i2cXfer _ _ _ _ _ _ => none
  | .i2cXferDone _ _ _ => none
  | .hkRead _ _ _ _ => none
  | .lockstepFault => none
  | .mailboxesReady => none
  | .sessionExpiry _ _ => none
  | .challengeExpiry _ _ => none
  | .lockoutEnd _ _ _ => none
  | .lockoutJournalWrite _ _ _ => none
  | .entropyHealthFail _ => none
  | .tamperVoltage _ _ => none
  | .tamperClock _ _ => none
  | .tamperTemperature _ => none
  | .lidLight _ => none
  | .tamperPauseEnd => none
  | .lastRailGood _ => none
  | .porRelease _ => none
  | .fuseLoadDone => none
  | .selftestDone _ => none
  | .fwVerified => none
  | .hbmTrained => none
  | .railLoss _ => none
  | .resetN => none
  | .resetNRelease _ => none
  | .vaonInGood => none
  | .vaonInLoss => none
  | .backupDomainPor => none
  | .reconciliation _ _ => none
  | .rtcTrim => none
  | .chargerDetect _ _ => none
  | .chargerZoneRead _ _ => none
  | .chargerVbatThreshold _ => none
  | .chargerTimeout _ => none
  | .chargerCutback _ => none
  | .svcBtnLongPress => none
  | .svcBtnResetEnd => none
  | .refclkLoss => none
  | .pllaLockLoss _ => none
  | .pllaRelockAttempt => none
  | .pllaLock _ => none
  | .pllbLockLoss => none
  | .pllbRelockAttempt => none
  | .pllbLock => none
  | .portPllLockLoss _ => none
  | .portPllRelockAttempt _ => none
  | .portPllLock _ => none
  | .pllaPhaseWrite _ => none
  | .phaseStep _ => none
  | .pllbProfileGo _ => none
  | .pllbProfileSegmentEnd => none
  | .tmrGo _ => none
  | .tmrStop _ => none
  | .timerCountStep _ => none
  | .timerEventStart _ => none
  | .timerCapture _ => none
  | .tmrCapRead _ => none
  | .stbGo _ => none
  | .stbStop _ => none
  | .strobeStep _ _ => none
  | .preLt _ => none
  | .stbTxWrite _ _ => none
  | .stbRxRead _ => none
  | .hkRegularPass _ _ => none
  | .hkConversion _ _ _ _ => none
  | .hkResult _ _ => none
  | .hkInjectTrigger _ _ => none
  | .dacWrite _ _ => none
  | .dacRangeHoldEnd _ _ => none
  | .dacSlewDone _ => none
  | .i2cTargetWrite _ _ _ => none
  | .i2cTargetRead _ _ _ => none
  | .i2cTimeout _ _ _ => none
  | .wdtArm => none
  | .wdtService => none
  | .wdtDisarm => none
  | .wdtWindowOpen => none
  | .wdtExpiry => none
  | .wdtClkstop => none
  | .wdtDisable _ _ => none
  | .pfrF0 => none
  | .pfrPort _ => none
  | .pfrGrooming => none
  | .pfrBays _ _ => none
  | .pfrCarts => none
  | .pfrHbm => none
  | .pfrStrobes => none
  | .pfrHousekeeping => none
  | .pfrI2c => none
  | .pfrSync => none
  | .pfrDone _ => none
  | .portCfgStart _ => none
  | .portCfgStop _ => none
  | .portStartDone _ _ => none
  | .portStopDone _ => none
  | .portPeriod _ => none
  | .alignmentMarker _ => none
  | .statusDue _ _ => none
  | .timeDue _ _ _ => none
  | .sealSigDue _ _ => none
  | .sealBlockTimeout _ _ => none
  | .idleDue _ _ => none
  | .saveFrameWritten _ _ _ => none
  | .cartDescriptorStart _ => none
  | .cartChunk _ => none
  | .cartDescriptorDone _ => none
  | .cartResume _ => none
  | .cartAbort _ => none
  | .tlbInvGo _ => none
  | .tlbInvDone => none
  | .illegalInstruction _ _ => none
  | .add b sd sa sb => some (b, .add sd sa sb)
  | .sub b sd sa sb => some (b, .sub sd sa sb)
  | .and b sd sa sb => some (b, .and sd sa sb)
  | .or b sd sa sb => some (b, .or sd sa sb)
  | .xor b sd sa sb => some (b, .xor sd sa sb)
  | .andn b sd sa sb => some (b, .andn sd sa sb)
  | .sll b sd sa sb => some (b, .sll sd sa sb)
  | .srl b sd sa sb => some (b, .srl sd sa sb)
  | .sra b sd sa sb => some (b, .sra sd sa sb)
  | .rol b sd sa sb => some (b, .rol sd sa sb)
  | .ror b sd sa sb => some (b, .ror sd sa sb)
  | .setlt b sd sa sb => some (b, .setlt sd sa sb)
  | .setltu b sd sa sb => some (b, .setltu sd sa sb)
  | .min b sd sa sb => some (b, .min sd sa sb)
  | .max b sd sa sb => some (b, .max sd sa sb)
  | .minu b sd sa sb => some (b, .minu sd sa sb)
  | .maxu b sd sa sb => some (b, .maxu sd sa sb)
  | .mul b sd sa sb => some (b, .mul sd sa sb)
  | .mulhs b sd sa sb => some (b, .mulhs sd sa sb)
  | .mulhu b sd sa sb => some (b, .mulhu sd sa sb)
  | .div b sd sa sb => some (b, .div sd sa sb)
  | .divu b sd sa sb => some (b, .divu sd sa sb)
  | .rem b sd sa sb => some (b, .rem sd sa sb)
  | .remu b sd sa sb => some (b, .remu sd sa sb)
  | .clz b sd sa => some (b, .clz sd sa)
  | .popc b sd sa => some (b, .popc sd sa)
  | .addk b sd sa imm => some (b, .addk sd sa imm)
  | .andk b sd sa imm => some (b, .andk sd sa imm)
  | .ork b sd sa imm => some (b, .ork sd sa imm)
  | .xork b sd sa imm => some (b, .xork sd sa imm)
  | .setltk b sd sa imm => some (b, .setltk sd sa imm)
  | .setltuk b sd sa imm => some (b, .setltuk sd sa imm)
  | .rsubk b sd sa imm => some (b, .rsubk sd sa imm)
  | .kset b sd imm => some (b, .kset sd imm)
  | .khi b sd imm => some (b, .khi sd imm)
  | .pcadd b sd imm => some (b, .pcadd sd imm)
  | .slli b sd sa amt => some (b, .slli sd sa amt)
  | .srli b sd sa amt => some (b, .srli sd sa amt)
  | .srai b sd sa amt => some (b, .srai sd sa amt)
  | .roli b sd sa amt => some (b, .roli sd sa amt)
  | .rori b sd sa amt => some (b, .rori sd sa amt)
  | .bcEq b sa sb off => some (b, .bcEq sa sb off)
  | .bcNe b sa sb off => some (b, .bcNe sa sb off)
  | .bcLt b sa sb off => some (b, .bcLt sa sb off)
  | .bcGe b sa sb off => some (b, .bcGe sa sb off)
  | .bcLtu b sa sb off => some (b, .bcLtu sa sb off)
  | .bcGeu b sa sb off => some (b, .bcGeu sa sb off)
  | .bcLe b sa sb off => some (b, .bcLe sa sb off)
  | .bcGt b sa sb off => some (b, .bcGt sa sb off)
  | .bcTz b sa sb off => some (b, .bcTz sa sb off)
  | .bcTnz b sa sb off => some (b, .bcTnz sa sb off)
  | .jrel b sd off => some (b, .jrel sd off)
  | .jreg b sd sa imm => some (b, .jreg sd sa imm)
  | .bpany b pa off => some (b, .bpany pa off)
  | .bpnone b pa off => some (b, .bpnone pa off)
  | .ldB b sd sa imm => some (b, .ldB sd sa imm)
  | .ldBu b sd sa imm => some (b, .ldBu sd sa imm)
  | .ldH b sd sa imm => some (b, .ldH sd sa imm)
  | .ldHu b sd sa imm => some (b, .ldHu sd sa imm)
  | .ldW b sd sa imm => some (b, .ldW sd sa imm)
  | .stB b s sa imm => some (b, .stB s sa imm)
  | .stH b s sa imm => some (b, .stH s sa imm)
  | .stW b s sa imm => some (b, .stW s sa imm)
  | .vld b vd sa pg off => some (b, .vld vd sa pg off)
  | .vst b vd sa pg off => some (b, .vst vd sa pg off)
  | .vlds b vd sa sb pg => some (b, .vlds vd sa sb pg)
  | .vsts b vd sa sb pg => some (b, .vsts vd sa sb pg)
  | .vldbu b vd sa pg off => some (b, .vldbu vd sa pg off)
  | .vstb b vd sa pg off => some (b, .vstb vd sa pg off)
  | .lfr b vd sa age fld => some (b, .lfr vd sa age fld)
  | .emit b va => some (b, .emit va)
  | .yield b => some (b, .yield)
  | .halt b => some (b, .halt)
  | .cpost b sd sa sb => some (b, .cpost sd sa sb)
  | .cwait b flag => some (b, .cwait flag)
  | .mfc b s csr => some (b, .mfc s csr)
  | .mtc b s csr => some (b, .mtc s csr)
  | .fence b => some (b, .fence)
  | .vadd b vd va vb pg w => some (b, .vadd vd va vb pg w)
  | .vsub b vd va vb pg w => some (b, .vsub vd va vb pg w)
  | .vadds b vd va vb pg w => some (b, .vadds vd va vb pg w)
  | .vsubs b vd va vb pg w => some (b, .vsubs vd va vb pg w)
  | .vaddus b vd va vb pg w => some (b, .vaddus vd va vb pg w)
  | .vsubus b vd va vb pg w => some (b, .vsubus vd va vb pg w)
  | .vneg b vd va pg w => some (b, .vneg vd va pg w)
  | .vnegs b vd va pg w => some (b, .vnegs vd va pg w)
  | .vabs b vd va pg w => some (b, .vabs vd va pg w)
  | .vabss b vd va pg w => some (b, .vabss vd va pg w)
  | .vabsdu b vd va vb pg w => some (b, .vabsdu vd va vb pg w)
  | .vavgu b vd va vb pg w => some (b, .vavgu vd va vb pg w)
  | .vand b vd va vb pg w => some (b, .vand vd va vb pg w)
  | .vor b vd va vb pg w => some (b, .vor vd va vb pg w)
  | .vxor b vd va vb pg w => some (b, .vxor vd va vb pg w)
  | .vandn b vd va vb pg w => some (b, .vandn vd va vb pg w)
  | .vmin b vd va vb pg w => some (b, .vmin vd va vb pg w)
  | .vmax b vd va vb pg w => some (b, .vmax vd va vb pg w)
  | .vminu b vd va vb pg w => some (b, .vminu vd va vb pg w)
  | .vmaxu b vd va vb pg w => some (b, .vmaxu vd va vb pg w)
  | .vmul b vd va vb pg w => some (b, .vmul vd va vb pg w)
  | .vmulhs b vd va vb pg w => some (b, .vmulhs vd va vb pg w)
  | .vmulhu b vd va vb pg w => some (b, .vmulhu vd va vb pg w)
  | .vmulq b vd va vb pg => some (b, .vmulq vd va vb pg)
  | .vmulus b vd va vb pg w => some (b, .vmulus vd va vb pg w)
  | .vmac b vd va vb pg w => some (b, .vmac vd va vb pg w)
  | .vmacs b vd va vb pg w => some (b, .vmacs vd va vb pg w)
  | .vmacus b vd va vb pg w => some (b, .vmacus vd va vb pg w)
  | .vmsub b vd va vb pg w => some (b, .vmsub vd va vb pg w)
  | .vmacw b vd va vb pg => some (b, .vmacw vd va vb pg)
  | .vmacwu b vd va vb pg => some (b, .vmacwu vd va vb pg)
  | .vmacws b vd va vb pg => some (b, .vmacws vd va vb pg)
  | .vsadw b vd va vb pg => some (b, .vsadw vd va vb pg)
  | .vcmpEq b pd va vb pg w => some (b, .vcmpEq pd va vb pg w)
  | .vcmpNe b pd va vb pg w => some (b, .vcmpNe pd va vb pg w)
  | .vcmpLt b pd va vb pg w => some (b, .vcmpLt pd va vb pg w)
  | .vcmpLe b pd va vb pg w => some (b, .vcmpLe pd va vb pg w)
  | .vcmpGt b pd va vb pg w => some (b, .vcmpGt pd va vb pg w)
  | .vcmpGe b pd va vb pg w => some (b, .vcmpGe pd va vb pg w)
  | .vcmpLtu b pd va vb pg w => some (b, .vcmpLtu pd va vb pg w)
  | .vcmpLeu b pd va vb pg w => some (b, .vcmpLeu pd va vb pg w)
  | .vcmpGtu b pd va vb pg w => some (b, .vcmpGtu pd va vb pg w)
  | .vcmpGeu b pd va vb pg w => some (b, .vcmpGeu pd va vb pg w)
  | .vcmpTest b pd va vb pg w => some (b, .vcmpTest pd va vb pg w)
  | .vsll b vd va vb pg w => some (b, .vsll vd va vb pg w)
  | .vsrl b vd va vb pg w => some (b, .vsrl vd va vb pg w)
  | .vsra b vd va vb pg w => some (b, .vsra vd va vb pg w)
  | .vrol b vd va vb pg w => some (b, .vrol vd va vb pg w)
  | .vror b vd va vb pg w => some (b, .vror vd va vb pg w)
  | .vsrar b vd va vb pg w => some (b, .vsrar vd va vb pg w)
  | .vsrlr b vd va vb pg w => some (b, .vsrlr vd va vb pg w)
  | .vslls b vd va vb pg w => some (b, .vslls vd va vb pg w)
  | .vext b vd va vb sc w => some (b, .vext vd va vb sc w)
  | .vslup b vd va sc w => some (b, .vslup vd va sc w)
  | .vsldn b vd va sc w => some (b, .vsldn vd va sc w)
  | .vrot b vd va sc w => some (b, .vrot vd va sc w)
  | .vrev b vd va w => some (b, .vrev vd va w)
  | .vtbl b vd va vb w => some (b, .vtbl vd va vb w)
  | .vsplat b vd va sc w => some (b, .vsplat vd va sc w)
  | .vzipl b vd va vb w => some (b, .vzipl vd va vb w)
  | .vziph b vd va vb w => some (b, .vziph vd va vb w)
  | .vuzpe b vd va vb w => some (b, .vuzpe vd va vb w)
  | .vuzpo b vd va vb w => some (b, .vuzpo vd va vb w)
  | .vrsum b sd va pg w => some (b, .vrsum sd va pg w)
  | .vrsumu b sd va pg w => some (b, .vrsumu sd va pg w)
  | .vrmin b sd va pg w => some (b, .vrmin sd va pg w)
  | .vrmax b sd va pg w => some (b, .vrmax sd va pg w)
  | .vrminu b sd va pg w => some (b, .vrminu sd va pg w)
  | .vrmaxu b sd va pg w => some (b, .vrmaxu sd va pg w)
  | .vrband b sd va pg w => some (b, .vrband sd va pg w)
  | .vrbor b sd va pg w => some (b, .vrbor sd va pg w)
  | .vrargmax b sd va pg w => some (b, .vrargmax sd va pg w)
  | .vrargmin b sd va pg w => some (b, .vrargmin sd va pg w)
  | .vmov b vd va pg w => some (b, .vmov vd va pg w)
  | .vsel b vd va vb pg w => some (b, .vsel vd va vb pg w)
  | .viota b vd pg w => some (b, .viota vd pg w)
  | .vins b vd k sb w => some (b, .vins vd k sb w)
  | .vextr b sd va k w => some (b, .vextr sd va k w)
  | .vextru b sd va k w => some (b, .vextru sd va k w)
  | .vwiden b vd va pg => some (b, .vwiden vd va pg)
  | .vwidenu b vd va pg => some (b, .vwidenu vd va pg)
  | .vnarrow b vd va pg => some (b, .vnarrow vd va pg)
  | .vnarrows b vd va pg => some (b, .vnarrows vd va pg)
  | .vnarrowus b vd va pg => some (b, .vnarrowus vd va pg)
  | .pand b pd pa pb => some (b, .pand pd pa pb)
  | .por b pd pa pb => some (b, .por pd pa pb)
  | .pxor b pd pa pb => some (b, .pxor pd pa pb)
  | .pandn b pd pa pb => some (b, .pandn pd pa pb)
  | .pnot b pd pa => some (b, .pnot pd pa)
  | .pset b pd => some (b, .pset pd)
  | .pclr b pd => some (b, .pclr pd)
  | .pfirst b pd pa => some (b, .pfirst pd pa)
  | .ptos b pa s => some (b, .ptos pa s)
  | .stop b pd s => some (b, .stop pd s)
  | .pcnt b pa s => some (b, .pcnt pa s)
  | .vli b vd imm => some (b, .vli vd imm)
  | .tapReset => none
  | .extest _ => none
  | .samplePreload _ _ => none
  | .idcode => none
  | .clamp => none
  | .highz => none
  | .cpHalt _ => none
  | .cpResume _ => none
  | .cpStep _ => none
  | .bayHalt _ => none
  | .bayResume _ => none
  | .bayStep _ => none
  | .selWr _ => none
  | .dbgAccess _ => none
  | .refclkReturn => none
  | .childLinkLoss => none
  | .frameRestoreDone _ => none
  | .hkCalConverged _ => none
  | .nvmDeferredWrite _ => none
  | .choreAgeLimit _ _ => none
  | .calCaptureTimeout _ => none
  | .chargerSourceLoss _ => none
  | .chargeTermination => none

end Sys2Proof
end

