-- ==== Sys2Proof/WellFormed.lean ====
section
/-! DEFINITION. Which commands are well formed: the conditions of R169 on the operands of a Myvik instruction. A bay raises
ILLEGAL_INSTRUCTION for an ill-formed one (R170). Every other command takes every value of its operands. -/

namespace Sys2Proof

/-- An even vector register: the first of a pair (R163). -/
def even (v : VReg) : Bool := v.val % 2 == 0

/-- A second source that may stand for a pair: an even register, or a scalar. -/
def VSrc.even : VSrc → Bool
  | .v r => Sys2Proof.even r
  | .s _ => true

/-- The CSR indexes that are not reserved (R179). -/
def csrExists (csr : Byte) : Bool := csr.toNat ≤ 0x0D

/-- The CSRs that are read only: BAYID, JOB, SEGCOL, TLEFT, CYC_LO and CYC_HI (R179). -/
def csrReadOnly (csr : Byte) : Bool := [0x03, 0x04, 0x05, 0x08, 0x0A, 0x0B].contains csr.toNat

/-- The condition of R169 that the operands of an instruction can break: an odd register of a pair, a reserved CSR
index, or an MTC to a read-only CSR. -/
def Myvik.legal (i : Myvik) : Bool :=
  match i with
  | .add _ _ _ => true
  | .sub _ _ _ => true
  | .and _ _ _ => true
  | .or _ _ _ => true
  | .xor _ _ _ => true
  | .andn _ _ _ => true
  | .sll _ _ _ => true
  | .srl _ _ _ => true
  | .sra _ _ _ => true
  | .rol _ _ _ => true
  | .ror _ _ _ => true
  | .setlt _ _ _ => true
  | .setltu _ _ _ => true
  | .min _ _ _ => true
  | .max _ _ _ => true
  | .minu _ _ _ => true
  | .maxu _ _ _ => true
  | .mul _ _ _ => true
  | .mulhs _ _ _ => true
  | .mulhu _ _ _ => true
  | .div _ _ _ => true
  | .divu _ _ _ => true
  | .rem _ _ _ => true
  | .remu _ _ _ => true
  | .clz _ _ => true
  | .popc _ _ => true
  | .addk _ _ _ => true
  | .andk _ _ _ => true
  | .ork _ _ _ => true
  | .xork _ _ _ => true
  | .setltk _ _ _ => true
  | .setltuk _ _ _ => true
  | .rsubk _ _ _ => true
  | .kset _ _ => true
  | .khi _ _ => true
  | .pcadd _ _ => true
  | .slli _ _ _ => true
  | .srli _ _ _ => true
  | .srai _ _ _ => true
  | .roli _ _ _ => true
  | .rori _ _ _ => true
  | .bcEq _ _ _ => true
  | .bcNe _ _ _ => true
  | .bcLt _ _ _ => true
  | .bcGe _ _ _ => true
  | .bcLtu _ _ _ => true
  | .bcGeu _ _ _ => true
  | .bcLe _ _ _ => true
  | .bcGt _ _ _ => true
  | .bcTz _ _ _ => true
  | .bcTnz _ _ _ => true
  | .jrel _ _ => true
  | .jreg _ _ _ => true
  | .bpany _ _ => true
  | .bpnone _ _ => true
  | .ldB _ _ _ => true
  | .ldBu _ _ _ => true
  | .ldH _ _ _ => true
  | .ldHu _ _ _ => true
  | .ldW _ _ _ => true
  | .stB _ _ _ => true
  | .stH _ _ _ => true
  | .stW _ _ _ => true
  | .vld _ _ _ _ => true
  | .vst _ _ _ _ => true
  | .vlds _ _ _ _ => true
  | .vsts _ _ _ _ => true
  | .vldbu _ _ _ _ => true
  | .vstb _ _ _ _ => true
  | .lfr _ _ _ _ => true
  | .emit _ => true
  | .yield => true
  | .halt => true
  | .cpost _ _ _ => true
  | .cwait _ => true
  | .mfc _ csr => csrExists csr
  | .mtc _ csr => csrExists csr && !csrReadOnly csr
  | .fence => true
  | .vadd vd va vb _ w => !w || (even vd && even va && vb.even)
  | .vsub vd va vb _ w => !w || (even vd && even va && vb.even)
  | .vadds vd va vb _ w => !w || (even vd && even va && vb.even)
  | .vsubs vd va vb _ w => !w || (even vd && even va && vb.even)
  | .vaddus vd va vb _ w => !w || (even vd && even va && vb.even)
  | .vsubus vd va vb _ w => !w || (even vd && even va && vb.even)
  | .vneg vd va _ w => !w || (even vd && even va)
  | .vnegs vd va _ w => !w || (even vd && even va)
  | .vabs vd va _ w => !w || (even vd && even va)
  | .vabss vd va _ w => !w || (even vd && even va)
  | .vabsdu vd va vb _ w => !w || (even vd && even va && vb.even)
  | .vavgu vd va vb _ w => !w || (even vd && even va && vb.even)
  | .vand vd va vb _ w => !w || (even vd && even va && vb.even)
  | .vor vd va vb _ w => !w || (even vd && even va && vb.even)
  | .vxor vd va vb _ w => !w || (even vd && even va && vb.even)
  | .vandn vd va vb _ w => !w || (even vd && even va && vb.even)
  | .vmin vd va vb _ w => !w || (even vd && even va && vb.even)
  | .vmax vd va vb _ w => !w || (even vd && even va && vb.even)
  | .vminu vd va vb _ w => !w || (even vd && even va && vb.even)
  | .vmaxu vd va vb _ w => !w || (even vd && even va && vb.even)
  | .vmul vd va vb _ w => !w || (even vd && even va && vb.even)
  | .vmulhs vd va vb _ w => !w || (even vd && even va && vb.even)
  | .vmulhu vd va vb _ w => !w || (even vd && even va && vb.even)
  | .vmulq _ _ _ _ => true
  | .vmulus vd va vb _ w => !w || (even vd && even va && vb.even)
  | .vmac vd va vb _ w => !w || (even vd && even va && vb.even)
  | .vmacs vd va vb _ w => !w || (even vd && even va && vb.even)
  | .vmacus vd va vb _ w => !w || (even vd && even va && vb.even)
  | .vmsub vd va vb _ w => !w || (even vd && even va && vb.even)
  | .vmacw vd _ _ _ => even vd
  | .vmacwu vd _ _ _ => even vd
  | .vmacws vd _ _ _ => even vd
  | .vsadw vd _ _ _ => even vd
  | .vcmpEq _ va vb _ w => !w || (even va && vb.even)
  | .vcmpNe _ va vb _ w => !w || (even va && vb.even)
  | .vcmpLt _ va vb _ w => !w || (even va && vb.even)
  | .vcmpLe _ va vb _ w => !w || (even va && vb.even)
  | .vcmpGt _ va vb _ w => !w || (even va && vb.even)
  | .vcmpGe _ va vb _ w => !w || (even va && vb.even)
  | .vcmpLtu _ va vb _ w => !w || (even va && vb.even)
  | .vcmpLeu _ va vb _ w => !w || (even va && vb.even)
  | .vcmpGtu _ va vb _ w => !w || (even va && vb.even)
  | .vcmpGeu _ va vb _ w => !w || (even va && vb.even)
  | .vcmpTest _ va vb _ w => !w || (even va && vb.even)
  | .vsll vd va vb _ w => !w || (even vd && even va && vb.even)
  | .vsrl vd va vb _ w => !w || (even vd && even va && vb.even)
  | .vsra vd va vb _ w => !w || (even vd && even va && vb.even)
  | .vrol vd va vb _ w => !w || (even vd && even va && vb.even)
  | .vror vd va vb _ w => !w || (even vd && even va && vb.even)
  | .vsrar vd va vb _ w => !w || (even vd && even va && vb.even)
  | .vsrlr vd va vb _ w => !w || (even vd && even va && vb.even)
  | .vslls vd va vb _ w => !w || (even vd && even va && vb.even)
  | .vext vd va vb _ w => !w || (even vd && even va && even vb)
  | .vslup vd va _ w => !w || (even vd && even va)
  | .vsldn vd va _ w => !w || (even vd && even va)
  | .vrot vd va _ w => !w || (even vd && even va)
  | .vrev vd va w => !w || (even vd && even va)
  | .vtbl vd va vb w => !w || (even vd && even va && even vb)
  | .vsplat vd va _ w => !w || (even vd && even va)
  | .vzipl vd va vb w => !w || (even vd && even va && even vb)
  | .vziph vd va vb w => !w || (even vd && even va && even vb)
  | .vuzpe vd va vb w => !w || (even vd && even va && even vb)
  | .vuzpo vd va vb w => !w || (even vd && even va && even vb)
  | .vrsum _ va _ w => !w || even va
  | .vrsumu _ va _ w => !w || even va
  | .vrmin _ va _ w => !w || even va
  | .vrmax _ va _ w => !w || even va
  | .vrminu _ va _ w => !w || even va
  | .vrmaxu _ va _ w => !w || even va
  | .vrband _ va _ w => !w || even va
  | .vrbor _ va _ w => !w || even va
  | .vrargmax _ va _ w => !w || even va
  | .vrargmin _ va _ w => !w || even va
  | .vmov vd va _ w => !w || (even vd && even va)
  | .vsel vd va vb _ w => !w || (even vd && even va && vb.even)
  | .viota vd _ w => !w || (even vd)
  | .vins vd _ _ w => !w || (even vd)
  | .vextr _ va _ w => !w || (even va)
  | .vextru _ va _ w => !w || (even va)
  | .vwiden vd _ _ => even vd
  | .vwidenu vd _ _ => even vd
  | .vnarrow _ va _ => even va
  | .vnarrows _ va _ => even va
  | .vnarrowus _ va _ => even va
  | .pand _ _ _ => true
  | .por _ _ _ => true
  | .pxor _ _ _ => true
  | .pandn _ _ _ => true
  | .pnot _ _ => true
  | .pset _ => true
  | .pclr _ => true
  | .pfirst _ _ => true
  | .ptos _ _ => true
  | .stop _ _ => true
  | .pcnt _ _ => true
  | .vli _ _ => true

/-- A command is well formed where the instruction it stands for is legal. -/
def WellFormed (i : Instr) : Bool :=
  match i.toMyvik with
  | some (_, m) => m.legal
  | none => true

end Sys2Proof
end

