-- ==== Sys2Proof/Decode.lean ====
section
/-! DEFINITION. The words of the command table, and the encoding of Myvik instruction words (R167, R168).

The table of this hardware gives no row any bits, so `decodeTableWord` answers none. The bays do fetch 32-bit words:
`myvikEncode` gives an instruction its word from the format tables and `myvikDecode` reads one back. -/

namespace Sys2Proof

/-- The command that a word spells by the table's bits: the table gives its rows none. -/
def decodeTableWord (_nbits _w : Nat) : Option Instr := none

/-- The register field of a second source of format V3: vb, or sb in vb[13:10] with vb[14] 0 (R167). -/
def VSrc.regField : VSrc → BitVec 5
  | .v r => BitVec.ofFin r
  | .s r => 0#1 ++ (BitVec.ofFin r : BitVec 4)

/-- The S bit of format V3 (R167). -/
def VSrc.isScalar : VSrc → BitVec 1
  | .v _ => 0
  | .s _ => 1

/-- A scalar register as a field. -/
def sf (r : SReg) : BitVec 4 := BitVec.ofFin r
/-- A vector register as a field. -/
def vf (r : VReg) : BitVec 5 := BitVec.ofFin r
/-- A predicate register as a field. -/
def pf (r : PReg) : BitVec 3 := BitVec.ofFin r

/-- Format S3, SALU (R167, R168). -/
def encS3 (sd sa sb : SReg) (fn : BitVec 5) : Word := 0x01#7 ++ sf sd ++ sf sa ++ sf sb ++ 0#8 ++ fn
/-- Format SK, SALUK. -/
def encSK (sd sa : SReg) (fn : BitVec 3) (imm : BitVec 14) : Word := 0x02#7 ++ sf sd ++ sf sa ++ fn ++ imm
/-- Format SC, KOP. -/
def encSC (sd : SReg) (fn : BitVec 2) (imm : BitVec 19) : Word := 0x03#7 ++ sf sd ++ fn ++ imm
/-- Format SH, SHI. -/
def encSH (sd sa : SReg) (kind : BitVec 3) (amt : BitVec 8) : Word := 0x08#7 ++ sf sd ++ sf sa ++ 0#6 ++ kind ++ amt
/-- Format BC. -/
def encBC (sa sb : SReg) (cc : BitVec 4) (off : BitVec 13) : Word := 0x10#7 ++ sf sa ++ sf sb ++ cc ++ off
/-- Format SJ, JREL. -/
def encSJ (sd : SReg) (off : BitVec 21) : Word := 0x11#7 ++ sf sd ++ off
/-- Format JG, JREG. -/
def encJG (sd sa : SReg) (imm : BitVec 14) : Word := 0x12#7 ++ sf sd ++ sf sa ++ 0#3 ++ imm
/-- Format PB. -/
def encPB (op : BitVec 7) (pa : PReg) (off : BitVec 17) : Word := op ++ pf pa ++ 0#5 ++ off
/-- Format SM. -/
def encSM (op : BitVec 7) (s sa : SReg) (sz : BitVec 2) (u : BitVec 1) (imm : BitVec 14) : Word :=
  op ++ sf s ++ sf sa ++ sz ++ u ++ imm
/-- Format VM. -/
def encVM (op : BitVec 7) (vd : VReg) (sa : SReg) (pg : PReg) (off : BitVec 13) : Word :=
  op ++ vf vd ++ sf sa ++ pf pg ++ off
/-- Format VMS. -/
def encVMS (op : BitVec 7) (vd : VReg) (sa sb : SReg) (pg : PReg) : Word :=
  op ++ vf vd ++ sf sa ++ sf sb ++ pf pg ++ 0#9
/-- Format LF, LFR. -/
def encLF (vd : VReg) (sa : SReg) (age : BitVec 4) (fld : BitVec 2) : Word :=
  0x30#7 ++ vf vd ++ sf sa ++ age ++ fld ++ 0#10
/-- Format EM, EMIT. -/
def encEM (va : VReg) : Word := 0x31#7 ++ vf va ++ 0#20
/-- Format N. -/
def encN (op : BitVec 7) : Word := op ++ 0#25
/-- Format CP, CPOST. -/
def encCP (sd sa sb : SReg) : Word := 0x34#7 ++ sf sd ++ sf sa ++ sf sb ++ 0#13
/-- Format CW, CWAIT. -/
def encCW (flag : BitVec 4) : Word := 0x35#7 ++ 0#21 ++ flag
/-- Format CS. -/
def encCS (op : BitVec 7) (s : SReg) (csr : BitVec 8) : Word := op ++ sf s ++ 0#13 ++ csr
/-- Format V3. -/
def encV3 (op : BitVec 7) (vd va vb : BitVec 5) (pg : PReg) (s w : BitVec 1) (fn : BitVec 5) : Word :=
  op ++ vd ++ va ++ vb ++ pf pg ++ s ++ w ++ fn
/-- Format VP, VPERM. -/
def encVP (vd va : VReg) (vb : BitVec 5) (sc : BitVec 4) (w : Bool) (fn : BitVec 5) : Word :=
  0x44#7 ++ vf vd ++ vf va ++ vb ++ sc ++ BitVec.ofBool w ++ fn
/-- Format PL, PLOG. -/
def encPL (pd pa pb : PReg) (s : SReg) (fn : BitVec 5) : Word :=
  0x47#7 ++ pf pd ++ pf pa ++ pf pb ++ sf s ++ 0#7 ++ fn
/-- Format VI, VLI. -/
def encVI (vd : VReg) (imm : BitVec 16) : Word := 0x48#7 ++ vf vd ++ 0#4 ++ imm

/-- The word of a Myvik instruction (R167–R188). -/
def myvikEncode (i : Myvik) : Word :=
  match i with
  | .add sd sa sb => encS3 sd sa sb 0
  | .sub sd sa sb => encS3 sd sa sb 1
  | .and sd sa sb => encS3 sd sa sb 2
  | .or sd sa sb => encS3 sd sa sb 3
  | .xor sd sa sb => encS3 sd sa sb 4
  | .andn sd sa sb => encS3 sd sa sb 5
  | .sll sd sa sb => encS3 sd sa sb 6
  | .srl sd sa sb => encS3 sd sa sb 7
  | .sra sd sa sb => encS3 sd sa sb 8
  | .rol sd sa sb => encS3 sd sa sb 9
  | .ror sd sa sb => encS3 sd sa sb 10
  | .setlt sd sa sb => encS3 sd sa sb 11
  | .setltu sd sa sb => encS3 sd sa sb 12
  | .min sd sa sb => encS3 sd sa sb 13
  | .max sd sa sb => encS3 sd sa sb 14
  | .minu sd sa sb => encS3 sd sa sb 15
  | .maxu sd sa sb => encS3 sd sa sb 16
  | .mul sd sa sb => encS3 sd sa sb 17
  | .mulhs sd sa sb => encS3 sd sa sb 18
  | .mulhu sd sa sb => encS3 sd sa sb 19
  | .div sd sa sb => encS3 sd sa sb 20
  | .divu sd sa sb => encS3 sd sa sb 21
  | .rem sd sa sb => encS3 sd sa sb 22
  | .remu sd sa sb => encS3 sd sa sb 23
  | .clz sd sa => encS3 sd sa 0 24
  | .popc sd sa => encS3 sd sa 0 25
  | .addk sd sa imm => encSK sd sa 0 imm
  | .andk sd sa imm => encSK sd sa 1 imm
  | .ork sd sa imm => encSK sd sa 2 imm
  | .xork sd sa imm => encSK sd sa 3 imm
  | .setltk sd sa imm => encSK sd sa 4 imm
  | .setltuk sd sa imm => encSK sd sa 5 imm
  | .rsubk sd sa imm => encSK sd sa 6 imm
  | .kset sd imm => encSC sd 0 imm
  | .khi sd imm => encSC sd 1 (0#3 ++ imm)
  | .pcadd sd imm => encSC sd 2 imm
  | .slli sd sa amt => encSH sd sa 0 amt
  | .srli sd sa amt => encSH sd sa 1 amt
  | .srai sd sa amt => encSH sd sa 2 amt
  | .roli sd sa amt => encSH sd sa 3 amt
  | .rori sd sa amt => encSH sd sa 4 amt
  | .bcEq sa sb off => encBC sa sb 0 off
  | .bcNe sa sb off => encBC sa sb 1 off
  | .bcLt sa sb off => encBC sa sb 2 off
  | .bcGe sa sb off => encBC sa sb 3 off
  | .bcLtu sa sb off => encBC sa sb 4 off
  | .bcGeu sa sb off => encBC sa sb 5 off
  | .bcLe sa sb off => encBC sa sb 6 off
  | .bcGt sa sb off => encBC sa sb 7 off
  | .bcTz sa sb off => encBC sa sb 8 off
  | .bcTnz sa sb off => encBC sa sb 9 off
  | .jrel sd off => encSJ sd off
  | .jreg sd sa imm => encJG sd sa imm
  | .bpany pa off => encPB 0x18 pa off
  | .bpnone pa off => encPB 0x19 pa off
  | .ldB sd sa imm => encSM 0x20 sd sa 0 0 imm
  | .ldBu sd sa imm => encSM 0x20 sd sa 0 1 imm
  | .ldH sd sa imm => encSM 0x20 sd sa 1 0 imm
  | .ldHu sd sa imm => encSM 0x20 sd sa 1 1 imm
  | .ldW sd sa imm => encSM 0x20 sd sa 2 0 imm
  | .stB s sa imm => encSM 0x21 s sa 0 0 imm
  | .stH s sa imm => encSM 0x21 s sa 1 0 imm
  | .stW s sa imm => encSM 0x21 s sa 2 0 imm
  | .vld vd sa pg off => encVM 0x28 vd sa pg off
  | .vst vd sa pg off => encVM 0x29 vd sa pg off
  | .vlds vd sa sb pg => encVMS 0x2A vd sa sb pg
  | .vsts vd sa sb pg => encVMS 0x2B vd sa sb pg
  | .vldbu vd sa pg off => encVM 0x2C vd sa pg off
  | .vstb vd sa pg off => encVM 0x2D vd sa pg off
  | .lfr vd sa age fld => encLF vd sa age fld
  | .emit va => encEM va
  | .yield => encN 0x32
  | .halt => encN 0x33
  | .cpost sd sa sb => encCP sd sa sb
  | .cwait flag => encCW flag
  | .mfc s csr => encCS 0x36 s csr
  | .mtc s csr => encCS 0x37 s csr
  | .fence => encN 0x38
  | .vadd vd va vb pg w => encV3 0x40 (vf vd) (vf va) vb.regField pg vb.isScalar (BitVec.ofBool w) 0
  | .vsub vd va vb pg w => encV3 0x40 (vf vd) (vf va) vb.regField pg vb.isScalar (BitVec.ofBool w) 1
  | .vadds vd va vb pg w => encV3 0x40 (vf vd) (vf va) vb.regField pg vb.isScalar (BitVec.ofBool w) 2
  | .vsubs vd va vb pg w => encV3 0x40 (vf vd) (vf va) vb.regField pg vb.isScalar (BitVec.ofBool w) 3
  | .vaddus vd va vb pg w => encV3 0x40 (vf vd) (vf va) vb.regField pg vb.isScalar (BitVec.ofBool w) 4
  | .vsubus vd va vb pg w => encV3 0x40 (vf vd) (vf va) vb.regField pg vb.isScalar (BitVec.ofBool w) 5
  | .vneg vd va pg w => encV3 0x40 (vf vd) (vf va) 0 pg 0 (BitVec.ofBool w) 6
  | .vnegs vd va pg w => encV3 0x40 (vf vd) (vf va) 0 pg 0 (BitVec.ofBool w) 7
  | .vabs vd va pg w => encV3 0x40 (vf vd) (vf va) 0 pg 0 (BitVec.ofBool w) 8
  | .vabss vd va pg w => encV3 0x40 (vf vd) (vf va) 0 pg 0 (BitVec.ofBool w) 9
  | .vabsdu vd va vb pg w => encV3 0x40 (vf vd) (vf va) vb.regField pg vb.isScalar (BitVec.ofBool w) 10
  | .vavgu vd va vb pg w => encV3 0x40 (vf vd) (vf va) vb.regField pg vb.isScalar (BitVec.ofBool w) 11
  | .vand vd va vb pg w => encV3 0x40 (vf vd) (vf va) vb.regField pg vb.isScalar (BitVec.ofBool w) 12
  | .vor vd va vb pg w => encV3 0x40 (vf vd) (vf va) vb.regField pg vb.isScalar (BitVec.ofBool w) 13
  | .vxor vd va vb pg w => encV3 0x40 (vf vd) (vf va) vb.regField pg vb.isScalar (BitVec.ofBool w) 14
  | .vandn vd va vb pg w => encV3 0x40 (vf vd) (vf va) vb.regField pg vb.isScalar (BitVec.ofBool w) 15
  | .vmin vd va vb pg w => encV3 0x40 (vf vd) (vf va) vb.regField pg vb.isScalar (BitVec.ofBool w) 16
  | .vmax vd va vb pg w => encV3 0x40 (vf vd) (vf va) vb.regField pg vb.isScalar (BitVec.ofBool w) 17
  | .vminu vd va vb pg w => encV3 0x40 (vf vd) (vf va) vb.regField pg vb.isScalar (BitVec.ofBool w) 18
  | .vmaxu vd va vb pg w => encV3 0x40 (vf vd) (vf va) vb.regField pg vb.isScalar (BitVec.ofBool w) 19
  | .vmul vd va vb pg w => encV3 0x40 (vf vd) (vf va) vb.regField pg vb.isScalar (BitVec.ofBool w) 20
  | .vmulhs vd va vb pg w => encV3 0x40 (vf vd) (vf va) vb.regField pg vb.isScalar (BitVec.ofBool w) 21
  | .vmulhu vd va vb pg w => encV3 0x40 (vf vd) (vf va) vb.regField pg vb.isScalar (BitVec.ofBool w) 22
  | .vmulq vd va vb pg => encV3 0x40 (vf vd) (vf va) vb.regField pg vb.isScalar 0 23
  | .vmulus vd va vb pg w => encV3 0x40 (vf vd) (vf va) vb.regField pg vb.isScalar (BitVec.ofBool w) 24
  | .vmac vd va vb pg w => encV3 0x41 (vf vd) (vf va) vb.regField pg vb.isScalar (BitVec.ofBool w) 0
  | .vmacs vd va vb pg w => encV3 0x41 (vf vd) (vf va) vb.regField pg vb.isScalar (BitVec.ofBool w) 1
  | .vmacus vd va vb pg w => encV3 0x41 (vf vd) (vf va) vb.regField pg vb.isScalar (BitVec.ofBool w) 2
  | .vmsub vd va vb pg w => encV3 0x41 (vf vd) (vf va) vb.regField pg vb.isScalar (BitVec.ofBool w) 3
  | .vmacw vd va vb pg => encV3 0x41 (vf vd) (vf va) vb.regField pg vb.isScalar 0 4
  | .vmacwu vd va vb pg => encV3 0x41 (vf vd) (vf va) vb.regField pg vb.isScalar 0 5
  | .vmacws vd va vb pg => encV3 0x41 (vf vd) (vf va) vb.regField pg vb.isScalar 0 6
  | .vsadw vd va vb pg => encV3 0x41 (vf vd) (vf va) vb.regField pg vb.isScalar 0 7
  | .vcmpEq pd va vb pg w => encV3 0x42 (0#2 ++ (pf pd)) (vf va) vb.regField pg vb.isScalar (BitVec.ofBool w) 0
  | .vcmpNe pd va vb pg w => encV3 0x42 (0#2 ++ (pf pd)) (vf va) vb.regField pg vb.isScalar (BitVec.ofBool w) 1
  | .vcmpLt pd va vb pg w => encV3 0x42 (0#2 ++ (pf pd)) (vf va) vb.regField pg vb.isScalar (BitVec.ofBool w) 2
  | .vcmpLe pd va vb pg w => encV3 0x42 (0#2 ++ (pf pd)) (vf va) vb.regField pg vb.isScalar (BitVec.ofBool w) 3
  | .vcmpGt pd va vb pg w => encV3 0x42 (0#2 ++ (pf pd)) (vf va) vb.regField pg vb.isScalar (BitVec.ofBool w) 4
  | .vcmpGe pd va vb pg w => encV3 0x42 (0#2 ++ (pf pd)) (vf va) vb.regField pg vb.isScalar (BitVec.ofBool w) 5
  | .vcmpLtu pd va vb pg w => encV3 0x42 (0#2 ++ (pf pd)) (vf va) vb.regField pg vb.isScalar (BitVec.ofBool w) 6
  | .vcmpLeu pd va vb pg w => encV3 0x42 (0#2 ++ (pf pd)) (vf va) vb.regField pg vb.isScalar (BitVec.ofBool w) 7
  | .vcmpGtu pd va vb pg w => encV3 0x42 (0#2 ++ (pf pd)) (vf va) vb.regField pg vb.isScalar (BitVec.ofBool w) 8
  | .vcmpGeu pd va vb pg w => encV3 0x42 (0#2 ++ (pf pd)) (vf va) vb.regField pg vb.isScalar (BitVec.ofBool w) 9
  | .vcmpTest pd va vb pg w => encV3 0x42 (0#2 ++ (pf pd)) (vf va) vb.regField pg vb.isScalar (BitVec.ofBool w) 10
  | .vsll vd va vb pg w => encV3 0x43 (vf vd) (vf va) vb.regField pg vb.isScalar (BitVec.ofBool w) 0
  | .vsrl vd va vb pg w => encV3 0x43 (vf vd) (vf va) vb.regField pg vb.isScalar (BitVec.ofBool w) 1
  | .vsra vd va vb pg w => encV3 0x43 (vf vd) (vf va) vb.regField pg vb.isScalar (BitVec.ofBool w) 2
  | .vrol vd va vb pg w => encV3 0x43 (vf vd) (vf va) vb.regField pg vb.isScalar (BitVec.ofBool w) 3
  | .vror vd va vb pg w => encV3 0x43 (vf vd) (vf va) vb.regField pg vb.isScalar (BitVec.ofBool w) 4
  | .vsrar vd va vb pg w => encV3 0x43 (vf vd) (vf va) vb.regField pg vb.isScalar (BitVec.ofBool w) 5
  | .vsrlr vd va vb pg w => encV3 0x43 (vf vd) (vf va) vb.regField pg vb.isScalar (BitVec.ofBool w) 6
  | .vslls vd va vb pg w => encV3 0x43 (vf vd) (vf va) vb.regField pg vb.isScalar (BitVec.ofBool w) 7
  | .vext vd va vb sc w => encVP vd va (vf vb) (sf sc) w 0
  | .vslup vd va sc w => encVP vd va 0 (sf sc) w 1
  | .vsldn vd va sc w => encVP vd va 0 (sf sc) w 2
  | .vrot vd va sc w => encVP vd va 0 (sf sc) w 3
  | .vrev vd va w => encVP vd va 0 0 w 4
  | .vtbl vd va vb w => encVP vd va (vf vb) 0 w 5
  | .vsplat vd va sc w => encVP vd va 0 (sf sc) w 6
  | .vzipl vd va vb w => encVP vd va (vf vb) 0 w 7
  | .vziph vd va vb w => encVP vd va (vf vb) 0 w 8
  | .vuzpe vd va vb w => encVP vd va (vf vb) 0 w 9
  | .vuzpo vd va vb w => encVP vd va (vf vb) 0 w 10
  | .vrsum sd va pg w => encV3 0x45 (0#1 ++ (sf sd)) (vf va) 0 pg 0 (BitVec.ofBool w) 0
  | .vrsumu sd va pg w => encV3 0x45 (0#1 ++ (sf sd)) (vf va) 0 pg 0 (BitVec.ofBool w) 1
  | .vrmin sd va pg w => encV3 0x45 (0#1 ++ (sf sd)) (vf va) 0 pg 0 (BitVec.ofBool w) 2
  | .vrmax sd va pg w => encV3 0x45 (0#1 ++ (sf sd)) (vf va) 0 pg 0 (BitVec.ofBool w) 3
  | .vrminu sd va pg w => encV3 0x45 (0#1 ++ (sf sd)) (vf va) 0 pg 0 (BitVec.ofBool w) 4
  | .vrmaxu sd va pg w => encV3 0x45 (0#1 ++ (sf sd)) (vf va) 0 pg 0 (BitVec.ofBool w) 5
  | .vrband sd va pg w => encV3 0x45 (0#1 ++ (sf sd)) (vf va) 0 pg 0 (BitVec.ofBool w) 6
  | .vrbor sd va pg w => encV3 0x45 (0#1 ++ (sf sd)) (vf va) 0 pg 0 (BitVec.ofBool w) 7
  | .vrargmax sd va pg w => encV3 0x45 (0#1 ++ (sf sd)) (vf va) 0 pg 0 (BitVec.ofBool w) 8
  | .vrargmin sd va pg w => encV3 0x45 (0#1 ++ (sf sd)) (vf va) 0 pg 0 (BitVec.ofBool w) 9
  | .vmov vd va pg w => encV3 0x46 (vf vd) (vf va) 0 pg 0 (BitVec.ofBool w) 0
  | .vsel vd va vb pg w => encV3 0x46 (vf vd) (vf va) vb.regField pg vb.isScalar (BitVec.ofBool w) 1
  | .viota vd pg w => encV3 0x46 (vf vd) 0 0 pg 0 (BitVec.ofBool w) 2
  | .vins vd k sb w => encV3 0x46 (vf vd) (vf k) (0#1 ++ (sf sb)) 0 1 (BitVec.ofBool w) 3
  | .vextr sd va k w => encV3 0x46 (0#1 ++ (sf sd)) (vf va) (vf k) 0 0 (BitVec.ofBool w) 4
  | .vextru sd va k w => encV3 0x46 (0#1 ++ (sf sd)) (vf va) (vf k) 0 0 (BitVec.ofBool w) 5
  | .vwiden vd va pg => encV3 0x46 (vf vd) (vf va) 0 pg 0 0 6
  | .vwidenu vd va pg => encV3 0x46 (vf vd) (vf va) 0 pg 0 0 7
  | .vnarrow vd va pg => encV3 0x46 (vf vd) (vf va) 0 pg 0 0 8
  | .vnarrows vd va pg => encV3 0x46 (vf vd) (vf va) 0 pg 0 0 9
  | .vnarrowus vd va pg => encV3 0x46 (vf vd) (vf va) 0 pg 0 0 10
  | .pand pd pa pb => encPL pd pa pb 0 0
  | .por pd pa pb => encPL pd pa pb 0 1
  | .pxor pd pa pb => encPL pd pa pb 0 2
  | .pandn pd pa pb => encPL pd pa pb 0 3
  | .pnot pd pa => encPL pd pa 0 0 4
  | .pset pd => encPL pd 0 0 0 5
  | .pclr pd => encPL pd 0 0 0 6
  | .pfirst pd pa => encPL pd pa 0 0 7
  | .ptos pa s => encPL 0 pa 0 s 8
  | .stop pd s => encPL pd 0 0 s 9
  | .pcnt pa s => encPL 0 pa 0 s 10
  | .vli vd imm => encVI vd imm

/-- A scalar register field of a word. -/
def sregAt (w : Word) (lo : Nat) : SReg := (w.extractLsb' lo 4).toFin
/-- A vector register field of a word. -/
def vregAt (w : Word) (lo : Nat) : VReg := (w.extractLsb' lo 5).toFin
/-- A predicate register field of a word. -/
def pregAt (w : Word) (lo : Nat) : PReg := (w.extractLsb' lo 3).toFin
/-- The second source of a word of format V3. -/
def vsrcAt (w : Word) : VSrc := if w.getLsbD 6 then .s (sregAt w 10) else .v (vregAt w 10)

/-- SALU by fn (R171). -/
def candS3 (w : Word) : Option Myvik :=
  match (w.extractLsb' 0 5).toNat with
  | 0 => some (.add (sregAt w 21) (sregAt w 17) (sregAt w 13))
  | 1 => some (.sub (sregAt w 21) (sregAt w 17) (sregAt w 13))
  | 2 => some (.and (sregAt w 21) (sregAt w 17) (sregAt w 13))
  | 3 => some (.or (sregAt w 21) (sregAt w 17) (sregAt w 13))
  | 4 => some (.xor (sregAt w 21) (sregAt w 17) (sregAt w 13))
  | 5 => some (.andn (sregAt w 21) (sregAt w 17) (sregAt w 13))
  | 6 => some (.sll (sregAt w 21) (sregAt w 17) (sregAt w 13))
  | 7 => some (.srl (sregAt w 21) (sregAt w 17) (sregAt w 13))
  | 8 => some (.sra (sregAt w 21) (sregAt w 17) (sregAt w 13))
  | 9 => some (.rol (sregAt w 21) (sregAt w 17) (sregAt w 13))
  | 10 => some (.ror (sregAt w 21) (sregAt w 17) (sregAt w 13))
  | 11 => some (.setlt (sregAt w 21) (sregAt w 17) (sregAt w 13))
  | 12 => some (.setltu (sregAt w 21) (sregAt w 17) (sregAt w 13))
  | 13 => some (.min (sregAt w 21) (sregAt w 17) (sregAt w 13))
  | 14 => some (.max (sregAt w 21) (sregAt w 17) (sregAt w 13))
  | 15 => some (.minu (sregAt w 21) (sregAt w 17) (sregAt w 13))
  | 16 => some (.maxu (sregAt w 21) (sregAt w 17) (sregAt w 13))
  | 17 => some (.mul (sregAt w 21) (sregAt w 17) (sregAt w 13))
  | 18 => some (.mulhs (sregAt w 21) (sregAt w 17) (sregAt w 13))
  | 19 => some (.mulhu (sregAt w 21) (sregAt w 17) (sregAt w 13))
  | 20 => some (.div (sregAt w 21) (sregAt w 17) (sregAt w 13))
  | 21 => some (.divu (sregAt w 21) (sregAt w 17) (sregAt w 13))
  | 22 => some (.rem (sregAt w 21) (sregAt w 17) (sregAt w 13))
  | 23 => some (.remu (sregAt w 21) (sregAt w 17) (sregAt w 13))
  | 24 => some (.clz (sregAt w 21) (sregAt w 17))
  | 25 => some (.popc (sregAt w 21) (sregAt w 17))
  | _ => none

/-- SALUK by fn (R172). -/
def candSK (w : Word) : Option Myvik :=
  match (w.extractLsb' 14 3).toNat with
  | 0 => some (.addk (sregAt w 21) (sregAt w 17) (w.extractLsb' 0 14))
  | 1 => some (.andk (sregAt w 21) (sregAt w 17) (w.extractLsb' 0 14))
  | 2 => some (.ork (sregAt w 21) (sregAt w 17) (w.extractLsb' 0 14))
  | 3 => some (.xork (sregAt w 21) (sregAt w 17) (w.extractLsb' 0 14))
  | 4 => some (.setltk (sregAt w 21) (sregAt w 17) (w.extractLsb' 0 14))
  | 5 => some (.setltuk (sregAt w 21) (sregAt w 17) (w.extractLsb' 0 14))
  | 6 => some (.rsubk (sregAt w 21) (sregAt w 17) (w.extractLsb' 0 14))
  | _ => none

/-- KOP by fn (R172). -/
def candSC (w : Word) : Option Myvik :=
  match (w.extractLsb' 19 2).toNat with
  | 0 => some (.kset (sregAt w 21) (w.extractLsb' 0 19))
  | 1 => some (.khi (sregAt w 21) (w.extractLsb' 0 16))
  | 2 => some (.pcadd (sregAt w 21) (w.extractLsb' 0 19))
  | _ => none

/-- SHI by kind (R172). -/
def candSH (w : Word) : Option Myvik :=
  match (w.extractLsb' 8 3).toNat with
  | 0 => some (.slli (sregAt w 21) (sregAt w 17) (w.extractLsb' 0 8))
  | 1 => some (.srli (sregAt w 21) (sregAt w 17) (w.extractLsb' 0 8))
  | 2 => some (.srai (sregAt w 21) (sregAt w 17) (w.extractLsb' 0 8))
  | 3 => some (.roli (sregAt w 21) (sregAt w 17) (w.extractLsb' 0 8))
  | 4 => some (.rori (sregAt w 21) (sregAt w 17) (w.extractLsb' 0 8))
  | _ => none

/-- BC by condition (R173). -/
def candBC (w : Word) : Option Myvik :=
  match (w.extractLsb' 13 4).toNat with
  | 0 => some (.bcEq (sregAt w 21) (sregAt w 17) (w.extractLsb' 0 13))
  | 1 => some (.bcNe (sregAt w 21) (sregAt w 17) (w.extractLsb' 0 13))
  | 2 => some (.bcLt (sregAt w 21) (sregAt w 17) (w.extractLsb' 0 13))
  | 3 => some (.bcGe (sregAt w 21) (sregAt w 17) (w.extractLsb' 0 13))
  | 4 => some (.bcLtu (sregAt w 21) (sregAt w 17) (w.extractLsb' 0 13))
  | 5 => some (.bcGeu (sregAt w 21) (sregAt w 17) (w.extractLsb' 0 13))
  | 6 => some (.bcLe (sregAt w 21) (sregAt w 17) (w.extractLsb' 0 13))
  | 7 => some (.bcGt (sregAt w 21) (sregAt w 17) (w.extractLsb' 0 13))
  | 8 => some (.bcTz (sregAt w 21) (sregAt w 17) (w.extractLsb' 0 13))
  | 9 => some (.bcTnz (sregAt w 21) (sregAt w 17) (w.extractLsb' 0 13))
  | _ => none

/-- LD by sz and u (R174). -/
def candLD (w : Word) : Option Myvik :=
  match (w.extractLsb' 14 3).toNat with
  | 0 => some (.ldB (sregAt w 21) (sregAt w 17) (w.extractLsb' 0 14))
  | 1 => some (.ldBu (sregAt w 21) (sregAt w 17) (w.extractLsb' 0 14))
  | 2 => some (.ldH (sregAt w 21) (sregAt w 17) (w.extractLsb' 0 14))
  | 3 => some (.ldHu (sregAt w 21) (sregAt w 17) (w.extractLsb' 0 14))
  | 4 => some (.ldW (sregAt w 21) (sregAt w 17) (w.extractLsb' 0 14))
  | _ => none

/-- ST by sz and u (R174). -/
def candST (w : Word) : Option Myvik :=
  match (w.extractLsb' 14 3).toNat with
  | 0 => some (.stB (sregAt w 21) (sregAt w 17) (w.extractLsb' 0 14))
  | 2 => some (.stH (sregAt w 21) (sregAt w 17) (w.extractLsb' 0 14))
  | 4 => some (.stW (sregAt w 21) (sregAt w 17) (w.extractLsb' 0 14))
  | _ => none

/-- VALU by fn (R180). -/
def candValu (w : Word) : Option Myvik :=
  match (w.extractLsb' 0 5).toNat with
  | 0 => some (.vadd (vregAt w 20) (vregAt w 15) (vsrcAt w) (pregAt w 7) (w.getLsbD 5))
  | 1 => some (.vsub (vregAt w 20) (vregAt w 15) (vsrcAt w) (pregAt w 7) (w.getLsbD 5))
  | 2 => some (.vadds (vregAt w 20) (vregAt w 15) (vsrcAt w) (pregAt w 7) (w.getLsbD 5))
  | 3 => some (.vsubs (vregAt w 20) (vregAt w 15) (vsrcAt w) (pregAt w 7) (w.getLsbD 5))
  | 4 => some (.vaddus (vregAt w 20) (vregAt w 15) (vsrcAt w) (pregAt w 7) (w.getLsbD 5))
  | 5 => some (.vsubus (vregAt w 20) (vregAt w 15) (vsrcAt w) (pregAt w 7) (w.getLsbD 5))
  | 6 => some (.vneg (vregAt w 20) (vregAt w 15) (pregAt w 7) (w.getLsbD 5))
  | 7 => some (.vnegs (vregAt w 20) (vregAt w 15) (pregAt w 7) (w.getLsbD 5))
  | 8 => some (.vabs (vregAt w 20) (vregAt w 15) (pregAt w 7) (w.getLsbD 5))
  | 9 => some (.vabss (vregAt w 20) (vregAt w 15) (pregAt w 7) (w.getLsbD 5))
  | 10 => some (.vabsdu (vregAt w 20) (vregAt w 15) (vsrcAt w) (pregAt w 7) (w.getLsbD 5))
  | 11 => some (.vavgu (vregAt w 20) (vregAt w 15) (vsrcAt w) (pregAt w 7) (w.getLsbD 5))
  | 12 => some (.vand (vregAt w 20) (vregAt w 15) (vsrcAt w) (pregAt w 7) (w.getLsbD 5))
  | 13 => some (.vor (vregAt w 20) (vregAt w 15) (vsrcAt w) (pregAt w 7) (w.getLsbD 5))
  | 14 => some (.vxor (vregAt w 20) (vregAt w 15) (vsrcAt w) (pregAt w 7) (w.getLsbD 5))
  | 15 => some (.vandn (vregAt w 20) (vregAt w 15) (vsrcAt w) (pregAt w 7) (w.getLsbD 5))
  | 16 => some (.vmin (vregAt w 20) (vregAt w 15) (vsrcAt w) (pregAt w 7) (w.getLsbD 5))
  | 17 => some (.vmax (vregAt w 20) (vregAt w 15) (vsrcAt w) (pregAt w 7) (w.getLsbD 5))
  | 18 => some (.vminu (vregAt w 20) (vregAt w 15) (vsrcAt w) (pregAt w 7) (w.getLsbD 5))
  | 19 => some (.vmaxu (vregAt w 20) (vregAt w 15) (vsrcAt w) (pregAt w 7) (w.getLsbD 5))
  | 20 => some (.vmul (vregAt w 20) (vregAt w 15) (vsrcAt w) (pregAt w 7) (w.getLsbD 5))
  | 21 => some (.vmulhs (vregAt w 20) (vregAt w 15) (vsrcAt w) (pregAt w 7) (w.getLsbD 5))
  | 22 => some (.vmulhu (vregAt w 20) (vregAt w 15) (vsrcAt w) (pregAt w 7) (w.getLsbD 5))
  | 23 => some (.vmulq (vregAt w 20) (vregAt w 15) (vsrcAt w) (pregAt w 7))
  | 24 => some (.vmulus (vregAt w 20) (vregAt w 15) (vsrcAt w) (pregAt w 7) (w.getLsbD 5))
  | _ => none

/-- VMAC by fn (R181). -/
def candVmac (w : Word) : Option Myvik :=
  match (w.extractLsb' 0 5).toNat with
  | 0 => some (.vmac (vregAt w 20) (vregAt w 15) (vsrcAt w) (pregAt w 7) (w.getLsbD 5))
  | 1 => some (.vmacs (vregAt w 20) (vregAt w 15) (vsrcAt w) (pregAt w 7) (w.getLsbD 5))
  | 2 => some (.vmacus (vregAt w 20) (vregAt w 15) (vsrcAt w) (pregAt w 7) (w.getLsbD 5))
  | 3 => some (.vmsub (vregAt w 20) (vregAt w 15) (vsrcAt w) (pregAt w 7) (w.getLsbD 5))
  | 4 => some (.vmacw (vregAt w 20) (vregAt w 15) (vsrcAt w) (pregAt w 7))
  | 5 => some (.vmacwu (vregAt w 20) (vregAt w 15) (vsrcAt w) (pregAt w 7))
  | 6 => some (.vmacws (vregAt w 20) (vregAt w 15) (vsrcAt w) (pregAt w 7))
  | 7 => some (.vsadw (vregAt w 20) (vregAt w 15) (vsrcAt w) (pregAt w 7))
  | _ => none

/-- VCMP by fn (R182). -/
def candVcmp (w : Word) : Option Myvik :=
  match (w.extractLsb' 0 5).toNat with
  | 0 => some (.vcmpEq (pregAt w 20) (vregAt w 15) (vsrcAt w) (pregAt w 7) (w.getLsbD 5))
  | 1 => some (.vcmpNe (pregAt w 20) (vregAt w 15) (vsrcAt w) (pregAt w 7) (w.getLsbD 5))
  | 2 => some (.vcmpLt (pregAt w 20) (vregAt w 15) (vsrcAt w) (pregAt w 7) (w.getLsbD 5))
  | 3 => some (.vcmpLe (pregAt w 20) (vregAt w 15) (vsrcAt w) (pregAt w 7) (w.getLsbD 5))
  | 4 => some (.vcmpGt (pregAt w 20) (vregAt w 15) (vsrcAt w) (pregAt w 7) (w.getLsbD 5))
  | 5 => some (.vcmpGe (pregAt w 20) (vregAt w 15) (vsrcAt w) (pregAt w 7) (w.getLsbD 5))
  | 6 => some (.vcmpLtu (pregAt w 20) (vregAt w 15) (vsrcAt w) (pregAt w 7) (w.getLsbD 5))
  | 7 => some (.vcmpLeu (pregAt w 20) (vregAt w 15) (vsrcAt w) (pregAt w 7) (w.getLsbD 5))
  | 8 => some (.vcmpGtu (pregAt w 20) (vregAt w 15) (vsrcAt w) (pregAt w 7) (w.getLsbD 5))
  | 9 => some (.vcmpGeu (pregAt w 20) (vregAt w 15) (vsrcAt w) (pregAt w 7) (w.getLsbD 5))
  | 10 => some (.vcmpTest (pregAt w 20) (vregAt w 15) (vsrcAt w) (pregAt w 7) (w.getLsbD 5))
  | _ => none

/-- VSH by fn (R183). -/
def candVsh (w : Word) : Option Myvik :=
  match (w.extractLsb' 0 5).toNat with
  | 0 => some (.vsll (vregAt w 20) (vregAt w 15) (vsrcAt w) (pregAt w 7) (w.getLsbD 5))
  | 1 => some (.vsrl (vregAt w 20) (vregAt w 15) (vsrcAt w) (pregAt w 7) (w.getLsbD 5))
  | 2 => some (.vsra (vregAt w 20) (vregAt w 15) (vsrcAt w) (pregAt w 7) (w.getLsbD 5))
  | 3 => some (.vrol (vregAt w 20) (vregAt w 15) (vsrcAt w) (pregAt w 7) (w.getLsbD 5))
  | 4 => some (.vror (vregAt w 20) (vregAt w 15) (vsrcAt w) (pregAt w 7) (w.getLsbD 5))
  | 5 => some (.vsrar (vregAt w 20) (vregAt w 15) (vsrcAt w) (pregAt w 7) (w.getLsbD 5))
  | 6 => some (.vsrlr (vregAt w 20) (vregAt w 15) (vsrcAt w) (pregAt w 7) (w.getLsbD 5))
  | 7 => some (.vslls (vregAt w 20) (vregAt w 15) (vsrcAt w) (pregAt w 7) (w.getLsbD 5))
  | _ => none

/-- VPERM by fn (R184). -/
def candVperm (w : Word) : Option Myvik :=
  match (w.extractLsb' 0 5).toNat with
  | 0 => some (.vext (vregAt w 20) (vregAt w 15) (vregAt w 10) (sregAt w 6) (w.getLsbD 5))
  | 1 => some (.vslup (vregAt w 20) (vregAt w 15) (sregAt w 6) (w.getLsbD 5))
  | 2 => some (.vsldn (vregAt w 20) (vregAt w 15) (sregAt w 6) (w.getLsbD 5))
  | 3 => some (.vrot (vregAt w 20) (vregAt w 15) (sregAt w 6) (w.getLsbD 5))
  | 4 => some (.vrev (vregAt w 20) (vregAt w 15) (w.getLsbD 5))
  | 5 => some (.vtbl (vregAt w 20) (vregAt w 15) (vregAt w 10) (w.getLsbD 5))
  | 6 => some (.vsplat (vregAt w 20) (vregAt w 15) (sregAt w 6) (w.getLsbD 5))
  | 7 => some (.vzipl (vregAt w 20) (vregAt w 15) (vregAt w 10) (w.getLsbD 5))
  | 8 => some (.vziph (vregAt w 20) (vregAt w 15) (vregAt w 10) (w.getLsbD 5))
  | 9 => some (.vuzpe (vregAt w 20) (vregAt w 15) (vregAt w 10) (w.getLsbD 5))
  | 10 => some (.vuzpo (vregAt w 20) (vregAt w 15) (vregAt w 10) (w.getLsbD 5))
  | _ => none

/-- VRED by fn (R185). -/
def candVred (w : Word) : Option Myvik :=
  match (w.extractLsb' 0 5).toNat with
  | 0 => some (.vrsum (sregAt w 20) (vregAt w 15) (pregAt w 7) (w.getLsbD 5))
  | 1 => some (.vrsumu (sregAt w 20) (vregAt w 15) (pregAt w 7) (w.getLsbD 5))
  | 2 => some (.vrmin (sregAt w 20) (vregAt w 15) (pregAt w 7) (w.getLsbD 5))
  | 3 => some (.vrmax (sregAt w 20) (vregAt w 15) (pregAt w 7) (w.getLsbD 5))
  | 4 => some (.vrminu (sregAt w 20) (vregAt w 15) (pregAt w 7) (w.getLsbD 5))
  | 5 => some (.vrmaxu (sregAt w 20) (vregAt w 15) (pregAt w 7) (w.getLsbD 5))
  | 6 => some (.vrband (sregAt w 20) (vregAt w 15) (pregAt w 7) (w.getLsbD 5))
  | 7 => some (.vrbor (sregAt w 20) (vregAt w 15) (pregAt w 7) (w.getLsbD 5))
  | 8 => some (.vrargmax (sregAt w 20) (vregAt w 15) (pregAt w 7) (w.getLsbD 5))
  | 9 => some (.vrargmin (sregAt w 20) (vregAt w 15) (pregAt w 7) (w.getLsbD 5))
  | _ => none

/-- VMOV by fn (R186). -/
def candVmov (w : Word) : Option Myvik :=
  match (w.extractLsb' 0 5).toNat with
  | 0 => some (.vmov (vregAt w 20) (vregAt w 15) (pregAt w 7) (w.getLsbD 5))
  | 1 => some (.vsel (vregAt w 20) (vregAt w 15) (vsrcAt w) (pregAt w 7) (w.getLsbD 5))
  | 2 => some (.viota (vregAt w 20) (pregAt w 7) (w.getLsbD 5))
  | 3 => some (.vins (vregAt w 20) (vregAt w 15) (sregAt w 10) (w.getLsbD 5))
  | 4 => some (.vextr (sregAt w 20) (vregAt w 15) (vregAt w 10) (w.getLsbD 5))
  | 5 => some (.vextru (sregAt w 20) (vregAt w 15) (vregAt w 10) (w.getLsbD 5))
  | 6 => some (.vwiden (vregAt w 20) (vregAt w 15) (pregAt w 7))
  | 7 => some (.vwidenu (vregAt w 20) (vregAt w 15) (pregAt w 7))
  | 8 => some (.vnarrow (vregAt w 20) (vregAt w 15) (pregAt w 7))
  | 9 => some (.vnarrows (vregAt w 20) (vregAt w 15) (pregAt w 7))
  | 10 => some (.vnarrowus (vregAt w 20) (vregAt w 15) (pregAt w 7))
  | _ => none

/-- PLOG by fn (R187). -/
def candPlog (w : Word) : Option Myvik :=
  match (w.extractLsb' 0 5).toNat with
  | 0 => some (.pand (pregAt w 22) (pregAt w 19) (pregAt w 16))
  | 1 => some (.por (pregAt w 22) (pregAt w 19) (pregAt w 16))
  | 2 => some (.pxor (pregAt w 22) (pregAt w 19) (pregAt w 16))
  | 3 => some (.pandn (pregAt w 22) (pregAt w 19) (pregAt w 16))
  | 4 => some (.pnot (pregAt w 22) (pregAt w 19))
  | 5 => some (.pset (pregAt w 22))
  | 6 => some (.pclr (pregAt w 22))
  | 7 => some (.pfirst (pregAt w 22) (pregAt w 19))
  | 8 => some (.ptos (pregAt w 19) (sregAt w 12))
  | 9 => some (.stop (pregAt w 22) (sregAt w 12))
  | 10 => some (.pcnt (pregAt w 19) (sregAt w 12))
  | _ => none

/-- The instruction that a word's primary opcode and sub-function name, its operand fields read, the fields that must be 0
not yet checked (R168). -/
def myvikCandidate (w : Word) : Option Myvik :=
  match (w.extractLsb' 25 7).toNat with
  | 0x01 => candS3 w
  | 0x02 => candSK w
  | 0x03 => candSC w
  | 0x08 => candSH w
  | 0x10 => candBC w
  | 0x11 => some (.jrel (sregAt w 21) (w.extractLsb' 0 21))
  | 0x12 => some (.jreg (sregAt w 21) (sregAt w 17) (w.extractLsb' 0 14))
  | 0x18 => some (.bpany (pregAt w 22) (w.extractLsb' 0 17))
  | 0x19 => some (.bpnone (pregAt w 22) (w.extractLsb' 0 17))
  | 0x20 => candLD w
  | 0x21 => candST w
  | 0x28 => some (.vld (vregAt w 20) (sregAt w 16) (pregAt w 13) (w.extractLsb' 0 13))
  | 0x29 => some (.vst (vregAt w 20) (sregAt w 16) (pregAt w 13) (w.extractLsb' 0 13))
  | 0x2A => some (.vlds (vregAt w 20) (sregAt w 16) (sregAt w 12) (pregAt w 9))
  | 0x2B => some (.vsts (vregAt w 20) (sregAt w 16) (sregAt w 12) (pregAt w 9))
  | 0x2C => some (.vldbu (vregAt w 20) (sregAt w 16) (pregAt w 13) (w.extractLsb' 0 13))
  | 0x2D => some (.vstb (vregAt w 20) (sregAt w 16) (pregAt w 13) (w.extractLsb' 0 13))
  | 0x30 => some (.lfr (vregAt w 20) (sregAt w 16) (w.extractLsb' 12 4) (w.extractLsb' 10 2))
  | 0x31 => some (.emit (vregAt w 20))
  | 0x32 => some (.yield)
  | 0x33 => some (.halt)
  | 0x34 => some (.cpost (sregAt w 21) (sregAt w 17) (sregAt w 13))
  | 0x35 => some (.cwait (w.extractLsb' 0 4))
  | 0x36 => some (.mfc (sregAt w 21) (w.extractLsb' 0 8))
  | 0x37 => some (.mtc (sregAt w 21) (w.extractLsb' 0 8))
  | 0x38 => some (.fence)
  | 0x40 => candValu w
  | 0x41 => candVmac w
  | 0x42 => candVcmp w
  | 0x43 => candVsh w
  | 0x44 => candVperm w
  | 0x45 => candVred w
  | 0x46 => candVmov w
  | 0x47 => candPlog w
  | 0x48 => some (.vli (vregAt w 20) (w.extractLsb' 0 16))
  | _ => none

/-- The instruction that a bay reads from a word: none where R169 makes the word illegal, that is where no instruction has
exactly this word, or its operands break `WellFormed`. -/
def myvikDecode (w : Word) : Option Myvik :=
  (myvikCandidate w).filter fun i => decide (myvikEncode i = w) && i.legal

end Sys2Proof
end

