-- ==== Sys2Proof/Machine/Bits.lean ====
section
/-! DEFINITION. Bit fields, byte order (R7, R8), rounding (R71), saturation and check sequences. -/

namespace Sys2Proof.Machine

/-- Field [hi:lo] of a word as a number (R7). -/
def field {n : Nat} (x : BitVec n) (hi lo : Nat) : Nat := (x.extractLsb' lo (hi - lo + 1)).toNat

/-- The word `x` with field [lo + w − 1 : lo] replaced by the low `w` bits of `v`. -/
def setField {n : Nat} (x : BitVec n) (lo w : Nat) (v : Nat) : BitVec n :=
  let m : BitVec n := BitVec.ofNat n (2 ^ w - 1) <<< lo
  (x &&& ~~~m) ||| ((BitVec.ofNat n (v % 2 ^ w)) <<< lo)

/-- The bits of `x` at 1 in the mask from `new`, the others kept. -/
def mergeMask {n : Nat} (mask old new : BitVec n) : BitVec n := (old &&& ~~~mask) ||| (new &&& mask)

/-- Bit `i`. -/
def bit {n : Nat} (x : BitVec n) (i : Nat) : Bool := x.getLsbD i

/-- Bit `i` set or cleared. -/
def setBit {n : Nat} (x : BitVec n) (i : Nat) (b : Bool) : BitVec n :=
  if b then x ||| (1#n <<< i) else x &&& ~~~(1#n <<< i)

/-- The bytes of a number, least significant first: `k` of them (R8). -/
def bytesLe : (k : Nat) → Nat → List Byte
  | 0, _ => []
  | k + 1, x => BitVec.ofNat 8 x :: bytesLe k (x / 256)

/-- The bytes of a number, most significant first: `k` of them (R8). -/
def bytesBe (k x : Nat) : List Byte := (bytesLe k x).reverse

/-- The number whose bytes are given least significant first. -/
def natLe : List Byte → Nat
  | [] => 0
  | b :: bs => b.toNat + 256 * natLe bs

/-- The number whose bytes are given most significant first. -/
def natBe (bs : List Byte) : Nat := bs.foldl (fun acc b => acc * 256 + b.toNat) 0

/-- Round half to even of a / 2^n (R71). -/
def rhe (a : Int) (n : Nat) : Int :=
  let d : Int := 2 ^ n
  let q := a / d
  let r := a % d
  if 2 * r < d then q else if d < 2 * r then q + 1 else if q % 2 = 0 then q else q + 1

/-- Round half to even of a / d for a positive divisor. -/
def rheDiv (a d : Int) : Int :=
  let q := a / d
  let r := a % d
  if 2 * r < d then q else if d < 2 * r then q + 1 else if q % 2 = 0 then q else q + 1

/-- The nearest value in lo..hi. -/
def clampInt (lo hi x : Int) : Int := if x < lo then lo else if hi < x then hi else x

/-- An increment that stops at the largest value of the counter. -/
def satInc {n : Nat} (x : BitVec n) : BitVec n := if x = BitVec.allOnes n then x else x + 1

/-- An increase by `k` that stops at the largest value of the counter. -/
def satAdd {n : Nat} (x : BitVec n) (k : Nat) : BitVec n := BitVec.ofNat n (Nat.min (x.toNat + k) (2 ^ n - 1))

/-- One bit of a cyclic redundancy check, most significant bit first. -/
def crcBit {n : Nat} (poly : BitVec n) (acc : BitVec n) (b : Bool) : BitVec n :=
  let top := acc.msb
  let sh := acc <<< 1
  if top != b then sh ^^^ poly else sh

/-- A cyclic redundancy check over bytes, each byte most significant bit first. -/
def crcMsb {n : Nat} (poly init : BitVec n) (bs : List Byte) : BitVec n :=
  bs.foldl (fun acc b => [7, 6, 5, 4, 3, 2, 1, 0].foldl (fun a i => crcBit poly a (bit b i)) acc) init

/-- A cyclic redundancy check over bytes in the reflected form: least significant bit first, the polynomial
reflected. -/
def crcLsb {n : Nat} (poly init : BitVec n) (bs : List Byte) : BitVec n :=
  bs.foldl (fun acc b => [0, 1, 2, 3, 4, 5, 6, 7].foldl
    (fun a i => let t := bit a 0 != bit b i; let sh := a >>> 1; if t then sh ^^^ poly else sh) acc) init

/-- The mask of 32 lanes whose bit i is `f i`. -/
def laneMask (f : Fin 32 → Bool) : Word := BitVec.ofFnLE f

/-- A natural number within the bounds of a Fin, by its low values. -/
def finOf (n : Nat) [NeZero n] (x : Nat) : Fin n := Fin.ofNat n x

/-- Entry `i` of a vector. -/
def vget {α : Type} {n : Nat} (v : Vector α n) (i : Fin n) : α := v[i]

/-- A vector with entry `i` replaced. -/
def vset {α : Type} {n : Nat} (v : Vector α n) (i : Fin n) (x : α) : Vector α n := v.set i x

/-- A vector with entry `i` changed by `f`. -/
def vmod {α : Type} {n : Nat} (v : Vector α n) (i : Fin n) (f : α → α) : Vector α n := v.set i (f v[i])

end Sys2Proof.Machine
end

