-- ==== Sys2Proof/Machine/Units/Sensor.lean ====
section
/-! DEFINITION. The state of the sensor array: the stalls of every row, the stall maps, the code tables, the reference pens and the
marks that tick events leave on lines (R32–R110). -/

namespace Sys2Proof.Machine

/-- A run-length list: each entry is a number of neighbouring columns and the value they share. -/
abbrev Strip (α : Type) := List (Nat × α)

/-- What a stall holds, and the counts the array reports with the sum (R48, R141): the accumulator, the contributions added
at HG and at LG for each field, the over-range window conversions and the masked window contributions. -/
structure Cell where
  acc : BitVec 48
  hg : Vector Nat 4
  lg : Vector Nat 4
  ovr : Nat
  masked : Nat
  deriving DecidableEq, Repr

def Cell.clear : Cell := { acc := 0, hg := Vector.replicate 4 0, lg := Vector.replicate 4 0, ovr := 0, masked := 0 }

/-- A row of the array. `walk` holds what walks, run-length over the 16,384 active columns (in FRAME the readout half in
[47:24]); `expo` what FRAME adds in place (the accumulating half in [23:0]); `refs` the 64 reference columns L0–L31, H0–H31;
`settle` the window stages that fell in settling ticks (R59), with `expoSettle` those of the frame being exposed; `refBad` bit g
that one of the line's ticks was a settling tick of gain g (R55). `latch` and `refLatch` are the 16-bit latches of the row's stalls
(R40, R48), which do not walk. -/
structure Row where
  walk : Strip Cell
  expo : Strip Cell
  refs : Vector Cell 64
  settle : Nat
  expoSettle : Nat
  refBad : BitVec 2
  latch : Strip (BitVec 16)
  refLatch : Vector (BitVec 16) 64
  deriving DecidableEq, Repr

/-- A row that nothing has entered. The latches stand at 0: DESIGN CHOICE, log entry 64. -/
def Row.clear : Row :=
  { walk := [(16384, Cell.clear)], expo := [(16384, Cell.clear)], refs := Vector.replicate 64 Cell.clear, settle := 0,
    expoSettle := 0, refBad := 0, latch := [(16384, 0)], refLatch := Vector.replicate 64 0 }

/-- The completed sums of a line as the exit row hands them on (R63, R141), with the line's number, its exit LT, the
direction, the lead context and the context serving each field with their active halves (R138), and that tick's marks. `frameRow`
is the row within the frame in FRAME mode; `fresh` says that a statistics frame begins with the line (R151). -/
structure ExitLine where
  line : Nat
  exitTick : Nat
  exitTb : Nat
  dir : Bool
  frameRow : Option Nat
  cells : Strip Cell
  refs : Vector Cell 64
  settle : Nat
  refBad : BitVec 2
  flags : BitVec 9
  lead : CtxIx
  half : Vector (Vector Word 12) 4
  serve : Vector CtxIx 4
  mode : BitVec 4
  fresh : Bool
  disconts : List (Byte × Nat × Nat)
  deriving DecidableEq, Repr

/-- One stall-map set: the 3-bit code of each stall (mask in bit 0, FO in bits 2–1) as runs, by row; none for a set that is not
loaded (R50). -/
abbrev MapSet := Option (Vector (Strip Nat) 256)

/-- A code table in the table store (R43): the AU it was written for and its 256 entries. -/
structure CodeTable where
  au : Fin 4
  entries : Vector Nat 256
  version : Nat
  deriving DecidableEq, Repr

/-- What a code-table bank of a yard holds (R47): the AU its entries are in and its table, none for the default table. -/
structure BankCode where
  au : Fin 4
  table : Option CodeTable
  deriving DecidableEq, Repr

/-- The two code-table banks that a yard has for a gain, and which of them drives the code bus (R47). -/
structure CodeBanks where
  inUse : Fin 2
  codes : Vector BankCode 2
  deriving DecidableEq, Repr

/-- Both banks hold the default table in e⁻/4, bank 0 in use: DESIGN CHOICE, log entry 64. -/
def CodeBanks.reset : CodeBanks := { inUse := 0, codes := Vector.replicate 2 { au := 1, table := none } }

/-- The thresholds of a gain as the last LT used them (R57): the table by number and version, and the pedestal. -/
structure RampUse where
  table : Fin 8
  version : Nat
  ped : Nat
  deriving DecidableEq, Repr

/-- The characterisation of one yard and gain (R55, R56, R62). `offset` is in 1/4,096 e⁻, `gainPpm` the newest gain error;
`sum` and `count` gather the mean over 1,024 characterisations that trims the slope. -/
structure Rchar where
  known : Bool
  tb : Nat
  validL : Bool
  validH : Bool
  offset : Int
  gainPpm : Int
  sum : Int
  count : Nat
  trim : Int
  deriving DecidableEq, Repr

def Rchar.none : Rchar :=
  { known := false, tb := 0, validL := false, validH := false, offset := 0, gainPpm := 0, sum := 0, count := 0, trim := 0 }

/-- The marks on lines: each is the first line number that no longer carries the flag (R80–R84, R99, R107, R124, R132, R357). -/
structure Marks where
  void : Nat
  format : Nat
  overspeed : Nat
  pll : Nat
  sync : Nat
  deriving DecidableEq, Repr

/-- The state of the array. `ticks` counts the ticks fired since power-up, `lineNow` is LINE of LINE_CNT (R20); `lastTb` is
the TB latched at the latest LT. `pllClear` and `syncClear` say that the next tick is the clear tick of R357 or of R132,
`freshNext` that the next line handed on begins a statistics frame, and `discontNext` the DISCONT packets due before it; lines below `dropTo` are discarded (R101). `biasedLt` says that an LT has fired since biasing. `shut` says that no tick fired for 65,536 ns
and the shutter gate holds the photodiodes empty (R37). `enterAt` is LT m of the streaming mode, and the first hand-over tick
of FRAME. `before` keeps the rows and the exit line as they stood before the latest tick, for R356. -/
structure Sensor where
  ticks : Nat
  lineNow : Nat
  lastTb : Nat
  anyTick : Bool
  biased : Bool
  biasTb : Nat
  biasedLt : Bool
  shut : Bool
  rows : Vector Row 256
  exit : Option ExitLine
  before : Option (Vector Row 256 × Option ExitLine)
  dir : Bool
  pos : Fin 16
  lead : CtxIx
  leadHalf : Option (Vector Word 12)
  enterAt : Nat
  marks : Marks
  reversals : Word
  formatChanges : Word
  pllClear : Bool
  syncClear : Bool
  freshNext : Bool
  discontNext : List (Byte × Nat × Nat)
  dropTo : Nat
  settleLeft : Vector Nat 2
  ramp : Vector (Option RampUse) 2
  banks : Vector CodeBanks 16
  maps : Vector MapSet 16
  activeSet : Fin 16
  shadowSet : Fin 16
  shadowValid : Bool
  loading : Bool
  loadUs : BitVec 16
  swapPending : Bool
  tables : Vector (Vector (Option CodeTable) 8) 2
  tableVersions : Nat
  rchar : Vector Rchar 16
  lastValid : Option (Nat × Nat)
  deriving DecidableEq, Repr

/-- The array after power-up: unbiased, no tick fired, every accumulator 0, map set 0 active, no custom table. -/
def Sensor.reset : Sensor :=
  { ticks := 0, lineNow := 0, lastTb := 0, anyTick := false, biased := false, biasTb := 0, biasedLt := false, shut := true,
    rows := Vector.replicate 256 Row.clear, exit := none, before := none, dir := false, pos := 0, lead := 0,
    leadHalf := none, enterAt := 0,
    marks := { void := 0, format := 0, overspeed := 0, pll := 0, sync := 0 }, reversals := 0,
    formatChanges := 0, pllClear := false, syncClear := false,
    freshNext := false, discontNext := [], dropTo := 0, settleLeft := Vector.replicate 2 0,
    ramp := Vector.replicate 2 none, banks := Vector.replicate 16 CodeBanks.reset,
    maps := (Vector.replicate 16 none).set 0 (some (Vector.replicate 256 [(16384, 0)])), activeSet := 0, shadowSet := 0,
    shadowValid := false, loading := false, loadUs := 0, swapPending := false,
    tables := Vector.replicate 2 (Vector.replicate 8 none), tableVersions := 0, rchar := Vector.replicate 16 Rchar.none,
    lastValid := none }

end Sys2Proof.Machine
end

