-- ==== Sys2Proof/Machine/Units/Groom.lean ====
section
/-! DEFINITION. The state of the context table, the grooming pipeline, its table store and the statistics (R135–R159). -/

namespace Sys2Proof.Machine

/-- A half of a context: its twelve registers in the order of R274. -/
abbrev CtxHalf := Vector Word 12

/-- A context (R135–R139, R159): its halves, the line of a scheduled swap with the slot whose CTX_SCHEDULE waits (none for a swap
that no slot waits for), the tick at which a lock ends with the slots whose commands wait for that in the order they were accepted, whether it was in use at
the latest LT, and its frame number. -/
structure Ctx where
  active : CtxHalf
  shadow : CtxHalf
  sched : Option (Nat × Option Slot)
  lockUntil : Option Nat
  waiters : List Slot
  inUse : Bool
  frame : Word
  deriving DecidableEq, Repr

/-- The reset values of a context's registers (R60, R86–R88, R110, R158, R220), in the order of R274. -/
def CtxHalf.reset : CtxHalf :=
  #v[0x00420001#32, 0x00000018#32, 0x00010000#32, 0, 0, 0, 0x00FF0100#32, 0x04000000#32, 0x30000001#32, 0xC0800003#32,
     0x000303FF#32, 0x0310FFFF#32]

def Ctx.reset : Ctx :=
  { active := CtxHalf.reset, shadow := CtxHalf.reset, sched := none, lockUntil := none, waiters := [], inUse := false, frame := 0 }

/-- A pixel of a groomed field: its value in 1/256 (R141), saturated, left unreplaced (R145), and defective before stage 4. -/
structure Pix where
  v : Int
  sat : Bool
  unrep : Bool
  bad : Bool
  deriving DecidableEq, Repr

/-- A line after GROOM-F: the stage-4 values of each carried field (R142–R145). -/
structure Groomed where
  line : ExitLine
  flags : BitVec 9
  fields : List (Strip Pix)
  deriving DecidableEq, Repr

/-- An output code with the marks the statistics need (R148, R153). -/
structure Code where
  code : Nat
  u : Nat
  sat : Bool
  deriving DecidableEq, Repr

/-- A line after GROOM-B: the U16 feed values, the output codes and the unreplaced pixels of each carried field (R147–R149), and
whether it is the first line of the field's statistics frame. -/
structure Formatted where
  line : ExitLine
  flags : BitVec 9
  feed : List (Strip Nat)
  codes : List (Strip Code)
  unrep : List Nat
  firsts : List Bool
  deriving DecidableEq, Repr

/-- A statistics frame of a field in progress (R151–R153), with its serving context. -/
structure Frame where
  ctx : CtxIx
  enabled : Bool
  first : Nat
  lines : Nat
  target : Nat
  included : Nat
  columns : Nat
  colStat : Bool
  hist : Vector Nat 256
  lo : Nat
  hi : Nat
  satConv : Nat
  masked : Nat
  satPix : Nat
  unrepl : Nat
  sums : Strip (Nat × Nat)
  deriving DecidableEq, Repr

/-- A frame whose packets are due (R154): its number and field, whether it was short; `next` is the index of
the next packet, 0 the summary and i + 1 column packet i. -/
structure StatDue where
  frame : Frame
  number : Word
  fld : Fin 4
  short : Bool
  next : Nat
  deriving DecidableEq, Repr

/-- Grooming: the table store (R140), the pipeline stages (R21), stage-4 outputs of the previous line for each field (R145), and the
frames in progress by field, the packets due, GRM_TRUNC, and the flags of the newest lines. `counted` are the contexts whose frame number has risen
at the line groomed last (R152). `resetDue` says that a reset of the pipeline takes effect
in the next LP (R416). -/
structure Groom where
  columns : Vector (Option (Strip (Int × Nat))) 32
  defects : Vector (Option (Strip Bool)) 32
  luts : Vector (Option (Strip Nat)) 16
  link : Option ExitLine
  front : Option Groomed
  back : Option Formatted
  prev : Option Groomed
  frames : Vector (Option Frame) 4
  counted : List CtxIx
  stats : List StatDue
  statDropped : Word
  lineTrunc : Vector Word 16
  history : List (Nat × BitVec 9)
  resetDue : Bool
  deriving DecidableEq, Repr

/-- Every table with the content of built-in table 0, the pipeline empty. -/
def Groom.reset : Groom :=
  { columns := Vector.replicate 32 none, defects := Vector.replicate 32 none, luts := Vector.replicate 16 none,
    link := none, front := none, back := none, prev := none, frames := Vector.replicate 4 none, counted := [], stats := [],
    statDropped := 0, lineTrunc := Vector.replicate 16 0, history := [], resetDue := false }

end Sys2Proof.Machine
end

