-- ==== Sys2Proof/Machine/CtxFields.lean ====
section
/-! DEFINITION. The fields of a context's registers (R60, R86–R88, R110, R158, R220) and the rules a context must keep. -/

namespace Sys2Proof.Machine

/-- Register `i` of a half, in the order of R274. -/
def creg (h : CtxHalf) (i : Fin 12) : Word := h[i]

def cAu (h : CtxHalf) : Fin 4 := finOf 4 (field (creg h 0) 1 0)
def cTable (h : CtxHalf) (g : Fin 2) : Fin 8 := finOf 8 (if g = 0 then field (creg h 0) 4 2 else field (creg h 0) 7 5)
def cRowLg (h : CtxHalf) (grp : Nat) : Bool := bit (creg h 0) (8 + grp)
/-- The pedestal of a gain in electrons (R39). -/
def cPed (h : CtxHalf) (g : Fin 2) : Nat := if g = 0 then field (creg h 0) 19 16 else 2 * field (creg h 0) 23 20
def cShutMode (h : CtxHalf) : Bool := bit (creg h 0) 24
def cFo3 (h : CtxHalf) : Nat := field (creg h 0) 26 25
def cMapSet (h : CtxHalf) : Fin 16 := finOf 16 (field (creg h 0) 31 28)
def cShutNs (h : CtxHalf) : Nat := field (creg h 1) 15 0
def cStageFirst (h : CtxHalf) : Nat := field (creg h 2) 7 0
def cStageCount (h : CtxHalf) : Nat := field (creg h 2) 16 8
def cFmt (h : CtxHalf) : Nat := field (creg h 2) 19 18
def cPreshift (h : CtxHalf) : Nat := field (creg h 2) 22 20
def cRowGroup (h : CtxHalf) : Bool := bit (creg h 2) 23
/-- The length of the field sequence, 1–16. -/
def cSeqLen (h : CtxHalf) : Nat := field (creg h 2) 27 24 + 1
def cDirMode (h : CtxHalf) : Nat := field (creg h 2) 29 28
def cRowField (h : CtxHalf) (grp : Nat) : Nat := ((creg h 3).extractLsb' (2 * grp) 2).toNat
/-- The context that serves field B, C or D (R66). -/
def cServe (h : CtxHalf) (f : Nat) : CtxIx := finOf 16 ((creg h 3).extractLsb' (12 + 4 * f) 4).toNat
/-- Entry `e` of the field sequence (R88). -/
def cEntry (h : CtxHalf) (e : Nat) : Nat :=
  if e < 10 then ((creg h 4).extractLsb' (3 * e) 3).toNat else ((creg h 5).extractLsb' (3 * (e - 10)) 3).toNat
def cFrameExp (h : CtxHalf) : Nat := field (creg h 6) 23 16
def cFramePer (h : CtxHalf) : Nat := field (creg h 6) 15 0
def cLut (h : CtxHalf) : Fin 16 := finOf 16 (field (creg h 7) 14 11)
def cDeftab (h : CtxHalf) : Fin 32 := finOf 32 (field (creg h 7) 19 15)
def cColtab (h : CtxHalf) : Fin 32 := finOf 32 (field (creg h 7) 24 20)
def cRescale (h : CtxHalf) : Bool := bit (creg h 7) 26
def cOfmt (h : CtxHalf) : Nat := field (creg h 7) 29 27
/-- Columns binned: 1, 2 or 4 (R147, R158). -/
def cBin (h : CtxHalf) : Nat := 2 ^ field (creg h 7) 31 30
def cOscale (h : CtxHalf) : Nat := field (creg h 8) 15 0
def cOblack (h : CtxHalf) : Nat := field (creg h 8) 26 16
def cOshift (h : CtxHalf) : Nat := field (creg h 8) 31 27
def cMshift (h : CtxHalf) : Nat := field (creg h 9) 2 0
def cColtabB (h : CtxHalf) : Fin 32 := finOf 32 (field (creg h 9) 15 11)
def cKneeLo (h : CtxHalf) : Nat := field (creg h 9) 23 16
def cKneeHi (h : CtxHalf) : Nat := field (creg h 9) 31 24
def cFrameLines (h : CtxHalf) : Nat := field (creg h 10) 15 0 + 1
def cStatEn (h : CtxHalf) : Bool := bit (creg h 10) 16
def cColStat (h : CtxHalf) : Bool := bit (creg h 10) 17

def cJobMask (h : CtxHalf) : Nat := field (creg h 11) 15 0
def cJobKslot (h : CtxHalf) : Fin 16 := finOf 16 (field (creg h 11) 19 16)
def cJobAsid (h : CtxHalf) : BitVec 4 := (creg h 11).extractLsb' 20 4
/-- The deadline D of the line jobs, 1–16 (R192). -/
def cJobDeadline (h : CtxHalf) : Nat := field (creg h 11) 27 24 + 1
def cJobEn (h : CtxHalf) : Bool := bit (creg h 11) 31

/-- The number of fields the context carries (R458). -/
def cFields (h : CtxHalf) : Nat := if cFmt h = 0 then 1 else if cFmt h = 1 then 2 else 4

/-- The bits of each register that are not reserved (RO 0), in the order of R274. -/
def ctxWritable : Vector Word 12 :=
  #v[0xF7FFFFFF#32, 0x0000FFFF#32, 0x3FFDFFFF#32, 0x0FFFFFFF#32, 0x3FFFFFFF#32, 0x0003FFFF#32, 0x00FFFFFF#32,
     0xFDFFF800#32, 0xFFFFFFFF#32, 0xFFFFF807#32, 0x0003FFFF#32, 0x8FFFFFFF#32]

/-- A used entry of the field sequence breaks R76 or names a field that F2 lacks. -/
def entryBad (h : CtxHalf) (e : Nat) : Bool :=
  let x := cEntry h e
  5 ≤ x || (cFmt h = 1 && (x = 2 || x = 3))

/-- A context half breaks a rule of the context alone: a reserved value in a field that its format uses, or a constraint of R67, R74–R79,
R86, R110, R146, R148, R153 or R158. -/
def ctxAloneBad (h : CtxHalf) : Bool :=
  let usesTime := cFmt h ≠ 0 && !cRowGroup h
  let usesGroup := cFmt h ≠ 0 && cRowGroup h
  cFmt h = 3 || cDirMode h = 3 || cStageCount h = 0 || 256 < cStageCount h || 256 < cStageFirst h + cStageCount h
    || (cFmt h ≠ 0 && (List.range (cSeqLen h)).any (entryBad h)) || (usesTime && cStageCount h % cSeqLen h ≠ 0)
    || (usesGroup && cFmt h = 1 && (List.range 8).any fun g => 2 ≤ cRowField h g)
    || (cFmt h = 1 && 2 ≤ cFo3 h)
    || cFrameExp h = 0 || cFramePer h < 2
    || 4 ≤ cOfmt h || field (creg h 7) 31 30 = 3 || cKneeHi h ≤ cKneeLo h
    || (cColStat h && cFrameLines h < 64) || cJobAsid h = 0

/-- Stage of a row (R64). -/
def stageOf (dir : Bool) (r : Nat) : Nat := if dir then 255 - r else r

/-- A stage inside the window (R67). -/
def inWindow (h : CtxHalf) (s : Nat) : Bool := cStageFirst h ≤ s && s < cStageFirst h + cStageCount h

/-- The gain of a row (R48). -/
def rowGain (h : CtxHalf) (r : Nat) : Fin 2 := if cRowLg h (r / 32) then 1 else 0

/-- The nominal number of window stages of a field in a direction (R141, R77, R78). -/
def nomStages (h : CtxHalf) (frame dir : Bool) (f : Nat) : Nat :=
  if frame then cFrameExp h
  else if cFmt h = 0 then cStageCount h
  else if cRowGroup h then
    ((List.range 256).filter fun r => inWindow h (stageOf dir r) && cRowField h (r / 32) = f).length
  else cStageCount h / cSeqLen h * ((List.range (cSeqLen h)).filter fun e => cEntry h e = f).length

/-- The window holds a row of each gain in a direction (R104). -/
def bothGains (h : CtxHalf) (dir : Bool) : Bool :=
  let rows := (List.range 256).filter fun r => inWindow h (stageOf dir r)
  (rows.any fun r => rowGain h r = 0) && rows.any fun r => rowGain h r = 1

/-- The directions a context can run (R104). -/
def ctxDirs (h : CtxHalf) : List Bool :=
  if cDirMode h = 0 then [false] else if cDirMode h = 1 then [true] else [false, true]

end Sys2Proof.Machine
end

