-- ==== Sys2Proof/Machine/Units/Memory.lean ====
section
/-! DEFINITION. Memory as the part holds it: HBM, the hayloft and the lofts (R203), poison marks (R211), and the
translation look-aside buffers (R209). -/

namespace Sys2Proof.Machine

/-- The addressed RAM of the part. `cells` lists the bytes whose value differs from what an unlisted
address reads as, with strictly rising physical addresses; in HBM every byte ever written is listed. `poison` lists
the byte addresses, divided by 8, of the 64-bit words marked poisoned (R211), strictly rising. -/
structure Memory where
  cells : List Host.Cell
  poison : List Nat
  deriving DecidableEq, Repr

/-- The hayloft and the lofts after they are cleared, HBM never written (R205). -/
def Memory.reset : Memory := { cells := [], poison := [] }

/-- A translation held by a TLB, tagged by address space (R209). `page` is VA[39:16] of the page's first 64 KiB. -/
structure TlbEntry where
  asid : BitVec 4
  page : BitVec 24
  big : Bool
  leaf : BitVec 64
  deriving DecidableEq, Repr

/-- An instruction-cache line: 64 bytes of code of one address space (R160, R166). -/
structure CodeLine where
  asid : BitVec 4
  line : BitVec 34
  words : Vector Word 16
  deriving DecidableEq, Repr

end Sys2Proof.Machine
end

