-- ==== Sys2Proof/Machine/Units/Bays.lean ====
section
/-! DEFINITION. The state of the detection bays, the jobs, the kernels, the address spaces, the fault ring and the carts
(R160–R220). -/

namespace Sys2Proof.Machine

/-- The state a job sees (R162), with the CSRs that a save frame holds (R202). The other CSRs are derived from the
job and the bay. Entry 0 of `s` and of `p` is never read: s0 reads 0 and p0 reads all ones. -/
structure JobRegs where
  s : Vector Word 16
  v : Vector (Vector (BitVec 16) 32) 32
  p : Vector Word 8
  pc : BitVec 40
  vov : Word
  vsat : Word
  sflags : Word
  lineLo : Word
  lineHi : Word
  bflag : Word
  kernel : Word
  dseg : Word
  deriving DecidableEq, Repr

def JobRegs.zero : JobRegs :=
  { s := Vector.replicate 16 0, v := Vector.replicate 32 (Vector.replicate 32 0), p := Vector.replicate 8 0,
    pc := 0, vov := 0, vsat := 0, sflags := 0, lineLo := 0, lineHi := 0, bflag := 0, kernel := 0, dseg := 0 }

/-- A line job: the line and its segment, the values taken from the bound context's ACX_JOB (R192), the lead context, the
number of fields that the context carries, and the LTs still to begin before it is stopped (TLEFT, R179). -/
structure LineJob where
  line : Nat
  seg : BayIx
  kslot : Fin 16
  asid : BitVec 4
  ctx : CtxIx
  fields : Fin 4
  left : Nat
  deriving DecidableEq, Repr

/-- The states of a deep-job slot (R199). -/
inductive SlotState where
  | empty | ready | running | saved | faulted | lost | done
  deriving DecidableEq, Repr

/-- A deep-job slot (R199): `fills` counts the jobs it has held, so that a cart can tell the job that
posted to it from a later one; `fresh` says that a READY job starts from its entry and not from its frame. -/
structure DeepSlot where
  state : SlotState
  kslot : Fin 16
  asid : BitVec 4
  saves : Word
  fills : Nat
  fresh : Bool
  deriving DecidableEq, Repr

/-- Why a deep job's frame is being written: pre-emption (R201), YIELD (R178) or a fault (R219). -/
inductive SaveWhy where
  | preempt | yield | fault
  deriving DecidableEq, Repr

/-- What a bay is doing (STATE of BAY_STAT, R220). -/
inductive BayWork where
  | idle
  | line (j : LineJob)
  | deep (j : Fin 4)
  | saving (j : Fin 4) (why : SaveWhy)
  | restoring (j : Fin 4)
  | reset
  deriving DecidableEq, Repr

/-- A detection bay (R160, R162, R196, R199, R220). `lastSlot` is the slot running or last run, none before the first run. `illegal` counts illegal instructions, `cartPoison` and `emitBad` of `Detect` poisoned words moved and
records refused: event counters of R31 that no register shows. DESIGN CHOICE (log entry 69). -/
structure Bay where
  work : BayWork
  regs : JobRegs
  queue : List LineJob
  slots : Vector DeepSlot 4
  lastSlot : Option (Fin 4)
  preempted : Option (Fin 4)
  cyc : BitVec 64
  cycHi : Word
  illegal : Word
  missed : BitVec 16
  faults : BitVec 16
  halted : Bool
  skipBrk : Bool
  tlb : List TlbEntry
  code : List CodeLine
  deriving DecidableEq, Repr

def DeepSlot.reset : DeepSlot := { state := .empty, kslot := 0, asid := 0, saves := 0, fills := 0, fresh := false }

/-- A bay after reset: no job, every register 0 (the manual gives the registers a value at a job start only). -/
def Bay.reset : Bay :=
  { work := .idle, regs := JobRegs.zero, queue := [], slots := Vector.replicate 4 DeepSlot.reset, lastSlot := none,
    preempted := none, cyc := 0, cycHi := 0, illegal := 0, missed := 0, faults := 0, halted := false,
    skipBrk := false, tlb := [], code := [] }

/-- Who posted a descriptor (R213, R216): the firmware, a line job or the job of a deep slot. -/
inductive Poster where
  | firmware
  | line (b : BayIx) (line : Nat) (seg : BayIx)
  | deep (b : BayIx) (j : Fin 4) (fills : Nat)
  deriving DecidableEq, Repr

/-- A descriptor in a cart's queue: its 32 bytes little-endian (none while a chained one is yet to be fetched), its virtual
address and the address space it is fetched under (R213, R214). -/
structure CartDesc where
  raw : Option (BitVec 256)
  va : BitVec 40
  asid : BitVec 4
  poster : Poster
  chained : Bool
  deriving DecidableEq, Repr

/-- STATE of CART_CTRL (R220). -/
inductive CartState where
  | idle | running | stopped | reset
  deriving DecidableEq, Repr

/-- A cart (R213–R216). The head of `queue` is the current or stopped descriptor once `begun`. `freed` says that a
timer event has released the head descriptor (R374). -/
structure Cart where
  owner : BitVec 4
  state : CartState
  queue : List CartDesc
  begun : Bool
  freed : Bool
  prog : Word
  dva : BitVec 40
  deriving DecidableEq, Repr

def Cart.reset : Cart :=
  { owner := 0, state := .idle, queue := [], begun := false, freed := false, prog := 0, dva := 0 }

/-- One line of the loft rings: its number, the lead context's fields carried (minus 1) and the U16 feed values of
each field by active column (R149, R195), one run-length list per field. -/
structure RingLine where
  line : Nat
  fields : Fin 4
  values : List (List (Nat × Nat))
  deriving DecidableEq, Repr

/-- A record that EMIT queued for the flaw path (R177) with lanes 0–4 of its register, or the marker of an incomplete line job (R198). -/
inductive FlawItem where
  | record (line : Nat) (bay : BayIx) (lanes : Vector (BitVec 16) 5) (kernel : BitVec 16) (id : BitVec 40)
  | incomplete (line : Nat) (seg : BayIx) (bay : BayIx) (kernel : BitVec 16)
  deriving DecidableEq, Repr

/-- The detection side of the hub. -/
structure Detect where
  bays : Vector Bay 128
  carts : Vector Cart 32
  cartTlb : Vector (List TlbEntry) 4
  ring : List RingLine
  jobCfg : Word
  kernEntry : Vector (BitVec 64) 16
  asBase : Vector (BitVec 64) 16
  tlbInv : Word
  tlbBusy : Option (BitVec 4 × BitVec 2 × BitVec 24)
  tlbInvVa : BitVec 64
  fltHead : Byte
  fltTail : Byte
  fltRecords : BitVec 16
  fltLost : Word
  cartPoison : Word
  cartIrq : BitVec 32
  flawOut : List FlawItem
  flawId : BitVec 40
  credits : Nat
  creditTb : Nat
  flawLost : Nat
  flawLostFirst : Option Nat
  emitBad : Word
  deriving DecidableEq, Repr

def Detect.reset : Detect :=
  { bays := Vector.replicate 128 Bay.reset, carts := Vector.replicate 32 Cart.reset,
    cartTlb := Vector.replicate 4 [], ring := [], jobCfg := 0x00000020#32, kernEntry := Vector.replicate 16 0,
    asBase := Vector.replicate 16 0, tlbInv := 0, tlbBusy := none, tlbInvVa := 0, fltHead := 0, fltTail := 0,
    fltRecords := 0, fltLost := 0, cartPoison := 0, cartIrq := 0, flawOut := [], flawId := 0, credits := 65536,
    creditTb := 0, flawLost := 0, flawLostFirst := none, emitBad := 0 }

end Sys2Proof.Machine
end

