-- ==== Sys2Proof/Machine/Units/Clocks.lean ====
section
/-! DEFINITION. The state of the clock tree: the six PLLs, their reference, the phase stepper, the ramp profile and the band tables
(R350–R369, R459). -/

namespace Sys2Proof.Machine

/-- The clock tree. `refclkOk` says that REFCLK is within its limits, as the pin brings it. `trying` says which PLLs have an attempt at lock in progress or to come (R358); `lockedOnce` that PLL-A has
locked since power-up (R358); `ticksAllowed` that 10 µs have passed since PLL-A's lock (R358), at TB `lockTb`; `stepTb` is the TB of the latest phase step (R354); `recovered` that PLL-A takes the string's clock (R355). `fallback` says that what PLL-B feeds runs from the fallback oscillator. `profile` is the running segment. -/
structure Clocks where
  refclkOk : Bool
  lock : Vector Bool 6
  trying : Vector Bool 6
  lockedOnce : Bool
  ticksAllowed : Bool
  recovered : Bool
  fallback : Bool
  point : BitVec 2
  margin : BitVec 6
  loss : Vector (BitVec 16) 6
  pllaOut : Vector Word 6
  phaseRetard : Bool
  phaseLeft : BitVec 16
  phaseByAlign : Bool
  pllbCfg : Word
  prof : Vector Word 16
  profLast : BitVec 4
  profile : Option (Fin 16)
  portPll : Vector Word 4
  band : Vector (Vector Word 64) 6
  lockTb : Nat
  stepTb : Nat
  deriving DecidableEq, Repr

/-- The registers of R369 at their reset values, no PLL locked. -/
def Clocks.reset : Clocks :=
  { refclkOk := false, lock := Vector.replicate 6 false, trying := Vector.replicate 6 false, lockedOnce := false,
    ticksAllowed := false, recovered := false, fallback := false, point := 0, margin := 0, loss := Vector.replicate 6 0,
    pllaOut := #v[0x00010200#32, 0x00010800#32, 0x00010800#32, 0x00010800#32, 0x00010400#32, 0x00011000#32],
    phaseRetard := false, phaseLeft := 0, phaseByAlign := false, pllbCfg := 0x00280000#32, prof := Vector.replicate 16 0, profLast := 0,
    profile := none, portPll := #v[0x00010000#32, 0x00020000#32, 0x00040000#32, 0x00080000#32],
    band := Vector.replicate 6 (Vector.replicate 64 0), lockTb := 0, stepTb := 0 }

end Sys2Proof.Machine
end

