-- ==== Sys2Proof/Machine/Units/Faults.lean ====
section
/-! DEFINITION. The state of the fault summary, the watchdog and per-function reset (R401–R418). -/

namespace Sys2Proof.Machine

/-- The fault summary (R401–R405, R417, R418). `cls` holds the class bits, the level classes with the edge classes;
`stale` is CHORE_STALE; `pfrBusy` the BUSY bits of PFR_CTRL; `hubWarm` and `yardWarm` hold which readings keep the class of
a warm hub or yard set (R401); `cpIrq` that a rise of a class bit has interrupted the control processor (R403). -/
structure Faults where
  cls : Word
  faultN : Word
  irqEn : Word
  lastCause : Byte
  stale : BitVec 9
  cnt : Vector (BitVec 16) 21
  regLock : BitVec 16
  restarts : Word
  pfrBusy : BitVec 13
  hubWarm : Bool
  yardWarm : Vector Bool 8
  cpIrq : Bool
  deriving DecidableEq, Repr

/-- The registers of R417 and R418 at their reset values. -/
def Faults.reset : Faults :=
  { cls := 0, faultN := 0x0002004F#32, irqEn := 0x001FFFFF#32, lastCause := 0, stale := 0, cnt := Vector.replicate 21 0,
    regLock := 0, restarts := 0, pfrBusy := 0, hubWarm := false, yardWarm := Vector.replicate 8 false, cpIrq := false }

/-- The watchdog (R406–R411): `periodMs` and `clkTb` are the register's fields, `runPeriodMs` and `runClkTb` the period
and clock of the period that runs. `disFirst` says that the first disable key was just written. -/
structure Watchdog where
  disabled : Bool
  isOpen : Bool
  armed : Bool
  clkTb : Bool
  periodMs : BitVec 14
  runPeriodMs : BitVec 14
  runClkTb : Bool
  disFirst : Bool
  disTb : Nat
  serviceLine : BitVec 48
  serviceRtc : BitVec 63
  evidPc : Word
  evidLine : BitVec 48
  evidRtc : BitVec 63
  evidValid : Bool
  evidCause : Byte
  deriving DecidableEq, Repr

/-- The watchdog after reset: running, 2,000 ms on the RC clock, window closed (R406). -/
def Watchdog.reset : Watchdog :=
  { disabled := false, isOpen := false, armed := false, clkTb := false, periodMs := 2000, runPeriodMs := 2000,
    runClkTb := false, disFirst := false, disTb := 0, serviceLine := 0, serviceRtc := 0, evidPc := 0, evidLine := 0, evidRtc := 0,
    evidValid := false, evidCause := 0 }

end Sys2Proof.Machine
end

