-- ==== Sys2Proof/Machine/Crypto.lean ====
section
/-! DEFINITION. The algorithms of R289 that are not on the curve: SHA-384, HMAC-SHA-384, the counter-mode KDF, AES-256, GCM and CTR_DRBG, as the standards
that R289 names define them. -/

namespace Sys2Proof.Machine

/-- Byte strings XORed, as far as the shorter goes. -/
def xorBytes (a b : List Byte) : List Byte := List.zipWith (· ^^^ ·) a b

/-- The constants of SHA-384 (FIPS 180-4): the fractional parts of the cube roots of the first 80 primes. -/
def shaK : List (BitVec 64) :=
  [0x428A2F98D728AE22, 0x7137449123EF65CD, 0xB5C0FBCFEC4D3B2F, 0xE9B5DBA58189DBBC,
   0x3956C25BF348B538, 0x59F111F1B605D019, 0x923F82A4AF194F9B, 0xAB1C5ED5DA6D8118,
   0xD807AA98A3030242, 0x12835B0145706FBE, 0x243185BE4EE4B28C, 0x550C7DC3D5FFB4E2,
   0x72BE5D74F27B896F, 0x80DEB1FE3B1696B1, 0x9BDC06A725C71235, 0xC19BF174CF692694,
   0xE49B69C19EF14AD2, 0xEFBE4786384F25E3, 0x0FC19DC68B8CD5B5, 0x240CA1CC77AC9C65] ++
  [0x2DE92C6F592B0275, 0x4A7484AA6EA6E483, 0x5CB0A9DCBD41FBD4, 0x76F988DA831153B5,
   0x983E5152EE66DFAB, 0xA831C66D2DB43210, 0xB00327C898FB213F, 0xBF597FC7BEEF0EE4,
   0xC6E00BF33DA88FC2, 0xD5A79147930AA725, 0x06CA6351E003826F, 0x142929670A0E6E70,
   0x27B70A8546D22FFC, 0x2E1B21385C26C926, 0x4D2C6DFC5AC42AED, 0x53380D139D95B3DF,
   0x650A73548BAF63DE, 0x766A0ABB3C77B2A8, 0x81C2C92E47EDAEE6, 0x92722C851482353B] ++
  [0xA2BFE8A14CF10364, 0xA81A664BBC423001, 0xC24B8B70D0F89791, 0xC76C51A30654BE30,
   0xD192E819D6EF5218, 0xD69906245565A910, 0xF40E35855771202A, 0x106AA07032BBD1B8,
   0x19A4C116B8D2D0C8, 0x1E376C085141AB53, 0x2748774CDF8EEB99, 0x34B0BCB5E19B48A8,
   0x391C0CB3C5C95A63, 0x4ED8AA4AE3418ACB, 0x5B9CCA4F7763E373, 0x682E6FF3D6B2B8A3,
   0x748F82EE5DEFB2FC, 0x78A5636F43172F60, 0x84C87814A1F0AB72, 0x8CC702081A6439EC] ++
  [0x90BEFFFA23631E28, 0xA4506CEBDE82BDE9, 0xBEF9A3F7B2C67915, 0xC67178F2E372532B,
   0xCA273ECEEA26619C, 0xD186B8C721C0C207, 0xEADA7DD6CDE0EB1E, 0xF57D4F7FEE6ED178,
   0x06F067AA72176FBA, 0x0A637DC5A2C898A6, 0x113F9804BEF90DAE, 0x1B710B35131C471B,
   0x28DB77F523047D84, 0x32CAAB7B40C72493, 0x3C9EBE0A15C9BEBC, 0x431D67C49C100D4C,
   0x4CC5D4BECB3E42B6, 0x597F299CFC657E2A, 0x5FCB6FAB3AD6FAEC, 0x6C44198C4A475817]

/-- The initial hash value of SHA-384. -/
def shaInit : List (BitVec 64) :=
  [0xCBBB9D5DC1059ED8, 0x629A292A367CD507, 0x9159015A3070DD17, 0x152FECD8F70E5939,
   0x67332667FFC00B31, 0x8EB44A8768581511, 0xDB0C2E0D64F98FA7, 0x47B5481DBEFA4FA4]

/-- The functions of FIPS 180-4 on words of 64 bits. -/
def shaCh (x y z : BitVec 64) : BitVec 64 := (x &&& y) ^^^ (~~~x &&& z)
def shaMaj (x y z : BitVec 64) : BitVec 64 := (x &&& y) ^^^ (x &&& z) ^^^ (y &&& z)
def shaSum0 (x : BitVec 64) : BitVec 64 := x.rotateRight 28 ^^^ x.rotateRight 34 ^^^ x.rotateRight 39
def shaSum1 (x : BitVec 64) : BitVec 64 := x.rotateRight 14 ^^^ x.rotateRight 18 ^^^ x.rotateRight 41
def shaLow0 (x : BitVec 64) : BitVec 64 := x.rotateRight 1 ^^^ x.rotateRight 8 ^^^ x >>> 7
def shaLow1 (x : BitVec 64) : BitVec 64 := x.rotateRight 19 ^^^ x.rotateRight 61 ^^^ x >>> 6

/-- The 80 words of the message schedule, from the block's 16: `w` is a window of the latest 16 words, oldest first. -/
def shaSchedule : (n : Nat) → (w : List (BitVec 64)) → List (BitVec 64)
  | 0, _ => []
  | n + 1, w =>
    let next := shaLow1 (w.getD 14 0) + w.getD 9 0 + shaLow0 (w.getD 1 0) + w.getD 0 0
    w.getD 0 0 :: shaSchedule n (w.drop 1 ++ [next])

/-- One round on the working variables a to h. -/
def shaRound (v : List (BitVec 64)) (kw : BitVec 64 × BitVec 64) : List (BitVec 64) :=
  match v with
  | [a, b, c, d, e, f, g, h] =>
    let t1 := h + shaSum1 e + shaCh e f g + kw.1 + kw.2
    [t1 + shaSum0 a + shaMaj a b c, a, b, c, d + t1, e, f, g]
  | _ => v

/-- The hash value after a block of 128 bytes. -/
def shaBlock (h : List (BitVec 64)) (block : List Byte) : List (BitVec 64) :=
  let w := (List.range 16).map fun i => BitVec.ofNat 64 (natBe ((block.drop (8 * i)).take 8))
  List.zipWith (· + ·) h ((shaK.zip (shaSchedule 80 w)).foldl shaRound h)

/-- The padded message of SHA-384. -/
def shaPad (bs : List Byte) : List Byte :=
  bs ++ [0x80] ++ List.replicate ((239 - bs.length % 128) % 128) 0 ++ bytesBe 16 (8 * bs.length)

/-- SHA-384 (FIPS 180-4) of a byte string, as 48 bytes. -/
@[irreducible] def sha384 (bs : List Byte) : List Byte :=
  let m := shaPad bs
  let h := (List.range (m.length / 128)).foldl (fun h i => shaBlock h ((m.drop (128 * i)).take 128)) shaInit
  (h.take 6).flatMap fun w => bytesBe 8 w.toNat

/-- HMAC-SHA-384 (FIPS 198-1). -/
def hmac384 (key text : List Byte) : List Byte :=
  let k := if 128 < key.length then sha384 key else key
  let k := k ++ List.replicate (128 - k.length) 0
  sha384 (k.map (· ^^^ 0x5C) ++ sha384 (k.map (· ^^^ 0x36) ++ text))

/-- The counter-mode KDF of SP 800-108 for 256 bits. DESIGN CHOICE: counter and length take four bytes, the fixed input is a label, a zero byte and a context
(log entry 90). -/
def kdf256 (key label context : List Byte) : List Byte :=
  (hmac384 key (bytesBe 4 1 ++ label ++ [0] ++ context ++ bytesBe 4 256)).take 32

/-- The S-box of AES (FIPS 197). -/
def aesSbox : List Byte :=
  [0x63, 0x7C, 0x77, 0x7B, 0xF2, 0x6B, 0x6F, 0xC5, 0x30, 0x01, 0x67, 0x2B, 0xFE, 0xD7, 0xAB, 0x76,
   0xCA, 0x82, 0xC9, 0x7D, 0xFA, 0x59, 0x47, 0xF0, 0xAD, 0xD4, 0xA2, 0xAF, 0x9C, 0xA4, 0x72, 0xC0,
   0xB7, 0xFD, 0x93, 0x26, 0x36, 0x3F, 0xF7, 0xCC, 0x34, 0xA5, 0xE5, 0xF1, 0x71, 0xD8, 0x31, 0x15,
   0x04, 0xC7, 0x23, 0xC3, 0x18, 0x96, 0x05, 0x9A, 0x07, 0x12, 0x80, 0xE2, 0xEB, 0x27, 0xB2, 0x75] ++
  [0x09, 0x83, 0x2C, 0x1A, 0x1B, 0x6E, 0x5A, 0xA0, 0x52, 0x3B, 0xD6, 0xB3, 0x29, 0xE3, 0x2F, 0x84,
   0x53, 0xD1, 0x00, 0xED, 0x20, 0xFC, 0xB1, 0x5B, 0x6A, 0xCB, 0xBE, 0x39, 0x4A, 0x4C, 0x58, 0xCF,
   0xD0, 0xEF, 0xAA, 0xFB, 0x43, 0x4D, 0x33, 0x85, 0x45, 0xF9, 0x02, 0x7F, 0x50, 0x3C, 0x9F, 0xA8,
   0x51, 0xA3, 0x40, 0x8F, 0x92, 0x9D, 0x38, 0xF5, 0xBC, 0xB6, 0xDA, 0x21, 0x10, 0xFF, 0xF3, 0xD2] ++
  [0xCD, 0x0C, 0x13, 0xEC, 0x5F, 0x97, 0x44, 0x17, 0xC4, 0xA7, 0x7E, 0x3D, 0x64, 0x5D, 0x19, 0x73,
   0x60, 0x81, 0x4F, 0xDC, 0x22, 0x2A, 0x90, 0x88, 0x46, 0xEE, 0xB8, 0x14, 0xDE, 0x5E, 0x0B, 0xDB,
   0xE0, 0x32, 0x3A, 0x0A, 0x49, 0x06, 0x24, 0x5C, 0xC2, 0xD3, 0xAC, 0x62, 0x91, 0x95, 0xE4, 0x79,
   0xE7, 0xC8, 0x37, 0x6D, 0x8D, 0xD5, 0x4E, 0xA9, 0x6C, 0x56, 0xF4, 0xEA, 0x65, 0x7A, 0xAE, 0x08] ++
  [0xBA, 0x78, 0x25, 0x2E, 0x1C, 0xA6, 0xB4, 0xC6, 0xE8, 0xDD, 0x74, 0x1F, 0x4B, 0xBD, 0x8B, 0x8A,
   0x70, 0x3E, 0xB5, 0x66, 0x48, 0x03, 0xF6, 0x0E, 0x61, 0x35, 0x57, 0xB9, 0x86, 0xC1, 0x1D, 0x9E,
   0xE1, 0xF8, 0x98, 0x11, 0x69, 0xD9, 0x8E, 0x94, 0x9B, 0x1E, 0x87, 0xE9, 0xCE, 0x55, 0x28, 0xDF,
   0x8C, 0xA1, 0x89, 0x0D, 0xBF, 0xE6, 0x42, 0x68, 0x41, 0x99, 0x2D, 0x0F, 0xB0, 0x54, 0xBB, 0x16]

def aesSub (b : Byte) : Byte := aesSbox.getD b.toNat 0

/-- Multiplication by x in the field of AES. -/
def aesX (b : Byte) : Byte := b <<< 1 ^^^ (if bit b 7 then 0x1B else 0)

/-- The column of MixColumns that begins with the bytes a, b, c, d. -/
def aesMix (a b c d : Byte) : List Byte :=
  [aesX a ^^^ (aesX b ^^^ b) ^^^ c ^^^ d, a ^^^ aesX b ^^^ (aesX c ^^^ c) ^^^ d,
   a ^^^ b ^^^ aesX c ^^^ (aesX d ^^^ d), (aesX a ^^^ a) ^^^ b ^^^ c ^^^ aesX d]

/-- MixColumns on the 16 bytes of the state, column by column. -/
def aesMixAll (s : List Byte) : List Byte :=
  (List.range 4).flatMap fun c => aesMix (s.getD (4 * c) 0) (s.getD (4 * c + 1) 0) (s.getD (4 * c + 2) 0) (s.getD (4 * c + 3) 0)

/-- SubBytes and ShiftRows. -/
def aesSubShift (s : List Byte) : List Byte :=
  (List.range 16).map fun i => aesSub (s.getD ((i % 4 + 4 * (i / 4 + i % 4)) % 16) 0)

/-- The words after the first eight of the key schedule of AES-256, newest first in `ws`; `i` counts them, `rcon` is the round constant. -/
def aesExpand : (n : Nat) → (i : Nat) → (rcon : Byte) → (ws : List (List Byte)) → List (List Byte)
  | 0, _, _, ws => ws
  | n + 1, i, rcon, ws =>
    let t := ws.getD 0 []
    let r := (t.drop 1 ++ t.take 1).map aesSub
    let t := if i % 8 = 0 then (r.getD 0 0 ^^^ rcon) :: r.drop 1 else if i % 8 = 4 then t.map aesSub else t
    aesExpand n (i + 1) (if i % 8 = 0 then aesX rcon else rcon) (xorBytes (ws.getD 7 []) t :: ws)

/-- The 15 round keys of AES-256. -/
def aesKeys (key : List Byte) : List (List Byte) :=
  let first := (List.range 8).map fun i => (key.drop (4 * i)).take 4
  let ws := (aesExpand 52 8 1 first.reverse).reverse
  (List.range 15).map fun i => ((ws.drop (4 * i)).take 4).flatten

/-- AES-256 of a block of 16 bytes (FIPS 197). -/
@[irreducible] def aes256 (key block : List Byte) : List Byte :=
  let ks := aesKeys key
  let s := (List.range 13).foldl (fun s i => xorBytes (aesMixAll (aesSubShift s)) (ks.getD (i + 1) [])) (xorBytes block (ks.getD 0 []))
  xorBytes (aesSubShift s) (ks.getD 14 [])

/-- Multiplication in the field of GHASH (SP 800-38D): bit 127 of a block is its first bit. -/
def ghashMul (x y : BitVec 128) : BitVec 128 :=
  ((List.range 128).foldl (fun (zv : BitVec 128 × BitVec 128) i =>
    (if bit x (127 - i) then zv.1 ^^^ zv.2 else zv.1,
     zv.2 >>> 1 ^^^ (if bit zv.2 0 then 0xE1000000000000000000000000000000#128 else 0))) (0, y)).1

/-- Bytes filled up with zeros to whole blocks. -/
def padBlock (bs : List Byte) : List Byte := bs ++ List.replicate ((16 - bs.length % 16) % 16) 0

/-- GHASH of the data and the text with their lengths. -/
def ghash (h : BitVec 128) (aad text : List Byte) : BitVec 128 :=
  let m := padBlock aad ++ padBlock text ++ bytesBe 8 (8 * aad.length) ++ bytesBe 8 (8 * text.length)
  (List.range (m.length / 16)).foldl (fun y i => ghashMul (y ^^^ BitVec.ofNat 128 (natBe ((m.drop (16 * i)).take 16))) h) 0

/-- The text under the key stream of GCM from counter block 2 on, for an IV of 12 bytes. -/
def gcmStream (key iv text : List Byte) : List Byte :=
  (List.range ((text.length + 15) / 16)).flatMap fun i => xorBytes ((text.drop (16 * i)).take 16) (aes256 key (iv ++ bytesBe 4 (i + 2)))

/-- The tag of GCM for a ciphertext. -/
def gcmTag (key iv aad cipher : List Byte) : List Byte :=
  let h := BitVec.ofNat 128 (natBe (aes256 key (List.replicate 16 0)))
  xorBytes (bytesBe 16 (ghash h aad cipher).toNat) (aes256 key (iv ++ bytesBe 4 1))

/-- AES-256-GCM encryption with an IV of 12 bytes (SP 800-38D): the ciphertext and the tag. -/
@[irreducible] def gcmSeal (key iv aad plain : List Byte) : List Byte × List Byte :=
  let c := gcmStream key iv plain
  (c, gcmTag key iv aad c)

/-- AES-256-GCM decryption: none where the tag fails. -/
@[irreducible] def gcmOpen (key iv aad cipher tag : List Byte) : Option (List Byte) :=
  if gcmTag key iv aad cipher = tag then some (gcmStream key iv cipher) else none

/-- AES-256-GMAC: the tag of GCM over additional data alone (SP 800-38D). -/
@[irreducible] def gmac (key iv data : List Byte) : List Byte := gcmTag key iv data []

/-- The state of CTR_DRBG with AES-256 (SP 800-90A): Key, V, and the requests since the last seeding. -/
structure DrbgState where
  key : BitVec 256
  v : BitVec 128
  requests : Nat
  deriving DecidableEq, Repr

def DrbgState.zero : DrbgState := { key := 0, v := 0, requests := 0 }

/-- The output blocks of CTR_DRBG from V on. -/
def drbgBlocks (key : List Byte) (v : BitVec 128) (n : Nat) : List Byte :=
  (List.range n).flatMap fun i => aes256 key (bytesBe 16 (v + BitVec.ofNat 128 (i + 1)).toNat)

/-- CTR_DRBG_Update with 48 bytes of provided data. -/
def DrbgState.update (d : DrbgState) (data : List Byte) : DrbgState :=
  let t := xorBytes (drbgBlocks (bytesBe 32 d.key.toNat) d.v 3) data
  { d with key := BitVec.ofNat 256 (natBe (t.take 32)), v := BitVec.ofNat 128 (natBe (t.drop 32)) }

/-- BCC: the chaining value of whole blocks. -/
def drbgBcc (key data : List Byte) : List Byte :=
  (List.range (data.length / 16)).foldl (fun c i => aes256 key (xorBytes c ((data.drop (16 * i)).take 16))) (List.replicate 16 0)

/-- Block_Cipher_df: 48 bytes of seed from an input string. -/
def drbgDf (input : List Byte) : List Byte :=
  let s := padBlock (bytesBe 4 input.length ++ bytesBe 4 48 ++ input ++ [0x80])
  let k := (List.range 32).map fun i => BitVec.ofNat 8 i
  let t := (List.range 3).flatMap fun i => drbgBcc k (bytesBe 4 i ++ List.replicate 12 0 ++ s)
  let x1 := aes256 (t.take 32) (t.drop 32)
  let x2 := aes256 (t.take 32) x1
  x1 ++ x2 ++ aes256 (t.take 32) x2

/-- Instantiation, and reseeding, from an entropy input (at instantiation with its nonce). -/
@[irreducible] def drbgInstantiate (entropy : List Byte) : DrbgState := { DrbgState.zero.update (drbgDf entropy) with requests := 0 }

@[irreducible] def DrbgState.reseed (d : DrbgState) (entropy : List Byte) : DrbgState := { d.update (drbgDf entropy) with requests := 0 }

/-- A request for `n` bytes: the output and the state after it. -/
@[irreducible] def DrbgState.generate (d : DrbgState) (n : Nat) : List Byte × DrbgState :=
  let blocks := (n + 15) / 16
  let out := (drbgBlocks (bytesBe 32 d.key.toNat) d.v blocks).take n
  let after := { d with v := d.v + BitVec.ofNat 128 blocks }.update (List.replicate 48 0)
  (out, { after with requests := d.requests + 1 })

end Sys2Proof.Machine
end

