-- ==== Sys2Proof/Machine/Curve.lean ====
section
/-! DEFINITION. The P-384 algorithms of R289: public-key validation, ECDSA with SHA-384, key generation, ECDH and the one-step KDF (FIPS 186-5, SP 800-56A,
SP 800-56C). -/

namespace Sys2Proof.Machine

/-- The field prime of P-384, its coefficient b, its order and its base point. -/
def p384P : Nat := 0xFFFFFFFFFFFFFFFFFFFFFFFFFFFFFFFFFFFFFFFFFFFFFFFFFFFFFFFFFFFFFFFEFFFFFFFF0000000000000000FFFFFFFF
def p384B : Nat := 0xB3312FA7E23EE7E4988E056BE3F82D19181D9C6EFE8141120314088F5013875AC656398D8A2ED19D2A85C8EDD3EC2AEF
def p384N : Nat := 0xFFFFFFFFFFFFFFFFFFFFFFFFFFFFFFFFFFFFFFFFFFFFFFFFC7634D81F4372DDF581A0DB248B0A77AECEC196ACCC52973
def p384G : Option (Nat × Nat) :=
  some (0xAA87CA22BE8B05378EB1C71EF320AD746E1D3B628BA79B9859F741E082542A385502F25DBF55296C3A545E3872760AB7,
    0x3617DE4A96262C6F5D9E98BF9292DC29F8F41DBD289A147CE9DA3113B5F0B8C00A60B1CE1D7E819D7A431D7C90EA0E5F)

/-- The power of `x` to an exponent below 2³⁸⁴, modulo `m`. -/
def powMod (x e m : Nat) : Nat :=
  (List.range 384).foldl (fun r i => let r := r * r % m; if e.testBit (383 - i) then r * x % m else r) 1

/-- The inverse modulo a prime. -/
def invMod (x m : Nat) : Nat := powMod (x % m) (m - 2) m

/-- A point is on the curve with coordinates in range; none is the point at infinity. -/
def onCurve (x y : Nat) : Bool :=
  x < p384P && y < p384P && y * y % p384P = (x * x * x + (p384P - 3) * x + p384B) % p384P

/-- The sum of two points, none being the point at infinity. -/
def pointAdd (a b : Option (Nat × Nat)) : Option (Nat × Nat) :=
  match a, b with
  | none, q => q
  | p, none => p
  | some (x1, y1), some (x2, y2) =>
    if x1 = x2 && (y1 + y2) % p384P = 0 then none
    else
      let l := if x1 = x2 then (3 * x1 * x1 + (p384P - 3)) * invMod (2 * y1) p384P else (y2 + p384P - y1) * invMod (x2 + p384P - x1) p384P
      let l := l % p384P
      let x := (l * l + 2 * p384P - x1 - x2) % p384P
      some (x, (l * (x1 + p384P - x) + p384P - y1) % p384P)

/-- The multiple of a point by a scalar below 2³⁸⁴. -/
def pointMul (k : Nat) (q : Option (Nat × Nat)) : Option (Nat × Nat) :=
  (List.range 384).foldl (fun r i => let r := pointAdd r r; if k.testBit (383 - i) then pointAdd r q else r) none

/-- The coordinates in the 97 bytes of an uncompressed point. -/
def pointX (k : BitVec 776) : Nat := field k 767 384
def pointY (k : BitVec 776) : Nat := field k 383 0

/-- Public-key validation of an uncompressed point (SP 800-56A): the order needs no check, since the cofactor is 1. -/
@[irreducible] def validPoint (k : BitVec 776) : Bool := field k 775 768 = 4 && onCurve (pointX k) (pointY k)

/-- A point as 97 bytes. -/
def pointBits (q : Option (Nat × Nat)) : BitVec 776 :=
  match q with
  | some (x, y) => BitVec.ofNat 776 (4 * 2 ^ 768 + x * 2 ^ 384 + y)
  | none => 0

/-- The public key of a private key. -/
@[irreducible] def publicKey (d : BitVec 384) : BitVec 776 := pointBits (pointMul d.toNat p384G)

/-- A private key, or a per-message secret, from 448 random bits (FIPS 186-5, extra random bits). -/
def scalarOf (c : BitVec 448) : BitVec 384 := BitVec.ofNat 384 (c.toNat % (p384N - 1) + 1)

/-- ECDSA P-384 verification with SHA-384 (FIPS 186-5): public key, message, r ‖ s. -/
@[irreducible] def ecdsaVerify (key : BitVec 776) (msg : List Byte) (sig : BitVec 768) : Bool :=
  let r := field sig 767 384
  let s := field sig 383 0
  let z := natBe (sha384 msg)
  if !validPoint key || r = 0 || s = 0 || p384N ≤ r || p384N ≤ s then false
  else
    let w := invMod s p384N
    let q := pointAdd (pointMul (z * w % p384N) p384G) (pointMul (r * w % p384N) (some (pointX key, pointY key)))
    match q with
    | some (x, _) => x % p384N = r
    | none => false

/-- ECDSA P-384 signature with SHA-384 (FIPS 186-5) under a private key and a per-message secret. A secret that gives r or s = 0, which the standard draws
anew, does not occur in practice and gives that signature here. -/
@[irreducible] def ecdsaSign (d : BitVec 384) (msg : List Byte) (k : BitVec 384) : BitVec 768 :=
  let z := natBe (sha384 msg)
  let r := match pointMul k.toNat p384G with
    | some (x, _) => x % p384N
    | none => 0
  let s := invMod k.toNat p384N * (z + r * d.toNat) % p384N
  BitVec.ofNat 768 (r * 2 ^ 384 + s)

/-- The wrapping key of R291: the one-step KDF with SHA-384 (SP 800-56C) over the ECDH shared secret of E and a private key, with the fixed information. -/
@[irreducible] def ecdhKey (d : BitVec 384) (e : BitVec 776) (info : List Byte) : List Byte :=
  match pointMul d.toNat (some (pointX e, pointY e)) with
  | some (x, _) => (sha384 (bytesBe 4 1 ++ bytesBe 48 x ++ info)).take 32
  | none => []

end Sys2Proof.Machine
end

