-- ==== Sys2Proof/Machine/Units/Manage.lean ====
section
/-! DEFINITION. The state of power and reset, the fuses, the MRAM, the tack room and the backup domain (R288–R349, R433–R446). -/

namespace Sys2Proof.Machine

/-- Power and reset (R413, R433–R446): the rails that are good, in the order of R433; RESET_N low; the power-on hold; the
block check failed for good (R319); the STB pull latch and level of the VDDIO_B domain (R434, R445). -/
structure Power where
  rails : Vector Bool 12
  resetLow : Bool
  porHeld : Bool
  dead : Bool
  stbLatch : BitVec 16
  vddioB33 : Bool
  hbmTrained : Bool
  deriving DecidableEq, Repr

/-- No rail good, the device held in reset (R434). -/
def Power.reset : Power :=
  { rails := Vector.replicate 12 false, resetLow := false, porHeld := true, dead := false, stbLatch := 0,
    vddioB33 := false, hbmTrained := false }

/-- Who asked for a fuse bit: a command on a slot, the thermometer advance up to a T (R300), or nobody any more: a restart has ended
the request, and only the pulse in progress completes (R286); or the tack room at boot, for the HUK that it holds (R317). -/
inductive FuseUser where
  | command (slot : Slot)
  | thermometer (upTo : Nat)
  | huk (key : BitVec 256)
  | orphan
  deriving DecidableEq, Repr

/-- A fuse bit in programming (R322): the cell pulsed now, whether it is the second pulse of the cell, and whether a cell
has failed. -/
structure Pulse where
  user : FuseUser
  word : Byte
  bit : Fin 32
  cell : Bool
  retry : Bool
  failed : Bool
  deriving DecidableEq, Repr

/-- The fuse array (R312–R322, R331): two cells per bit, the protection shadow of words 0x00–0x1F, and the controller. -/
structure Fuses where
  cell0 : Vector Word 256
  cell1 : Vector Word 256
  shadow : Vector Word 32
  loaded : Bool
  trimOk : Bool
  source : BitVec 2
  vppMv : Option Nat
  pulse : Option Pulse
  deriving DecidableEq, Repr

/-- The words programmed at manufacture on the part that the model stands for: a sealed -F part (R314–R316) with a HUK. -/
def fuseFactory : Vector Word 256 :=
  ((((((Vector.replicate 256 (0 : Word)).set 0x00 0x00000101#32).set 0x02 0xA7C30019#32).set 0x03 0x00000512#32).set 0x17
    0xABE6D8A0#32).set 0x20 0x00000001#32).set 0x3F 0xEC2FA9E8#32

/-- The fuses before the first load: both cells of every bit alike. -/
def Fuses.reset : Fuses :=
  { cell0 := fuseFactory, cell1 := fuseFactory, shadow := Vector.replicate 32 0, loaded := false, trimOk := false,
    source := 0, vppMv := none, pulse := none }

/-- A firmware bank (R324, R325): the image as loaded, and whether a scrub found it damaged (R330). `factory` marks the
image placed at manufacture, with its SVN and version. -/
structure Bank where
  factory : Option (BitVec 32 × BitVec 32)
  image : List Byte
  invalid : Bool
  deriving DecidableEq, Repr

/-- The lockout record of one key (R295): consecutive failures, lockouts since the last success, the remaining time of a
running lockout in seconds as last written, and whether it runs. -/
structure LockRec where
  fails : Nat
  lockouts : Nat
  remaining : Nat
  locked : Bool
  deriving DecidableEq, Repr

def LockRec.clear : LockRec := { fails := 0, lockouts := 0, remaining := 0, locked := false }

/-- An audit entry (R307), its fields in order; LINK is chained over the entries. -/
structure AuditEntry where
  counter : BitVec 64
  rtc : BitVec 64
  session : Word
  opcode : BitVec 16
  status : Byte
  role : Byte
  index : Byte
  slot : Byte
  line : BitVec 48
  param : BitVec 128
  link : BitVec 128
  deriving DecidableEq, Repr

/-- A telemetry-ring entry (R329). -/
structure TelemEntry where
  number : BitVec 64
  tb : BitVec 64
  rtc : BitVec 64
  kind : BitVec 16
  data : List Byte
  link : BitVec 128
  deriving DecidableEq, Repr

/-- An item of MRAM wrapped under a key of the tack room (R290): authenticated, it opens under that key alone. DEDUCED: the bytes of the wrapping are seen
nowhere (log entry 91). -/
structure Wrapped (n : Nat) where
  under : BitVec 256
  value : BitVec n
  deriving DecidableEq, Repr

/-- The value of a wrapped item under a key, if there is one and it is the item's. -/
def Wrapped.opened {n : Nat} (w : Wrapped n) (key : Option (BitVec 256)) : Option (BitVec n) := if key = some w.under then some w.value else none

/-- One of the rotated copies of an item (R323): its sequence number, and whether its check value fails (R330). -/
structure Copy (α : Type) where
  seq : Nat
  item : α
  damaged : Bool
  deriving DecidableEq, Repr

/-- A multi-word item in rotated copies (R323, R324): the next sequence number, and the copies that are held, newest first. -/
structure Rotated (α : Type) where
  next : Nat
  copies : List (Copy α)
  deriving DecidableEq, Repr

def Rotated.empty {α : Type} : Rotated α := { next := 0, copies := [] }

/-- The newest copy that checks. -/
def Rotated.newest {α : Type} (r : Rotated α) : Option α := (r.copies.find? fun c => !c.damaged).map (·.item)

/-- The next of `n` rotated copies is written. -/
def Rotated.write {α : Type} (r : Rotated α) (n : Nat) (x : α) : Rotated α :=
  { next := r.next + 1, copies := ({ seq := r.next, item := x, damaged := false } :: r.copies).take n }

/-- The copy at place `k` of `n` is damaged. -/
def Rotated.damage {α : Type} (r : Rotated α) (n k : Nat) : Rotated α :=
  { r with copies := r.copies.map fun c => if c.seq % n = k then { c with damaged := true } else c }

/-- Every copy is overwritten (R327). -/
def Rotated.erase {α : Type} (r : Rotated α) : Rotated α := { r with copies := [] }

/-- An entry of the role table (R290): the public key and its HMAC under SKEK. -/
structure RoleEntry where
  key : BitVec 776
  mac : BitVec 384
  deriving DecidableEq, Repr

/-- The role table (R290). -/
structure RoleTable where
  ipk : Vector (Option RoleEntry) 4
  opk : Vector (Option RoleEntry) 8
  deriving DecidableEq, Repr

def RoleTable.empty : RoleTable := { ipk := Vector.replicate 4 none, opk := Vector.replicate 8 none }

/-- A word of the lockout journal (R295, R324): the record of one role and index. -/
structure JournalWord where
  role : Fin 4
  index : Fin 8
  lock : LockRec
  deriving DecidableEq, Repr

/-- The non-volatile memory (R323–R330): firmware banks, bank control word, the stored contexts as committed and as written, persistent tables as
their committed copies, the maker's public key, the device keys wrapped under SKEK, role table, SEK wrapped under SSK, audit log and telemetry ring newest
first (`auditNext` counts the audit entries ever written, `auditBad` lists the places of damaged ones), counter shadow, lockout journal, board record. `dirty` lists
the items committed in RAM and not yet written, `recent` the items written within their interval (R328). -/
structure Mram where
  banks : Vector Bank 2
  active : Fin 2
  stored : Vector (Option (Vector Word 12)) 64
  storedCopy : Vector (Option (Vector Word 12)) 64
  codeCopy : Vector (Vector (Option CodeTable) 8) 2
  columnCopy : Vector (Option (Strip (Int × Nat))) 32
  defectCopy : Vector (Option (Strip Bool)) 32
  lutCopy : Vector (Option (Strip Nat)) 16
  qH : Strip Nat
  qL : Strip Nat
  mpk : BitVec 776
  dsk : Option (Wrapped 384)
  dkak : Option (Wrapped 384)
  roles : Rotated RoleTable
  sek : Rotated (Wrapped 256)
  audit : List AuditEntry
  auditNext : Nat
  auditBad : List Nat
  telem : List TelemEntry
  telemNext : BitVec 64
  shadow : Rotated (BitVec 64)
  journal : Rotated JournalWord
  board : Word
  dirty : List NvItem
  recent : List NvItem
  corrected : BitVec 16
  uncorr : BitVec 16
  deriving DecidableEq, Repr

/-- SKEK (R290): the KDF of HUK with its label. -/
@[irreducible] def skekOf (huk : BitVec 256) : BitVec 256 := BitVec.ofNat 256 (natBe (kdf256 (bytesBe 32 huk.toNat) [0x53, 0x4B, 0x45, 0x4B] []))

/-- SSK (R290): the KDF of HUK and BBK. -/
@[irreducible] def sskOf (huk bbk : BitVec 256) : BitVec 256 := BitVec.ofNat 256 (natBe (kdf256 (bytesBe 32 huk.toNat) [] (bytesBe 32 bbk.toNat)))

/-- The HUK in the words 0x20–0x27 of a fuse array (R313): bit i is bit i mod 32 of word 0x20 + i / 32. -/
def hukOf (cells : Vector Word 256) : BitVec 256 :=
  BitVec.ofNat 256 (((List.finRange 8).map fun i => (cells[(finOf 256 (0x20 + i.val))]).toNat * 2 ^ (32 * i.val)).foldl (· + ·) 0)

/-- The MRAM as the part leaves manufacture: bank A holds the factory image and is active, no role is enrolled, nothing is
stored, and the Q of the reference columns is nominal (R53); MPK, DSK and DKAK are the part's own (R290). -/
def Mram.reset : Mram :=
  { banks := #v[{ factory := some (0, 0x00010000#32), image := [], invalid := false },
                { factory := none, image := [], invalid := false }],
    active := 0, stored := Vector.replicate 64 none, storedCopy := Vector.replicate 64 none, codeCopy := Vector.replicate 2 (Vector.replicate 8 none),
    columnCopy := Vector.replicate 32 none, defectCopy := Vector.replicate 32 none, lutCopy := Vector.replicate 16 none,
    qH := [(16, 400)], qL := [(16, 6000)], mpk := Config.mpk, dsk := some { under := skekOf (hukOf fuseFactory), value := Config.dsk },
    dkak := some { under := skekOf (hukOf fuseFactory), value := Config.dkak }, roles := Rotated.empty, sek := Rotated.empty,
    audit := [], auditNext := 0, auditBad := [], telem := [], telemNext := 0, shadow := Rotated.empty, journal := Rotated.empty,
    board := 0x00009884#32, dirty := [], recent := [], corrected := 0, uncorr := 0 }

/-- STATE of TR_STAT (R311). -/
inductive TackState where
  | selftest | operational | error | zeroizing
  deriving DecidableEq, Repr

/-- A live session (R292–R294): role 1 operator, 2 installer, 3 maker; `since` is the period count at which its idle timer last restarted, `held` that the timer
is held while a command of the session is outstanding. -/
structure Session where
  id : Word
  role : BitVec 2
  index : Byte
  nonce : BitVec 384
  since : Nat
  held : Bool
  deriving DecidableEq, Repr

/-- A challenge that is valid (R292), drawn at the period count `since`. -/
structure Challenge where
  nonce : BitVec 384
  role : BitVec 2
  index : Byte
  since : Nat
  deriving DecidableEq, Repr

/-- A lockout record as the tack room holds it (R295), with the period count at which its remaining time was counted. -/
structure LiveLock where
  lock : LockRec
  since : Nat
  deriving DecidableEq, Repr

/-- The tack room (R288–R311): the DRBG, with the model's own count of the entropy inputs drawn, `paused` the pause after a voltage or clock event (R305) and
`waiting` the slots whose commands wait for its end, oldest first, `retest` that a restart runs tests 1–9 again (R302), `periods` the oscillator periods counted with main
power present (R296), `locks` the lockout records by role and index. -/
structure Tack where
  state : TackState
  failTest : BitVec 4
  killed : Bool
  restartHold : Bool
  retest : Bool
  paused : Bool
  pauses : BitVec 16
  authFail : BitVec 16
  sessions : Vector (Option Session) 16
  challenges : Vector (Option Challenge) 16
  drbg : DrbgState
  seeds : Nat
  waiting : List Slot
  periods : Nat
  locks : Vector (Vector LiveLock 8) 4
  deriving DecidableEq, Repr

def Tack.reset : Tack :=
  { state := .selftest, failTest := 0, killed := false, restartHold := false, retest := false, paused := false, pauses := 0,
    authFail := 0, sessions := Vector.replicate 16 none, challenges := Vector.replicate 16 none,
    drbg := DrbgState.zero, seeds := 0, waiting := [], periods := 0,
    locks := Vector.replicate 4 (Vector.replicate 8 { lock := LockRec.clear, since := 0 }) }

/-- Charger states (R342). -/
inductive ChgState where
  | off | suspend | precharge | cc | cv | done | fault
  deriving DecidableEq, Repr

/-- The backup domain and the charger (R332–R349). `rtc` counts 1/32,768 s; `powered` says that VAON has a source;
`switchOpen` that the cell switch and the main path are open (R346). `chgState` to `vbatMv` are the charger: its zone (`zoneKnown` once one was read), its source, the charge current in µA and the latest cell
voltage in mV. `osc` counts the oscillator's periods whatever the RTC is set to, and `chgSince` is its count at the latest entry to PRECHARGE or CC (R342).
`events` are the RTC times of the latest voltage and clock events, newest first (R305). -/
structure Backup where
  powered : Bool
  vaonGood : Bool
  switchOpen : Bool
  rtc : Nat
  adj : BitVec 9
  mono : BitVec 64
  bbk : Option (BitVec 256)
  canary : BitVec 64
  shipArmed : Bool
  retFail : Bool
  rtcValid : Bool
  trusted : Bool
  tampLog : Vector (BitVec 128) 32
  tampNext : Fin 32
  tampPending : Bool
  tampLost : Bool
  events : List Nat
  tbResid : Word
  chgCfg : Word
  chgState : ChgState
  chgZone : BitVec 3
  zoneKnown : Bool
  chgSource : BitVec 2
  cutback : Bool
  chargeQ : Nat
  vbatMv : Nat
  osc : Nat
  chgSince : Nat
  deriving DecidableEq, Repr

/-- The items of R332 at a power-on reset of the backup domain: the canary always wrong (R334). -/
def Backup.por : Backup :=
  { powered := false, vaonGood := false, switchOpen := false, rtc := 0, adj := 0, mono := 0, bbk := none, canary := 0,
    shipArmed := false, retFail := false, rtcValid := false, trusted := false, tampLog := Vector.replicate 32 0,
    tampNext := 0, tampPending := false, tampLost := false, events := [], tbResid := 0, chgCfg := 0x00009884#32, chgState := .off,
    chgZone := 0, zoneKnown := false, chgSource := 0, cutback := false, chargeQ := 0, vbatMv := 0, osc := 0, chgSince := 0 }

end Sys2Proof.Machine
end

