-- ==== Sys2Proof/Machine/Units/HostSide.lean ====
section
/-! DEFINITION. The state of the host port, the mailboxes and the firmware's book-keeping of commands (R252–R287). -/

namespace Sys2Proof.Machine

/-- What a context command does once no lock holds its context (R139, R273): CTX_SET and CTX_LOAD write, CTX_SCHEDULE, CTX_CANCEL, CTX_GET and
CTX_STORE. -/
inductive CtxWork where
  | write (mask : BitVec 16) (values : Vector Word 12)
  | schedule (line : Nat)
  | cancel
  | get (active : Bool)
  | store (k : Fin 64)
  deriving DecidableEq, Repr

/-- What a command that has passed its checks waits for (R267): the event of R97–R103 for MODE_SET, the swap of
CTX_SCHEDULE, the end of a lock for a context command (R139), the capture, the formation, the port, the I²C transfer, the fuse bit, the end of
a pulse for a read (R320), or the end of a pause of the tack room (R305) for a command under its session. -/
inductive Wait where
  | modeSet
  | ctxSchedule (ctx : CtxIx)
  | ctxLocked (ctx : CtxIx) (work : CtxWork)
  | calCapture
  | stringForm
  | portStart (p : PortIx)
  | portStop (p : PortIx)
  | i2c
  | fuse
  | fuseRead (word : Byte)
  | paused (ses : Option Session)
  deriving DecidableEq, Repr

/-- The objects of R269. -/
inductive ObjKind where
  | codeTable (gain : Fin 2) (index : Fin 8) (auSel : Fin 4)
  | stallMap (index : Fin 16)
  | columnTable (index : Fin 32)
  | defectTable (index : Fin 32)
  | lookupTable (index : Fin 16)
  | kernel (k : Fin 16) (pa entry : BitVec 40)
  | strobe (e : EngIx)
  | firmware (bank : Fin 2)
  deriving DecidableEq, Repr

/-- An open transfer (R268): the object, its length and CRC, and the bytes received so far. -/
structure Transfer where
  kind : ObjKind
  total : Nat
  crc : Word
  bytes : List Byte
  deriving DecidableEq, Repr

/-- What the audit entry of an outstanding command will say (R297, R307): the session, role and key index it came under, its opcode
and the digest of its parameters. -/
structure AuditInfo where
  session : Word
  role : Byte
  index : Byte
  opcode : BitVec 16
  param : BitVec 128
  deriving DecidableEq, Repr

/-- The host port (R252–R265): BOOT_STATUS, the SPI registers, the doorbells and the interrupt status, and the bytes of the
mailbox slots and bulk sub-windows by host address (only bytes that are not 0 are listed). `order` lists the slots rung
and not yet accepted, first rung first; `held` the answers that wait for a halted control processor: slot, status, payload, bulk data (R423, R426). `spiOut` holds what the latest SPI read returned, `busRead` what the latest
register read returned. `answers` counts the answers written; `rungTb` is the TB of each slot's latest doorbell. -/
structure HostPort where
  phase : BitVec 4
  bank : Fin 2
  variant : BitVec 2
  suffixI : Bool
  failcode : Byte
  quad : Bool
  crcEn : Bool
  crcErr : BitVec 16
  ignored : BitVec 16
  ring : BitVec 16
  done : BitVec 16
  irqRestart : Bool
  irqReady : Bool
  irqFault : Bool
  irqEn : Word
  bytes : List Host.Cell
  order : List Slot
  held : List (Slot × Byte × List Byte × List Byte)
  waits : Vector (Option Wait) 16
  transfers : Vector (Option Transfer) 16
  audits : Vector (Option AuditInfo) 16
  spiOut : List Byte
  busRead : BitVec 64
  answers : Nat
  rungTb : Vector Nat 16
  deriving DecidableEq, Repr

/-- The registers of R259–R263 at their reset values. -/
def HostPort.reset : HostPort :=
  { phase := 0, bank := 0, variant := 0, suffixI := false, failcode := 0, quad := false, crcEn := false, crcErr := 0,
    ignored := 0, ring := 0, done := 0, irqRestart := false, irqReady := false, irqFault := false,
    irqEn := 0x0007FFFF#32, bytes := [], order := [], held := [], waits := Vector.replicate 16 none,
    transfers := Vector.replicate 16 none, audits := Vector.replicate 16 none, spiOut := [], busRead := 0, answers := 0,
    rungTb := Vector.replicate 16 0 }

end Sys2Proof.Machine
end

