-- ==== Sys2Proof/Machine/Units/Modes.lean ====
section
/-! DEFINITION. The state of the operating modes and their transitions (R91–R110), and of the chores (R26–R29). -/

namespace Sys2Proof.Machine

/-- The operating modes with their codes (R109). -/
inductive Mode where
  | boot | standby | ready | line | field | split | frame | maint
  deriving DecidableEq, Repr

/-- What a pending transition waits for (R96–R101): the end of a timed step; the first tick at or after `start`; the tick of a
lead-context change at `start`; the exit at LT s; the drain that ends at LT `done_`. -/
inductive Phase where
  | timed
  | enter (start : Nat)
  | switch (start : Nat)
  | exit_ (start : Nat)
  | drain (s done_ : Nat)
  deriving DecidableEq, Repr

/-- A pending transition (R97): its target and options, the context it applies, the slot whose command waits with the role
of its session, and the phase. `thenStandby` says that STANDBY follows READY, and `fullyDone` is then the line of the exit, for the answer. -/
structure Pending where
  target : Mode
  ctx : CtxIx
  deep : Bool
  force : Bool
  slot : Option Slot
  role : BitVec 2
  cause : BitVec 3
  since : Nat
  phase : Phase
  thenStandby : Bool
  fullyDone : Option Nat
  deriving DecidableEq, Repr

/-- The mode (R91–R109). `owner` is the slot whose session entered MAINT, and `leaving` says that this session has ended and MAINT is left when it can
be (R95). `stopTicks` says that a transition has
stopped further commits (R96); `nextLead` names the lead context that a completed transition has set and the next LT applies; `reconcile` that
the timebase is to be reconciled with the RTC (R340). -/
structure ModeState where
  mode : Mode
  previous : Mode
  deep : Bool
  cause : BitVec 3
  role : BitVec 2
  pending : Option Pending
  owner : Option Slot
  leaving : Bool
  stopTicks : Bool
  nextLead : Option CtxIx
  reconcile : Bool
  deriving DecidableEq, Repr

/-- MODE_STAT at its reset value (R109). -/
def ModeState.reset : ModeState :=
  { mode := .boot, previous := .boot, deep := false, cause := 0, role := 0, pending := none, owner := none, leaving := false,
    stopTicks := false, nextLead := none, reconcile := false }

/-- An entry of the log buffer (R27, R29): an audit entry or a telemetry entry on its way to MRAM. -/
inductive LogItem where
  | audit (e : AuditEntry)
  | telemetry (tb rtc : BitVec 64) (kind : BitVec 16) (data : List Byte)
  deriving DecidableEq, Repr

/-- The chores (R26–R29): the newest temperature of each yard with its TB and the tick of the latest sample, the scrub
positions of the sixteen hayloft banks and of MRAM with the TB at which the pass in progress began and the latest pass ended, the log buffer, the audit entries
written to MRAM within the last second with their TB (R328), and the checks of the six PLLs. -/
structure Chores where
  temps : Vector Byte 8
  tempTb : Option Nat
  tempTick : Nat
  hayPos : Vector Nat 16
  hayDone : Nat
  mramPos : Nat
  mramDone : Nat
  forcedRefresh : Word
  log : List LogItem
  logDropped : Word
  logTb : Nat
  snapTb : Nat
  auditWrites : List (Nat × Nat)
  bandTb : Vector Nat 6
  correctedHay : Word
  deriving DecidableEq, Repr

def Chores.reset : Chores :=
  { temps := Vector.replicate 8 0, tempTb := none, tempTick := 0, hayPos := Vector.replicate 16 0, hayDone := 0,
    mramPos := 0, mramDone := 0, forcedRefresh := 0, log := [], logDropped := 0, logTb := 0, snapTb := 0, auditWrites := [],
    bandTb := Vector.replicate 6 0, correctedHay := 0 }

/-- A calibration capture (R275): lines asked for, lines written, where, and the TB of the latest line or of acceptance. -/
structure Capture where
  slot : Slot
  lines : Nat
  done_ : Nat
  pa : BitVec 40
  since : Nat
  deriving DecidableEq, Repr

end Sys2Proof.Machine
end

