-- ==== Sys2Proof/Machine/Units/Periph.lean ====
section
/-! DEFINITION. The state of the timers, the strobe engines, the housekeeping converters, the DACs, the two-wire port and the debug
port (R370–R400, R419–R432). -/

namespace Sys2Proof.Machine

/-- A timer (R370–R376, R384). `cap` holds the captures, oldest first; `heard` says that the EV_SEL event has arrived and `capHeard` counts the
arrivals of the CAP_SEL event, until the timer takes them in its next cycle (R372). -/
structure Timer where
  run : Bool
  ctrl : Word
  reload : Word
  cnt : Word
  cmp : Vector Word 2
  route : Word
  cap : List Word
  ovf : Bool
  cartMiss : BitVec 16
  heard : Bool
  capHeard : Nat
  deriving DecidableEq, Repr

def Timer.reset : Timer :=
  { run := false, ctrl := 0, reload := 0xFFFFFFFF#32, cnt := 0, cmp := #v[0xFFFFFFFF#32, 0xFFFFFFFF#32], route := 0,
    cap := [], ovf := false, cartMiss := 0, heard := false, capHeard := 0 }

/-- A strobe engine (R378–R383, R385): `latch` holds the pulse sources latched for IN0–IN5, `out` its output bits, and the
shift registers the bits not yet sent (`txLeft` of them) and the bits received (`rxHave`). -/
structure Engine where
  run : Bool
  ctrl : Word
  sel0 : Word
  sel1 : Word
  state : BitVec 5
  out : Byte
  latch : BitVec 6
  tx : List Word
  rx : List Word
  txShift : Word
  txLeft : Nat
  rxShift : Word
  rxHave : Nat
  irq : Bool
  wrfull : Bool
  overrun : Bool
  underrun : Bool
  lut : List (Nat × BitVec 24)
  deriving DecidableEq, Repr

/-- An engine after reset. Its LUT is held as its non-zero entries by index. -/
def Engine.reset : Engine :=
  { run := false, ctrl := 0, sel0 := 0, sel1 := 0, state := 0, out := 0, latch := 0, tx := [], rx := [], txShift := 0,
    txLeft := 0, rxShift := 0, rxHave := 0, irq := false, wrfull := false, overrun := false, underrun := false,
    lut := [] }

/-- Timers and strobe engines with their shared registers. -/
structure TimStb where
  tmr : Vector Timer 16
  eng : Vector Engine 8
  swf : Byte
  preLate : Bool
  preNs : BitVec 16
  route : Vector Word 16
  deriving DecidableEq, Repr

def TimStb.reset : TimStb :=
  { tmr := Vector.replicate 16 Timer.reset, eng := Vector.replicate 8 Engine.reset, swf := 0, preLate := false,
    preNs := 0, route := Vector.replicate 16 0 }

/-- What a converter does next or now: entry i of the regular sequence (`reg`), of the injected sequence (`inj`), or the
conversion of CHK_CH that accompanies the first entry of a pass of HKA (R388–R391). -/
inductive HkJob where
  | reg (i : Fin 16)
  | inj (i : Fin 4)
  | check
  deriving DecidableEq, Repr

/-- A housekeeping converter (R386–R392, R400). `nextReg` is the regular entry that waits, `nextInj` the injected entry
that waits, `pending` a trigger held; `sampled` lists the conversions whose results are not yet written, oldest first, with
the entry sampled. `injSlot` is the first slot that the injected sequence may take, `heard` counts the arrivals of INJ_EV that it has not yet taken. `deferred` counts the deferrals of R390; `entryTb` is the TB of each regular entry's newest result, `dataTb` that of each channel's. -/
structure Conv where
  ctrl : Word
  injMiss : BitVec 16
  calOk : Bool
  forced : Bool
  isOpen : Bool
  stale : Bool
  injDone : Bool
  injTb : Word
  seq : Vector Word 20
  data : Vector Word 16
  injRes : Vector Word 4
  nextReg : Option (Fin 16)
  passDue : Bool
  nextInj : Option (Fin 4)
  pending : Bool
  deferred : Nat
  sampled : List (HkJob × Word × BitVec 12 × Nat)
  entryTb : Vector Nat 16
  dataTb : Vector Nat 16
  freeSlot : Nat
  injSlot : Nat
  heard : Nat
  passTb : Option Nat
  deriving DecidableEq, Repr

def Conv.reset : Conv :=
  { ctrl := 0x000003E8#32, injMiss := 0, calOk := false, forced := false, isOpen := false, stale := false,
    injDone := false, injTb := 0, seq := Vector.replicate 20 0, data := Vector.replicate 16 0,
    injRes := Vector.replicate 4 0, nextReg := none, passDue := false, nextInj := none, pending := false, deferred := 0, sampled := [],
    entryTb := Vector.replicate 16 0, dataTb := Vector.replicate 16 0, freeSlot := 0, injSlot := 0, heard := 0, passTb := none }

/-- A DAC output (R393–R395): `active` the driver, `hold` the forced 0 V after a range change, since TB `holdTb`, `slew` the slewing. -/
structure Dac where
  active : Bool
  hold : Bool
  slew : Bool
  range : Bool
  code : BitVec 12
  holdTb : Nat
  deriving DecidableEq, Repr

def Dac.reset : Dac := { active := false, hold := false, slew := false, range := false, code := 0, holdTb := 0 }

/-- The converters, the DACs and the two-wire port (R396–R400). `chkSlot` is the slot in which HKA converted CHK_CH, and `checkPair` holds the
code of CHK_CH from HKA, or from HKB, while the other of the two codes is awaited (R391). `addrPins` are ADDR[1:0] as sampled; `pointer` the target's pointer; `i2cSlot` the
I2C_XFER that runs; `i2cIgnored` counts the target's writes ignored before PHASE READY (R439). -/
structure House where
  conv : Vector Conv 2
  chk : Word
  chkSlot : Option Nat
  checkPair : Vector (Option (BitVec 12)) 2
  dac : Vector Dac 4
  i2cCfg : Word
  timeouts : BitVec 16
  arbLost : Byte
  tbusy : Bool
  i2cIgnored : BitVec 16
  i2cSlot : Option (Slot × Byte × Byte × Byte × List Byte)
  addrPins : BitVec 2
  pointer : BitVec 16
  lastRead : List Byte
  lastAck : Bool
  cpIrq : BitVec 10
  deriving DecidableEq, Repr

def House.reset : House :=
  { conv := Vector.replicate 2 Conv.reset, chk := 0x00000010#32, chkSlot := none, checkPair := Vector.replicate 2 none, dac := Vector.replicate 4 Dac.reset,
    i2cCfg := 0x00200000#32, timeouts := 0, arbLost := 0, tbusy := false, i2cIgnored := 0, i2cSlot := none, addrPins := 0, pointer := 0,
    lastRead := [], lastAck := true, cpIrq := 0 }

/-- Why a target of the debug port halted (BAY_WHY and CP_WHY of R432). -/
inductive HaltWhy where
  | none | request | step | breakpoint | watchpoint | restart
  deriving DecidableEq, Repr

/-- The debug port (R419–R432): the TAP's instruction register, the boundary register as captured and, in `preload`, as updated, the DBG_CTRL fields, the result of
the latest access, the breakpoints and watchpoints, the halt causes and the control processor as debug sees it: its
registers in the order of R429 (general registers, PC, status word). `restartHeld` says that the boot ROM's handling of a restart waits
for the resume (R424). -/
structure Debug where
  ir : BitVec 5
  boundary : List Bool
  preload : List Bool
  haltOnRestart : Bool
  baySel : BayIx
  result : BitVec 80
  brk : Vector (BitVec 64) 8
  wptAddr : Vector (BitVec 64) 4
  wptCtrl : Vector Word 4
  bayWhy : HaltWhy
  bayIdx : BitVec 4
  cpWhy : HaltWhy
  cpIdx : BitVec 4
  cpHalted : Bool
  cpRegs : Vector Word 34
  cpSteps : Nat
  restartHeld : Bool
  unlocked : Option Slot
  deriving DecidableEq, Repr

/-- The TAP in Test-Logic-Reset selects IDCODE (R419). -/
def Debug.reset : Debug :=
  { ir := 0x02#5, boundary := [], preload := [], haltOnRestart := false, baySel := 0, result := 0, brk := Vector.replicate 8 0,
    wptAddr := Vector.replicate 4 0, wptCtrl := Vector.replicate 4 0, bayWhy := .none, bayIdx := 0, cpWhy := .none,
    cpIdx := 0, cpHalted := false, cpRegs := Vector.replicate 34 0, cpSteps := 0, restartHeld := false, unlocked := none }

end Sys2Proof.Machine
end

