-- ==== Sys2Proof/Machine/Units/Ports.lean ====
section
/-! DEFINITION. The state of the output ports, their streams and their seals (R221–R251). -/

namespace Sys2Proof.Machine

/-- A Sollys packet (R226): the header as one 128-bit word, the payload, and the TB at which it was composed. Its trailer is computed from
them. -/
structure Packet where
  header : BitVec 128
  payload : List Byte
  composedTb : Nat
  deriving DecidableEq, Repr

/-- STATE of PORT_STAT (R251). -/
inductive PortState where
  | stopped | starting | running | stopping
  deriving DecidableEq, Repr

/-- A seal session (R245–R248): its number, K, whether SEAL_OPEN has been composed, the chain H, the block in progress with its packets in
order and the TB of its first, and the number of the next block. -/
structure SealSession where
  session : Word
  key : BitVec 256
  opened : Bool
  chain : BitVec 384
  block : List Packet
  blockTb : Nat
  number : Nat
  deriving DecidableEq, Repr

/-- A scrambled block on its way to a lane (R224): the sync header and the payload. -/
abbrev Block := BitVec 66

/-- A port (R221–R248, R251). `composed` holds the packets composed and not yet sealed, `sealedOut` those the seal engine has passed and the coder not yet
taken, `fifo` the lane FIFO: each packet with its unscrambled blocks not yet sent; `lanes` what each lane sent in the latest slot. `scrambler` is the 58-bit
state, `nextLane` the lane of the next block, `dealt` the blocks dealt to the lanes since their latest markers (R225), `bip` the BIP-8 of each
lane. `startAsked` and `stopAsked` hold a request
that waits for the sequence in progress (R244). `quietTb` is the TB at which it last composed a packet. `sealGone` says that
the last session has ended and the next has not opened, `sigDue` that a SEAL_SIG waits for the end of a pause (R309), and `lastSession` is the
port's previous SESSION. `lit` says that the lanes are out of electrical idle, and `lfsr` holds the dither register of the port's PLL as its latest start loaded
it (R364; log entry 110). -/
structure Port where
  cfg : Word
  sealCfg : Word
  state : PortState
  startAsked : Bool
  stopAsked : Bool
  session : Option SealSession
  sealGone : Bool
  sigDue : Bool
  lastSession : Word
  seq : BitVec 16
  composed : List Packet
  sealedOut : List Packet
  fifo : List (Packet × List Block)
  lanes : Vector (List Block) 8
  scrambler : BitVec 58
  nextLane : Fin 8
  dealt : Nat
  bip : Vector Byte 8
  quietTb : Nat
  sentTb : Nat
  tbChange : Int
  timeDue : Bool
  resetDue : Bool
  lit : Bool
  lfsr : BitVec 16
  deriving DecidableEq, Repr

def Port.reset : Port :=
  { cfg := 0, sealCfg := 0x80000040#32, state := .stopped, startAsked := false, stopAsked := false, session := none,
    sealGone := false, sigDue := false, lastSession := 0, seq := 0, composed := [], sealedOut := [], fifo := [], lanes := Vector.replicate 8 [],
    scrambler := BitVec.allOnes 58, nextLane := 0, dealt := 0, bip := Vector.replicate 8 0, quietTb := 0, sentTb := 0, tbChange := 0,
    timeDue := false, resetDue := false, lit := false, lfsr := 0 }

/-- A data stream (R238–R240, R251). `due` lists the DISCONT packets due before its next data, as reason, count and first line;
`truncated` counts the lines not sent since a truncation began, with the first of them (R156); `carriedTb` is the exit LT of the
last line carried (R150); `notProduced` counts lines whose field was not carried (R232); `exitDue` is the MODE_EXIT that ends the stream in the next
COMPOSE slot, as count and first line (R101). -/
structure DataStream where
  cfg : Word
  seq : BitVec 16
  due : List (Byte × Nat × Nat × Nat)
  truncated : Option (Nat × Nat)
  carriedTb : Option Nat
  notProduced : Option (Nat × Nat)
  exitDue : Option (Nat × Nat)
  deriving DecidableEq, Repr

def DataStream.reset : DataStream :=
  { cfg := 0, seq := 0, due := [], truncated := none, carriedTb := none, notProduced := none, exitDue := none }

/-- The port side: four ports, sixteen streams and the lane settings (R251). -/
structure Ports where
  port : Vector Port 4
  stream : Vector DataStream 16
  lane : Vector Word 32
  deriving DecidableEq, Repr

def Ports.reset : Ports :=
  { port := Vector.replicate 4 Port.reset, stream := Vector.replicate 16 DataStream.reset,
    lane := Vector.replicate 32 0x00000128#32 }

end Sys2Proof.Machine
end

