-- ==== Sys2Proof/Machine/Units/Ticks.lean ====
section
/-! DEFINITION. The state of the tick sources, the encoders and the sync link (R111–R134). -/

namespace Sys2Proof.Machine

/-- An encoder channel (R114–R117): the levels of A and B as last sampled, the time of their latest change, the extended position and the registers
of R134. -/
structure Encoder where
  cfg : Word
  a : Bool
  b : Bool
  changed : Nat
  ext : BitVec 64
  zcap : Word
  illegal : BitVec 16
  deriving DecidableEq, Repr

def Encoder.reset : Encoder := { cfg := 0x00000004#32, a := false, b := false, changed := 0, ext := 0, zcap := 0, illegal := 0 }

/-- A counted edge: the position after it, its TB and its direction (true is rising). -/
structure Edge where
  pos : Int
  t : Nat
  up : Bool
  deriving DecidableEq, Repr

/-- A requested tick (R118–R122): the instant asked for, its direction, and for an encoder the boundary it stands for, in 1/65,536
count. -/
structure TickReq where
  inst : Nat
  dir : Bool
  boundary : Option Int
  deriving DecidableEq, Repr

/-- A tick that is to fire (R120, R123, R127): its instant, the instant it was requested for, its direction, what a TICK message
gave a follower (the line and the sequence position), whether a request was dropped since the previous one was accepted (R124), and whether
its PRE_LT has fired (R379). -/
structure DueTick where
  inst : Nat
  req : Nat
  dir : Bool
  line : Option Nat
  pos : Option (Fin 16)
  slip : Bool
  pre : Bool := false
  deriving DecidableEq, Repr

/-- Tick source and overspeed policy (R111, R118–R124, R134). `p0` is P₀ in 1/65,536 count and `last` the boundary and direction of
the last tick committed since the source was selected, `asked` those of the latest request, dropped or not; `motion` the accepted direction of motion, `extreme` the position farthest in it;
`edges` the newest edges, newest first. `since` is the TB of the source's selection. `slip` says that a
request was dropped since the last accepted one. `allowed` is the TB at which ticks became allowed (R122, R358), and `perLast` the instant of the
latest tick that the internal period asked for since then or since its selection. -/
structure TickSource where
  cfg : Word
  ratio : Word
  per : Word
  pred : Word
  stopped : Bool
  p0 : Int
  last : Option (Int × Bool)
  asked : Option (Int × Bool)
  motion : Option Bool
  extreme : Int
  edges : List Edge
  since : Nat
  request : Option TickReq
  due : List DueTick
  delayNs : BitVec 16
  drops : Word
  slip : Bool
  allowed : Option Nat
  perLast : Option Nat
  deriving DecidableEq, Repr

def TickSource.reset : TickSource :=
  { cfg := 0x00000400#32, ratio := 0x00010000#32, per := 0x000004E2#32, pred := 0x00100404#32, stopped := false, p0 := 0,
    last := none, asked := none, motion := none, extreme := 0, edges := [], since := 0, request := none, due := [], delayNs := 0,
    drops := 0, slip := false, allowed := none, perLast := none }

/-- STATE of SYNC_STAT (R134). -/
inductive SyncState where
  | down | trained | enumerated | aligned | locked | lost
  deriving DecidableEq, Repr

/-- A string-wide switch under way (R130): the line, context, mode code and tag, the answers received by position, and
on the leader the slot whose command waits. -/
structure StringSwitch where
  line : Nat
  ctx : CtxIx
  mode : BitVec 4
  tag : Byte
  answers : List (Nat × Byte)
  slot : Option Slot
  deriving DecidableEq, Repr

/-- The sync link (R125–R133): the registers of R134, symbol lock above and below, the exchanges gathered for the filter, the string as the leader knows
it, whether a child's timebase is aligned (R128, R129) and whether a lost follower regains its alignment (R132),
the line of the last TICK, the rejoin that is due (line, lead context, mode code, position), and on a leader the positions that rejoin with their J
(`joins`). `sentUp` and `sentDown` hold the messages that the latest
step sent. Stamps are in 1/128 ns. -/
structure SyncLink where
  cfg : Word
  geo : Word
  pos : BitVec 5
  state : SyncState
  offset : BitVec 16
  delay : BitVec 24
  badMsg : BitVec 16
  losses : BitVec 16
  t1 : Option Nat
  thetas : List Int
  delays : List Int
  aligned : Bool
  rejoining : Bool
  upLock : Bool
  downLock : Bool
  lastLine : Option Nat
  devices : Nat
  maxLp : Nat
  hops : List Nat
  alignedPos : List Nat
  lostPos : List Nat
  joins : List (Nat × Nat)
  tag : Byte
  switch : Option StringSwitch
  joinAt : Option (Nat × CtxIx × BitVec 4 × Fin 16)
  forming : Bool
  sentUp : List (List Byte)
  sentDown : List (List Byte)
  deriving DecidableEq, Repr

def SyncLink.reset : SyncLink :=
  { cfg := 0x05DC0000#32, geo := 0, pos := 0, state := .down, offset := 0, delay := 0, badMsg := 0, losses := 0, t1 := none,
    thetas := [], delays := [], aligned := false, rejoining := false, upLock := false, downLock := false, lastLine := none, devices := 1,
    maxLp := 0, hops := [], alignedPos := [], lostPos := [], joins := [], tag := 0, switch := none, joinAt := none, forming := false,
    sentUp := [], sentDown := [] }

end Sys2Proof.Machine
end

