-- ==== Sys2Proof/Machine/State.lean ====
section
/-! DEFINITION. The state of the RKZ-1625, its faults and refusals, and the state after power-on reset. -/

namespace Sys2Proof.Machine

/-- The faults a step can stop with: none. Every command of the block completes. -/
inductive Fault
  deriving DecidableEq, Repr

/-- The refusals a step can stop with. -/
inductive Refusal where
  /-- The command of that mnemonic has no meaning in the model. Safe: the model stops. -/
  | notModelled (mnemonic : String)
  deriving DecidableEq, Repr

/-- The whole machine: the queue of waiting commands, then the units. `tb` is the timebase counter, `tbRun` says that it
advances (R112), and `timeSource` is TIME_SOURCE while PLL-A is locked (R339). -/
structure State where
  pending : List Instr
  tb : Nat
  tbRun : Bool
  timeSource : BitVec 3
  sensor : Sensor
  groom : Groom
  ctx : Vector Ctx 16
  tick : TickSource
  enc : Vector Encoder 2
  sync : SyncLink
  mode : ModeState
  chore : Chores
  cap : Option Capture
  port : Ports
  det : Detect
  mem : Memory
  host : HostPort
  tack : Tack
  fuse : Fuses
  nvm : Mram
  bkp : Backup
  pwr : Power
  clk : Clocks
  ts : TimStb
  hk : House
  flt : Faults
  wdt : Watchdog
  dbg : Debug
  deriving DecidableEq, Repr

/-- The machine with no rail good: the state from which LAST_RAIL_GOOD, POR_RELEASE and the boot rows start it (R434, R437). -/
def State.reset : State :=
  { pending := [], tb := 0, tbRun := false, timeSource := 1, sensor := Sensor.reset, groom := Groom.reset,
    ctx := Vector.replicate 16 Ctx.reset, tick := TickSource.reset, enc := Vector.replicate 2 Encoder.reset,
    sync := SyncLink.reset, mode := ModeState.reset, chore := Chores.reset, cap := none, port := Ports.reset,
    det := Detect.reset, mem := Memory.reset, host := HostPort.reset, tack := Tack.reset, fuse := Fuses.reset,
    nvm := Mram.reset, bkp := Backup.por, pwr := Power.reset, clk := Clocks.reset, ts := TimStb.reset, hk := House.reset,
    flt := Faults.reset, wdt := Watchdog.reset, dbg := Debug.reset }

end Sys2Proof.Machine
end

