-- ==== Sys2Proof/Machine/Ops.lean ====
section
/-! DEFINITION. Operations that many commands share: time, the fault summary, the logs, the random source, the mailboxes and the mode. -/

namespace Sys2Proof.Machine

/-- The numbers of the fault classes (R401). -/
inductive FltClass where
  | wdt | lockstep | clkA | clkB | clkOther | thermWarn | thermCrit | config | context | encoder | sync | string | job
  | ecc | mram | fuse | security | tamper | hkPlaus | openWire | chore
  deriving DecidableEq, Repr

/-- The bit of a class. -/
def FltClass.bit : FltClass → Fin 21
  | .wdt => 0 | .lockstep => 1 | .clkA => 2 | .clkB => 3 | .clkOther => 4 | .thermWarn => 5 | .thermCrit => 6
  | .config => 7 | .context => 8 | .encoder => 9 | .sync => 10 | .string => 11 | .job => 12 | .ecc => 13 | .mram => 14
  | .fuse => 15 | .security => 16 | .tamper => 17 | .hkPlaus => 18 | .openWire => 19 | .chore => 20

/-- The level classes (R401). -/
def FltClass.isLevel : FltClass → Bool
  | .thermWarn | .thermCrit | .chore => true
  | _ => false

/-- The mask of the level classes. -/
def levelMask : Word := 0x00100060#32

/-- A timed event at TB `t`: the timebase stands at `t`, and never goes back (R112). While it does not run it stays; while PLL-A is out of lock
it takes steps of 10 from its value at the loss, and stands at the last one not after `t`. -/
def State.atTb (s : State) (t : Nat) : State :=
  if !s.tbRun then s
  else if vget s.clk.lock 0 then { s with tb := Nat.max s.tb t }
  else { s with tb := s.tb + (t - s.tb) / 10 * 10 }

/-- The hub is powered and out of reset on a device that is not dead (R91, R260, R319): PHASE is not 0. -/
def State.hubUp (s : State) : Bool := s.host.phase ≠ 0

/-- Main power is present: every rail is good (R434). -/
def State.mainPower (s : State) : Bool := s.pwr.rails.toList.all id

/-- An event at RTC value `r` (R332); the tack room counts the periods that go by while main power is present (R295, R296). -/
def State.atRtc (s : State) (r : Nat) : State :=
  { s with bkp := { s.bkp with rtc := Nat.max s.bkp.rtc r, osc := s.bkp.osc + (r - s.bkp.rtc) },
           tack := { s.tack with periods := s.tack.periods + if s.mainPower then r - s.bkp.rtc else 0 } }

/-- The RTC as TIME packets carry it (R237). -/
def State.rtcWord (s : State) : BitVec 64 := BitVec.ofNat 64 (s.bkp.rtc % 2 ^ 63)

/-- LINE of LINE_CNT (R20). -/
def State.lineCnt (s : State) : BitVec 48 := BitVec.ofNat 48 s.sensor.lineNow

/-- The device is an -S, as its sealed protection block says (R14, R314, R316). -/
def State.isSmall (s : State) : Bool :=
  vget s.fuse.shadow 0x17 ≠ 0 && field (vget s.fuse.shadow 0) 9 8 = 2

/-- Output `o` of PLL-A clocks what it feeds: PLL-A is locked and not stopped, and EN is 1 (R92, R353, R356, R376). -/
def State.pllaOut (s : State) (o : Fin 6) : Bool := vget s.clk.lock 0 && s.tbRun && bit (vget s.clk.pllaOut o) 16

/-- The string position that packets are stamped with (R133): 0 on a standalone device. -/
def State.stringPos (s : State) : BitVec 5 := if field s.sync.cfg 15 14 = 0 then 0 else s.sync.pos

/-- The minimum line period (R15). -/
def State.minLp (s : State) : Nat := if s.isSmall then 2500 else 1250

/-- A bay, a port or a shed that the variant has (R14). -/
def State.hasBay (s : State) (b : BayIx) : Bool := !s.isSmall || b.val < 64
def State.hasPort (s : State) (p : PortIx) : Bool := !s.isSmall || p.val < 2

/-- The code of a mode (R109). -/
def Mode.code : Mode → BitVec 4
  | .boot => 0 | .standby => 1 | .ready => 2 | .line => 3 | .field => 4 | .split => 5 | .frame => 6 | .maint => 7

/-- The mode of a code. -/
def modeOf (c : Nat) : Option Mode :=
  if c = 0 then some .boot else if c = 1 then some .standby else if c = 2 then some .ready else if c = 3 then some .line
  else if c = 4 then some .field else if c = 5 then some .split else if c = 6 then some .frame
  else if c = 7 then some .maint else none

/-- A streaming mode: LINE, FIELD, SPLIT or FRAME. -/
def Mode.streaming : Mode → Bool
  | .line | .field | .split | .frame => true
  | _ => false

/-- A 0-to-1 change of a class bit interrupts the control processor whatever FLT_IRQ holds, and sets FAULT of IRQ_STATUS where FLT_IRQ enables
the class (R403). -/
def State.noteRise (s : State) (k : FltClass) : State :=
  { s with flt := { s.flt with cpIrq := true },
           host := if bit s.flt.irqEn k.bit.val then { s.host with irqFault := true } else s.host }

/-- The count of a class (R401, R402). -/
def Faults.count (f : Faults) (k : FltClass) : Faults := { f with cnt := vmod f.cnt k.bit satInc }

/-- A report of an edge class in the fault summary alone: the bit, the counter and IRQ_STATUS.FAULT (R401–R403). -/
def State.report (s : State) (k : FltClass) : State :=
  let rise := !bit s.flt.cls k.bit.val
  let s := { s with flt := { (s.flt.count k) with cls := setBit s.flt.cls k.bit.val true } }
  if rise then s.noteRise k else s

/-- A level class follows its condition (R402). -/
def State.level (s : State) (k : FltClass) (on : Bool) : State :=
  let was := bit s.flt.cls k.bit.val
  if on && !was then
    State.noteRise { s with flt := { (s.flt.count k) with cls := setBit s.flt.cls k.bit.val true } } k
  else { s with flt := { s.flt with cls := setBit s.flt.cls k.bit.val on } }

/-- A chore's stale bit, with class CHORE (R26, R401). -/
def State.setStale (s : State) (n : Nat) (b : Bool) : State :=
  let stale := setBit s.flt.stale n b
  State.level { s with flt := { s.flt with stale := stale } } .chore (stale ≠ 0)

/-- A write to a locked register is ignored and counted (R404). -/
def State.lockedWrite (s : State) : State := { s with flt := { s.flt with regLock := satInc s.flt.regLock } }

/-- The RC and W1C helpers of counters: IGNORED of SPI_ERR (R262). -/
def State.ignoredWrite (s : State) : State := { s with host := { s.host with ignored := satInc s.host.ignored } }

/-- The entropy source's next output (R289). -/
def State.entropy (s : State) : List Byte := bytesBe 48 (Config.entropy s.tack.seeds).toNat

/-- The DRBG is instantiated (R289, R301, R303). -/
def State.seedDrbg (s : State) : State := { s with tack := { s.tack with drbg := drbgInstantiate s.entropy, seeds := s.tack.seeds + 1 } }

/-- The DRBG is reseeded after every 2²⁰ requests (R289). -/
def State.reseedDue (s : State) : State :=
  if s.tack.drbg.requests < 2 ^ 20 then s
  else { s with tack := { s.tack with drbg := s.tack.drbg.reseed s.entropy, seeds := s.tack.seeds + 1 } }

/-- A request to the DRBG for `n` bits (R289). -/
def State.draw (s : State) (n : Nat) : BitVec n × State :=
  let s := s.reseedDue
  let (out, d) := s.tack.drbg.generate ((n + 7) / 8)
  (BitVec.ofNat n (natBe out), { s with tack := { s.tack with drbg := d } })

/-- The monotonic counter counts; its shadow is written, to the next rotated word, each time it passes a multiple of 2¹⁶ (R307, R326). -/
def State.monoInc (s : State) : State :=
  let m := s.bkp.mono + 1
  { s with bkp := { s.bkp with mono := m },
           nvm := if m.toNat % 65536 = 0 then { s.nvm with shadow := s.nvm.shadow.write 256 m } else s.nvm }

/-- The bytes of an audit entry up to LINK (R307). -/
def AuditEntry.head (e : AuditEntry) : List Byte :=
  bytesLe 8 e.counter.toNat ++ bytesLe 8 e.rtc.toNat ++ bytesLe 4 e.session.toNat ++ bytesLe 2 e.opcode.toNat
    ++ [e.status, e.role, e.index, e.slot] ++ bytesLe 6 e.line.toNat ++ bytesLe 16 e.param.toNat

/-- The 64 bytes of an audit entry. -/
def AuditEntry.bytes (e : AuditEntry) : List Byte := e.head ++ bytesLe 16 e.link.toNat

/-- The first 16 bytes of a SHA-384 digest, little-endian as the entry holds them. -/
def digest16 (bs : List Byte) : BitVec 128 := BitVec.ofNat 128 (natLe ((sha384 bs).take 16))

/-- The newest audit entry, in the log buffer or in MRAM. -/
def State.lastAudit (s : State) : Option AuditEntry :=
  match (s.chore.log.filterMap fun i => match i with
    | .audit e => some e
    | .telemetry .. => none).getLast? with
  | some e => some e
  | none => s.nvm.audit.head?

/-- The log buffer has no room (R29): 64 entries. -/
def State.logFull (s : State) : Bool := 64 ≤ s.chore.log.length

/-- Trusted time is not UNSET, as bit 2 of an entry's ROLE (R307). -/
def State.trustBit (s : State) : Byte := if s.bkp.trusted then 4 else 0

/-- The log buffer is full: the log flush is stale (R26, R27). -/
def State.noteLog (s : State) : State := if s.logFull then s.setStale 5 true else s

/-- An audit entry: the counter counts, the entry joins the log buffer (R307). -/
def State.audit (s : State) (session : Word) (role index slot : Byte) (opcode : BitVec 16) (status : Byte)
    (param : BitVec 128) : State :=
  let prev := match s.lastAudit with
    | some e => e.bytes
    | none => List.replicate 64 0
  let s := s.monoInc
  let e : AuditEntry :=
    { counter := s.bkp.mono, rtc := s.rtcWord, session := session, opcode := opcode, status := status,
      role := role ||| s.trustBit, index := index, slot := slot, line := s.lineCnt, param := param, link := 0 }
  let e := { e with link := digest16 (prev ++ e.head) }
  State.noteLog { s with chore := { s.chore with log := s.chore.log ++ [.audit e] } }

/-- A device event in the audit log (R308). -/
def State.auditEvent (s : State) (opcode : BitVec 16) (status : Byte) : State := s.audit 0 0 0 0xFF opcode status 0

/-- A telemetry entry joins the log buffer, or is dropped and counted when the buffer is full (R29, R329). -/
def State.telemetry (s : State) (kind : BitVec 16) (data : List Byte) : State :=
  if s.logFull then { s with chore := { s.chore with logDropped := satInc s.chore.logDropped } }
  else
    State.noteLog { s with chore := { s.chore with log := s.chore.log ++
        [.telemetry (BitVec.ofNat 64 s.tb) s.rtcWord kind (data ++ List.replicate (22 - data.length) 0)] } }

/-- A telemetry ECC event (R211, R330): memory, uncorrectable, address. -/
def State.eccEvent (s : State) (memory : Byte) (uncorr : Bool) (addr : Nat) : State :=
  s.telemetry 2 ([memory, if uncorr then 1 else 0] ++ bytesLe 5 addr)

/-- A byte of the host window's slots and sub-windows (R252). -/
def hostGet (bytes : List Host.Cell) (a : Nat) : Byte :=
  match bytes.find? fun c => c.1 = a with
  | some c => c.2
  | none => 0

/-- A byte written there: bytes that are 0 are not listed, and the list rises strictly. -/
def hostPut : List Host.Cell → Nat → Byte → List Host.Cell
  | [], a, b => if b = 0 then [] else [(a, b)]
  | c :: cs, a, b =>
    if c.1 < a then c :: hostPut cs a b
    else if c.1 = a then (if b = 0 then cs else (a, b) :: cs)
    else (if b = 0 then c :: cs else (a, b) :: c :: cs)

/-- Bytes written from an address on. -/
def hostPuts (bytes : List Host.Cell) (a : Nat) : List Byte → List Host.Cell
  | [] => bytes
  | b :: bs => hostPuts (hostPut bytes a b) (a + 1) bs

/-- `n` bytes from an address on. -/
def hostGets (bytes : List Host.Cell) (a n : Nat) : List Byte := (List.range n).map fun i => hostGet bytes (a + i)

/-- The host addresses of a slot and of its sub-window (R252). -/
def slotAddr (s : Slot) : Nat := 0x010000 + 0x100 * s.val
def bulkAddr (s : Slot) : Nat := 0x020000 + 0x1000 * s.val

/-- ELAPSED_US of an answer written at TB `tb` (R265): the µs that the timebase shows since the doorbell and those that no command's time shows (log
entry 7), saturating. -/
def HostPort.elapsed (h : HostPort) (slot : Slot) (tb : Nat) : Nat :=
  Nat.min 0xFFFFFFFF ((tb - vget h.rungTb slot) / 1000 + Config.elapsedUs slot.val h.answers)

/-- An answer on a slot at TB `tb` (R264, R265): STATUS, LEN and the payload, BULK_LEN and the bulk data; RING clears and DONE sets. -/
def HostPort.answer (h : HostPort) (slot : Slot) (status : Byte) (payload bulk : List Byte) (tb : Nat) : HostPort :=
  let a := slotAddr slot
  let el := h.elapsed slot tb
  let b := hostPuts h.bytes (a + 0x04) (bytesBe 2 payload.length)
  let b := hostPuts b (a + 0x0C) ([status, 0, 0, 0] ++ bytesBe 2 bulk.length ++ [0, 0] ++ bytesBe 4 el ++ List.replicate 8 0)
  let b := hostPuts b (a + 0x20) payload
  let b := hostPuts b (bulkAddr slot) bulk
  { h with bytes := b, ring := setBit h.ring slot.val false, done := setBit h.done slot.val true,
           order := h.order.filter (· ≠ slot), waits := vset h.waits slot none,
           audits := vset h.audits slot none, answers := h.answers + 1 }

/-- The status codes (R270). -/
def stOk : Byte := 0x00
def stBusyBoot : Byte := 0x01
def stBadOpcode : Byte := 0x02
def stBadParam : Byte := 0x03
def stDeniedRole : Byte := 0x04
def stWrongMode : Byte := 0x05
def stNoResource : Byte := 0x06
def stTimeout : Byte := 0x07
def stHwFault : Byte := 0x08
def stIntegrity : Byte := 0x09
def stAborted : Byte := 0x0A
def stSessionExpired : Byte := 0x0B
def stBusyMaint : Byte := 0x0C

/-- The audit entry of the command on a slot, where it is an audited one (R297, R307). -/
def State.auditSlot (s : State) (slot : Slot) (status : Byte) : State :=
  match vget s.host.audits slot with
  | some i => s.audit i.session i.role i.index (BitVec.ofNat 8 slot.val) i.opcode status i.param
  | none => s

/-- The idle timer of the slot's session runs again after the command of its that was outstanding (R294). -/
def State.releaseIdle (s : State) (slot : Slot) : State :=
  { s with tack := { s.tack with sessions := vmod s.tack.sessions slot fun x => x.map fun y =>
      if y.held then { y with since := s.tack.periods, held := false } else y } }

/-- An answer is written, with its audit entry. -/
def State.writeAnswer (s : State) (slot : Slot) (status : Byte) (payload bulk : List Byte) : State :=
  let s := (s.auditSlot slot status).releaseIdle slot
  { s with host := s.host.answer slot status payload bulk s.tb }

/-- An answer held back: nothing waits for the command any more, and its audit entry is written. -/
def HostPort.hold (h : HostPort) (slot : Slot) (status : Byte) (payload bulk : List Byte) : HostPort :=
  { h with held := h.held ++ [(slot, status, payload, bulk)], waits := vset h.waits slot none, audits := vset h.audits slot none }

/-- The firmware answers: a halted control processor answers after it resumes (R423, R426); the audit entry is that of the commit point (R297). -/
def State.answerBulk (s : State) (slot : Slot) (status : Byte) (payload bulk : List Byte) : State :=
  if s.dbg.cpHalted then
    let s := s.auditSlot slot status
    { s with host := s.host.hold slot status payload bulk }
  else s.writeAnswer slot status payload bulk

/-- An answer without bulk data. -/
def State.answer (s : State) (slot : Slot) (status : Byte) (payload : List Byte) : State := s.answerBulk slot status payload []

/-- An answer on the slot that waits, if one does. -/
def State.answerTo (s : State) (slot : Option Slot) (status : Byte) (payload : List Byte) : State :=
  match slot with
  | some k => s.answer k status payload
  | none => s

/-- The slots that wait for something `p` says. -/
def State.waiting (s : State) (p : Wait → Bool) : List Slot :=
  (List.finRange 16).filter fun k => match vget s.host.waits k with
    | some w => p w
    | none => false

/-- The array is biased, PLL-A has been locked for 10 µs and the mode lets ticks fire, in MAINT for a calibration capture alone (R91, R122, R358). -/
def State.ticksMayFire (s : State) : Bool :=
  s.sensor.biased && vget s.clk.lock 0 && s.clk.ticksAllowed && s.tbRun
    && (s.mode.mode = .ready || s.mode.mode.streaming || (s.mode.mode = .maint && s.cap.isSome))

end Sys2Proof.Machine
end

