-- ==== Sys2Proof/Machine/MemOps.lean ====
section
/-! DEFINITION. The physical map (R203, R204), the bytes and the poison of memory (R205, R211), address translation (R206–R209) and the
checks of an access (R208). -/

namespace Sys2Proof.Machine

/-- The end of HBM (R203). -/
def hbmEnd : Nat := 0x400000000

/-- What a byte reads as that memory does not list: HBM holds what it held at power-up, every other RAM 0 (R205). -/
def Memory.unlisted (a : Nat) : Byte := if a < hbmEnd then Config.hbmInitial a else 0

/-- Whether memory lists a byte with this value at this address: every byte written in HBM, elsewhere every byte that is not 0. -/
def Memory.lists (a : Nat) (b : Byte) : Bool := a < hbmEnd || b ≠ 0

/-- The cells with one byte written. -/
def cellsPut : List Host.Cell → Nat → Byte → List Host.Cell
  | [], a, b => if Memory.lists a b then [(a, b)] else []
  | c :: cs, a, b =>
    if c.1 < a then c :: cellsPut cs a b
    else if c.1 = a then (if Memory.lists a b then (a, b) :: cs else cs)
    else (if Memory.lists a b then (a, b) :: c :: cs else c :: cs)

/-- The byte at a physical address. -/
def Memory.get (m : Memory) (a : Nat) : Byte :=
  match m.cells.find? fun c => c.1 = a with
  | some c => c.2
  | none => Memory.unlisted a

/-- One byte written. -/
def Memory.put (m : Memory) (a : Nat) (b : Byte) : Memory := { m with cells := cellsPut m.cells a b }

/-- Bytes written at their addresses, in order. -/
def Memory.puts (m : Memory) : List Host.Cell → Memory
  | [] => m
  | c :: cs => Memory.puts (m.put c.1 c.2) cs

/-- `n` bytes from an address on. -/
def Memory.gets (m : Memory) (a n : Nat) : List Byte := (List.range n).map fun i => m.get (a + i)

/-- The little-endian number in `n` bytes (R8). -/
def Memory.num (m : Memory) (a n : Nat) : Nat := natLe (m.gets a n)

/-- The words of a list of word addresses with `w` added, strictly rising. -/
def wordsAdd : List Nat → Nat → List Nat
  | [], w => [w]
  | x :: xs, w => if x < w then x :: wordsAdd xs w else if x = w then x :: xs else w :: x :: xs

/-- A 64-bit word reads as poison: it is marked, or it lies in HBM, was never written and its initial content is poison (R205, R211). -/
def Memory.poisoned (m : Memory) (w : Nat) : Bool :=
  m.poison.contains w || (w < hbmEnd / 8 && !(m.cells.any fun c => c.1 / 8 = w) && Config.hbmInitPoison w)

/-- A 64-bit word whose ECC corrects an error when it is read (R211): it lies in HBM, was never written and holds one from the start. DESIGN CHOICE:
no command brings an error into a word later, but what HAYLOFT_SCRUB and MRAM_SCRUB report they find (log entry 86). -/
def Memory.weak (m : Memory) (w : Nat) : Bool :=
  w < hbmEnd / 8 && !m.poisoned w && !(m.cells.any fun c => c.1 / 8 = w) && Config.hbmInitWeak w

/-- The words marked as poisoned (R211). -/
def Memory.mark (m : Memory) (ws : List Nat) : Memory := { m with poison := ws.foldl wordsAdd m.poison }

/-- The marks of words cleared. -/
def Memory.unmark (m : Memory) (ws : List Nat) : Memory := { m with poison := m.poison.filter fun w => !ws.contains w }

/-- The words that a list of bytes touches, each once, in order of first touch. -/
def wordsOf (cs : List Host.Cell) : List Nat := (cs.map fun c => c.1 / 8).reverse.dedup.reverse

/-- A list of bytes covers every byte of a word. -/
def covers (cs : List Host.Cell) (w : Nat) : Bool := (List.range 8).all fun i => cs.any fun c => c.1 = 8 * w + i

/-- The first poisoned word that a store of these bytes would need other bytes of (R211). -/
def Memory.storeBlocked (m : Memory) (cs : List Host.Cell) : Option Nat :=
  (wordsOf cs).find? fun w => !covers cs w && m.poisoned w

/-- A store that nothing blocks: the bytes, with the poison of every whole word cleared (R211). -/
def Memory.store (m : Memory) (cs : List Host.Cell) : Memory :=
  (m.puts cs).unmark ((wordsOf cs).filter (covers cs))

/-- Bytes laid out from an address on. -/
def cellsAt (a : Nat) : List Byte → List Host.Cell
  | [] => []
  | b :: bs => (a, b) :: cellsAt (a + 1) bs

/-- The bytes of a block in place of what memory held there. -/
def cellsBlock (cs : List Host.Cell) (a : Nat) (bs : List Byte) : List Host.Cell :=
  cs.filter (fun c => c.1 < a) ++ (cellsAt a bs).filter (fun c => Memory.lists c.1 c.2) ++ cs.filter (fun c => a + bs.length ≤ c.1)

/-- A write of a block by the device: the poison of every whole word in it clears (R211). -/
def Memory.deviceWrite (m : Memory) (a : Nat) (bs : List Byte) : Memory :=
  { cells := cellsBlock m.cells a bs,
    poison := m.poison.filter fun w => !(a ≤ 8 * w && 8 * w + 8 ≤ a + bs.length) }

/-- What a physical address names (R203). -/
inductive Place where
  | hbm | device | hayloft | loft (b : BayIx) (off : Nat) | ownLoft (off : Nat) | regs | mram | hole
  deriving DecidableEq, Repr

/-- The physical map (R203): on the RKZ-1625-S the lofts of bays 64–127 are holes. -/
def placeOf (small : Bool) (a : Nat) : Place :=
  if a < hbmEnd then .hbm
  else if a < 0x1000000000 then .hole
  else if a < 0x1000200000 then .device
  else if a < 0x1002000000 then .hayloft
  else if a < 0x1100000000 then .hole
  else if a < 0x1100800000 then
    let b := (a - 0x1100000000) / 0x10000
    if small && 64 ≤ b then .hole else .loft (finOf 128 b) (a % 0x10000)
  else if a < 0x11FFFF0000 then .hole
  else if a < 0x1200000000 then .ownLoft (a % 0x10000)
  else if a < 0x2000000000 then .hole
  else if a < 0x2010000000 then .regs
  else if a < 0x3000000000 then .hole
  else if a < 0x3000800000 then .mram
  else .hole

/-- The physical address of a byte of a loft (R160). -/
def loftAddr (b : BayIx) (off : Nat) : Nat := 0x1100000000 + 0x10000 * b.val + off

/-- The end of the job area of every loft, where its ring begins (R195). -/
def State.jobArea (s : State) : Nat := if s.isSmall then 0x7000 else 0xB800

/-- The end of the line-job area of every loft: LOFT_SPLIT KiB, at most the maximum (R210, R220). -/
def State.loftSplit (s : State) : Nat := Nat.min (1024 * field s.det.jobCfg 5 0) s.jobArea

/-- The HBM controller is being reset, and accesses to it are bus errors (R219). -/
def State.hbmDown (s : State) : Bool := bit s.flt.pfrBusy 8

/-- The CLASS of a fault record (R217). -/
inductive FaultCls where
  | translation | permission | ecc | bus | illegal | descriptor | reset
  deriving DecidableEq, Repr

def FaultCls.code : FaultCls → Byte
  | .translation => 1 | .permission => 2 | .ecc => 3 | .bus => 4 | .illegal => 5 | .descriptor => 6 | .reset => 7

/-- Why an access fails (R208, R211, R217): the class, the flags of SOURCE's next byte, the virtual address and the poisoned word found. -/
structure AccFault where
  cls : FaultCls
  walk : Bool
  loft : Bool
  page : Bool
  va : BitVec 40
  found : Option Nat
  deriving DecidableEq, Repr

def AccFault.of (cls : FaultCls) (va : BitVec 40) : AccFault :=
  { cls := cls, walk := false, loft := false, page := false, va := va, found := none }

/-- What an access wants (R208). -/
inductive Access where
  | load | store | fetch | cartRead | cartWrite
  deriving DecidableEq, Repr

/-- Who makes an access: the TLB it uses (a bay's number, or 128 + the cart group), its address space, its time as the free choice of
R209 sees it, the bay whose loft the own-loft alias names, and for a bay instruction the kind of its job. -/
structure Requester where
  tlb : Nat
  asid : BitVec 4
  cycle : Nat
  ownLoft : Option BayIx
  deepJob : Option Bool
  deriving DecidableEq, Repr

/-- The address an access reaches, after the own-loft alias, or the class that R204 or R210 gives it. -/
def State.reach (s : State) (q : Requester) (va : BitVec 40) (pa : Nat) : Except AccFault Nat :=
  let bus : Except AccFault Nat := .error (.of .bus va)
  let inLoft (b : BayIx) (off : Nat) : Except AccFault Nat :=
    match q.deepJob with
    | none => if off < s.jobArea then .ok (loftAddr b off) else bus
    | some deep =>
      if q.ownLoft ≠ some b then bus
      else if off < s.jobArea && (if deep then s.loftSplit ≤ off else off < s.loftSplit) then .ok (loftAddr b off)
      else .error { AccFault.of .permission va with loft := true }
  match placeOf s.isSmall pa with
  | .hbm => if s.hbmDown then bus else .ok pa
  | .hayloft => .ok pa
  | .loft b off => inLoft b off
  | .ownLoft off =>
    match q.ownLoft with
    | some b => inLoft b off
    | none => bus
  | .regs => if q.asid = 0 && q.deepJob = none then .ok pa else bus
  | .device | .mram | .hole => bus

/-- A leaf denies an access (R207, R208). -/
def leafDenies (leaf : BitVec 64) (k : Access) : Bool :=
  bit leaf 5 || match k with
    | .load => !(bit leaf 1 && bit leaf 4)
    | .store => !(bit leaf 2 && bit leaf 4)
    | .fetch => !(bit leaf 3 && bit leaf 4)
    | .cartRead => !bit leaf 1
    | .cartWrite => !bit leaf 2

/-- One read of a walk: elsewhere than HBM or the general hayloft it is a bus error, of a poisoned word an ECC fault, each with WALK set
(R206, R211). -/
def State.walkRead (s : State) (va : BitVec 40) (a : Nat) : Except AccFault (BitVec 64) :=
  let bad (c : FaultCls) (w : Option Nat) : Except AccFault (BitVec 64) :=
    .error { AccFault.of c va with walk := true, found := w }
  match placeOf s.isSmall a with
  | .hbm =>
    if s.hbmDown then bad .bus none
    else if s.mem.poisoned (a / 8) then bad .ecc (some (a / 8)) else .ok (BitVec.ofNat 64 (s.mem.num a 8))
  | .hayloft => if s.mem.poisoned (a / 8) then bad .ecc (some (a / 8)) else .ok (BitVec.ofNat 64 (s.mem.num a 8))
  | _ => bad .bus none

/-- A level-1 entry breaks R207. -/
def l1Bad (e : BitVec 64) : Bool :=
  !bit e 0 || field e 63 40 ≠ 0 || field e 11 2 ≠ 0 || (!bit e 1 && field e 16 12 ≠ 0)

/-- A leaf breaks R207. -/
def leafBad (big : Bool) (e : BitVec 64) : Bool :=
  !bit e 0 || field e 63 40 ≠ 0 || field e 15 7 ≠ 0 || (big && field e 20 16 ≠ 0)

/-- The page number that tags an entry: VA[39:16], or that of the 2 MiB page's first 64 KiB. -/
def pageTag (big : Bool) (va : BitVec 40) : BitVec 24 :=
  if big then va.extractLsb' 21 19 ++ 0#5 else va.extractLsb' 16 24

/-- The two-level walk (R206, R207). -/
def State.walk (s : State) (asid : BitVec 4) (va : BitVec 40) : Except AccFault TlbEntry :=
  let base := vget s.det.asBase asid.toFin
  let none_ : Except AccFault TlbEntry := .error (.of .translation va)
  if !bit base 0 then none_
  else
    match s.walkRead va (0x2000 * field base 39 13 + 8 * field va 39 30) with
    | .error f => .error f
    | .ok e1 =>
      if l1Bad e1 then none_
      else
        let big := bit e1 1
        let ix := if big then field va 29 21 else field va 29 16
        match s.walkRead va (0x1000 * field e1 39 12 + 8 * ix) with
        | .error f => .error f
        | .ok leaf =>
          if leafBad big leaf then none_ else .ok { asid := asid, page := pageTag big va, big := big, leaf := leaf }

/-- An entry translates an address of an address space (R209). -/
def TlbEntry.hits (e : TlbEntry) (asid : BitVec 4) (va : BitVec 40) : Bool :=
  e.asid = asid && e.page = pageTag e.big va

/-- An invalidation covers an entry: all of an address space, one page of it, or everything (R220). -/
def TlbEntry.covered (e : TlbEntry) (inv : BitVec 4 × BitVec 2 × BitVec 24) : Bool :=
  if inv.2.1 = 0 then e.asid = inv.1
  else if inv.2.1 = 1 then e.asid = inv.1 && e.page = pageTag e.big (inv.2.2 ++ 0#16)
  else true

/-- The entry of the TLB that an access uses: while an invalidation is busy it may use an entry that the invalidation covers, or walk
(R209). -/
def State.tlbHit (s : State) (q : Requester) (t : List TlbEntry) (va : BitVec 40) : Option TlbEntry :=
  t.find? fun e => e.hits q.asid va && match s.det.tlbBusy with
    | some inv => !e.covered inv || Config.tlbUsesOld q.tlb e.page.toNat q.cycle
    | none => true

/-- The entries after a miss fills one: the oldest entry leaves a full TLB of 64 entries (a bay) or 128 (a cart group). -/
def tlbFill (q : Requester) (t : List TlbEntry) (e : TlbEntry) : List TlbEntry :=
  let t := t ++ [e]
  t.drop (t.length - (if q.tlb < 128 then 64 else 128))

/-- The physical address of a leaf for a virtual address. -/
def leafPa (big : Bool) (leaf : BitVec 64) (va : BitVec 40) : Nat :=
  0x10000 * field leaf 39 16 + (if big then field va 20 0 else field va 15 0)

/-- Translation and checks of one access in the order of R208: translation, POISON, permission, bus; the address it reaches and the
TLB after it. ASID 0 maps every address to itself (R204); in an address space with EN = 0 every access is a translation fault (R220). -/
def State.access (s : State) (q : Requester) (t : List TlbEntry) (k : Access) (va : BitVec 40) :
    Except AccFault (Nat × List TlbEntry) :=
  if q.asid = 0 then
    match s.reach q va va.toNat with
    | .error f => .error f
    | .ok a => .ok (a, t)
  else
    let found : Except AccFault (TlbEntry × List TlbEntry) :=
      if !bit (vget s.det.asBase q.asid.toFin) 0 then .error (.of .translation va)
      else match s.tlbHit q t va with
      | some e => .ok (e, t)
      | none =>
        match s.walk q.asid va with
        | .error f => .error f
        | .ok e => .ok (e, tlbFill q t e)
    match found with
    | .error f => .error f
    | .ok (e, t) =>
      if bit e.leaf 6 then .error { AccFault.of .ecc va with page := true }
      else if leafDenies e.leaf k then .error (.of .permission va)
      else
        match s.reach q va (leafPa e.big e.leaf va) with
        | .error f => .error f
        | .ok a => .ok (a, t)

/-- The checks of several accesses, every one before any byte moves (R165): the addresses reached, or the first failure. -/
def State.accessAll (s : State) (q : Requester) (k : Access) :
    List TlbEntry → List (BitVec 40) → Except AccFault (List Nat × List TlbEntry)
  | t, [] => .ok ([], t)
  | t, va :: vas =>
    match s.access q t k va with
    | .error f => .error f
    | .ok (a, t) =>
      match s.accessAll q k t vas with
      | .error f => .error f
      | .ok (as, t) => .ok (a :: as, t)

/-- Loads of `n` bytes each at naturally aligned addresses: the addresses reached, or the first failure, poison after every other check (R165,
R208, R211). -/
def State.loads (s : State) (q : Requester) (t : List TlbEntry) (vas : List (BitVec 40)) :
    Except AccFault (List Nat × List TlbEntry) :=
  match s.accessAll q .load t vas with
  | .error f => .error f
  | .ok (as, t) =>
    match (vas.zip as).find? fun x => s.mem.poisoned (x.2 / 8) with
    | some x => .error { AccFault.of .ecc x.1 with found := some (x.2 / 8) }
    | none => .ok (as, t)

/-- Stores of `n` bytes each at naturally aligned addresses, in order: the bytes at their physical addresses, or the first failure (R165, R208,
R211). -/
def State.stores (s : State) (q : Requester) (t : List TlbEntry) (n : Nat) (xs : List (BitVec 40 × Nat)) :
    Except AccFault (List Host.Cell × List TlbEntry) :=
  match s.accessAll q .store t (xs.map (·.1)) with
  | .error f => .error f
  | .ok (as, t) =>
    let cells := (as.zip xs).flatMap fun x => cellsAt x.1 (bytesLe n x.2.2)
    match s.mem.storeBlocked cells with
    | some w =>
      let va := ((xs.zip as).find? fun x => x.2 / 8 = w).elim 0 fun x => x.1.1
      .error { AccFault.of .ecc va with found := some w }
    | none => .ok (cells, t)

/-- The code of a memory in a telemetry ECC event (R329). -/
def memoryCode (a : Nat) : Byte := if a < hbmEnd then 0 else if a < 0x1100000000 then 1 else 2

/-- An uncorrectable word found in HBM, the hayloft or a loft: class ECC and a telemetry event (R211, R329, R401). -/
def State.eccFound (s : State) (w : Option Nat) : State :=
  match w with
  | some w => (s.report .ecc).eccEvent (memoryCode (8 * w)) true (8 * w)
  | none => s

/-- A word is read: one that its ECC corrects is written back corrected and counted in telemetry (R211). -/
def State.correctWord (s : State) (w : Nat) : State :=
  if s.mem.weak w then
    State.eccEvent { s with mem := s.mem.puts (cellsAt (8 * w) (s.mem.gets (8 * w) 8)) } (memoryCode (8 * w)) false (8 * w)
  else s

/-- Words are read, in order. -/
def State.correct (s : State) (ws : List Nat) : State := ws.foldl State.correctWord s

/-- The words that a walk reads (R206, R207). -/
def State.walkWords (s : State) (asid : BitVec 4) (va : BitVec 40) : List Nat :=
  let base := vget s.det.asBase asid.toFin
  let a1 := 0x2000 * field base 39 13 + 8 * field va 39 30
  if !bit base 0 then []
  else
    match s.walkRead va a1 with
    | .error _ => []
    | .ok e1 =>
      if l1Bad e1 then [a1 / 8]
      else [a1 / 8, (0x1000 * field e1 39 12 + 8 * if bit e1 1 then field va 29 21 else field va 29 16) / 8]

/-- The words that the walks of several accesses read: those of each address that the TLB does not hold. -/
def State.tlbWords (s : State) (q : Requester) : List TlbEntry → List (BitVec 40) → List Nat
  | _, [] => []
  | t, va :: vas =>
    if q.asid = 0 then s.tlbWords q t vas
    else match s.tlbHit q t va with
      | some _ => s.tlbWords q t vas
      | none => match s.walk q.asid va with
        | .error _ => s.walkWords q.asid va
        | .ok e => s.walkWords q.asid va ++ s.tlbWords q (tlbFill q t e) vas

/-- The state after accesses that succeed (R211): the words that their walks read, and of those at `as` the words in `data`. An access that fails
corrects nothing. DESIGN CHOICE (log entry 86). -/
def State.met (s : State) (q : Requester) (t : List TlbEntry) (vas : List (BitVec 40)) (data : List Nat) : State :=
  s.correct (s.tlbWords q t vas ++ data)

/-- The words of stored bytes that keep some of their own bytes: a store reads them (R211). -/
def partWords (cs : List Host.Cell) : List Nat := (wordsOf cs).filter fun w => !covers cs w

end Sys2Proof.Machine
end

