-- ==== Sys2Proof/Machine/Operands.lean ====
section
/-! DEFINITION. The operands of Myvik instructions: scalar, predicate and vector registers, register pairs, lanes and
predication (R162–R164, R167). -/

namespace Sys2Proof.Machine

/-- A scalar register: s0 reads 0 (R162). -/
def JobRegs.getS (r : JobRegs) (i : SReg) : Word := if i = 0 then 0 else r.s[i]

/-- A write of a scalar register: to s0 it is discarded (R162). -/
def JobRegs.setS (r : JobRegs) (i : SReg) (x : Word) : JobRegs := if i = 0 then r else { r with s := r.s.set i x }

/-- A predicate register: p0 reads 0xFFFF_FFFF (R162). -/
def JobRegs.getP (r : JobRegs) (i : PReg) : Word := if i = 0 then BitVec.allOnes 32 else r.p[i]

/-- A write of a predicate register: to p0 it is discarded (R162). -/
def JobRegs.setP (r : JobRegs) (i : PReg) (x : Word) : JobRegs := if i = 0 then r else { r with p := r.p.set i x }

/-- Lane i is active under predicate pg (R164). -/
def JobRegs.active (r : JobRegs) (pg : PReg) (i : Fin 32) : Bool := (r.getP pg)[i]

/-- The lane width of an instruction: 16 bits, or 32 with W = 1 (R163). -/
def laneWidth (W : Bool) : Nat := if W then 32 else 16

/-- A 16-bit lane of a vector register (R162). -/
def JobRegs.lane16 (r : JobRegs) (v : VReg) (i : Fin 32) : BitVec 16 := r.v[v][i]

/-- A 32-bit lane of the pair (v2k, v2k + 1): the upper half in v2k + 1 (R163). -/
def JobRegs.lane32 (r : JobRegs) (v : VReg) (i : Fin 32) : Word := r.lane16 (v + 1) i ++ r.lane16 v i

/-- A lane of a register, or of a pair with W = 1. -/
def JobRegs.lane (r : JobRegs) : (W : Bool) → VReg → Fin 32 → BitVec (laneWidth W)
  | false => r.lane16
  | true => r.lane32

/-- A write of every lane of a vector register. -/
def JobRegs.setV (r : JobRegs) (v : VReg) (f : Fin 32 → BitVec 16) : JobRegs := { r with v := r.v.set v (Vector.ofFn f) }

/-- A write of every lane of a pair: the upper halves to v2k + 1. -/
def JobRegs.setV32 (r : JobRegs) (v : VReg) (f : Fin 32 → Word) : JobRegs :=
  (r.setV v fun i => (f i).extractLsb' 0 16).setV (v + 1) fun i => (f i).extractLsb' 16 16

/-- A write of every lane of a register, or of a pair with W = 1. -/
def JobRegs.setLanes (r : JobRegs) : (W : Bool) → VReg → (Fin 32 → BitVec (laneWidth W)) → JobRegs
  | false => r.setV
  | true => r.setV32

/-- A write of the active lanes: inactive lanes keep their value (R164). -/
def JobRegs.setActive (r : JobRegs) (W : Bool) (vd : VReg) (pg : PReg) (f : Fin 32 → BitVec (laneWidth W)) : JobRegs :=
  r.setLanes W vd fun i => if r.active pg i then f i else r.lane W vd i

/-- Lane i of the second source: a vector register or a broadcast scalar, its low 16 bits when W = 0 (R167). -/
def JobRegs.src (r : JobRegs) (W : Bool) (b : VSrc) (i : Fin 32) : BitVec (laneWidth W) :=
  match b with
  | .v x => r.lane W x i
  | .s x => (r.getS x).setWidth (laneWidth W)

/-- The active lanes in rising order. -/
def JobRegs.actives (r : JobRegs) (pg : PReg) : List (Fin 32) := (List.finRange 32).filter fun i => r.active pg i

/-- PC + 4 × k on PC[31:0], wrapping; PC[39:32] does not change (R166). -/
def pcPlus (pc : BitVec 40) (k : Int) : BitVec 40 :=
  pc.extractLsb' 32 8 ++ (pc.extractLsb' 0 32 + BitVec.ofInt 32 (4 * k))

/-- A jump to a 32-bit target, its bits [1:0] cleared (R173). -/
def pcJump (pc : BitVec 40) (target : Word) : BitVec 40 := pc.extractLsb' 32 8 ++ (target &&& 0xFFFFFFFC#32)

/-- The return address of a jump: PC[31:0] + 4 (R173). -/
def pcLink (pc : BitVec 40) : Word := pc.extractLsb' 0 32 + 4

/-- The next instruction in order. -/
def JobRegs.advance (r : JobRegs) : JobRegs := { r with pc := pcPlus r.pc 1 }

/-- A data virtual address: DSEG[7:0] above a 32-bit address sum (R174). -/
def JobRegs.dataVa (r : JobRegs) (a : Word) : BitVec 40 := r.dseg.extractLsb' 0 8 ++ a

end Sys2Proof.Machine
end

