-- ==== Sys2Proof/Machine/Strips.lean ====
section
/-! DEFINITION. Run-length lists over the columns of a row. -/

namespace Sys2Proof.Machine

/-- Equal neighbouring runs joined, empty runs left out. -/
def stripNorm {α : Type} [DecidableEq α] (xs : Strip α) : Strip α :=
  xs.foldr (fun p acc =>
    if p.1 = 0 then acc
    else match acc with
      | [] => [p]
      | q :: rest => if p.2 = q.2 then (p.1 + q.1, p.2) :: rest else p :: q :: rest) []

/-- The columns of two strips taken together. -/
def stripZip {α β γ : Type} (f : α → β → γ) : (fuel : Nat) → Strip α → Strip β → Strip γ
  | 0, _, _ => []
  | _ + 1, [], _ => []
  | _ + 1, _, [] => []
  | fuel + 1, (i, a) :: as, (j, b) :: bs =>
    if i < j then (i, f a b) :: stripZip f fuel as ((j - i, b) :: bs)
    else if j < i then (j, f a b) :: stripZip f fuel ((i - j, a) :: as) bs
    else (i, f a b) :: stripZip f fuel as bs

/-- Two strips combined column by column. -/
def stripWith {α β γ : Type} (f : α → β → γ) (as : Strip α) (bs : Strip β) : Strip γ :=
  stripZip f (as.length + bs.length) as bs

def stripMap {α β : Type} (f : α → β) (xs : Strip α) : Strip β := xs.map fun p => (p.1, f p.2)

/-- A strip of `n` columns that holds `x` in columns lo–hi and `y` elsewhere. -/
def stripRange {α : Type} (n lo hi : Nat) (x y : α) : Strip α :=
  if n ≤ lo || hi < lo then [(n, y)]
  else [(lo, y), (Nat.min (hi + 1) n - lo, x), (n - Nat.min (hi + 1) n, y)].filter fun p => p.1 != 0

/-- The value of column `c`. -/
def stripGet? {α : Type} : Strip α → Nat → Option α
  | [], _ => none
  | (n, x) :: rest, c => if c < n then some x else stripGet? rest (c - n)

/-- The columns from `c` on. -/
def stripDrop {α : Type} : Strip α → Nat → Strip α
  | [], _ => []
  | (n, x) :: rest, c => if c < n then (n - c, x) :: rest else stripDrop rest (c - n)

/-- The first `c` columns. -/
def stripTake {α : Type} : Strip α → Nat → Strip α
  | [], _ => []
  | (n, x) :: rest, c => if c = 0 then [] else if c ≤ n then [(c, x)] else (n, x) :: stripTake rest (c - n)

/-- The columns one by one. -/
def stripExpand {α : Type} (xs : Strip α) : List α := xs.flatMap fun p => List.replicate p.1 p.2

/-- A strip of the given columns. -/
def stripOf {α : Type} [DecidableEq α] (xs : List α) : Strip α := stripNorm (xs.map fun x => (1, x))

/-- The sum of a quantity over the columns. -/
def stripSum {α : Type} (f : α → Nat) (xs : Strip α) : Nat := xs.foldl (fun acc p => acc + p.1 * f p.2) 0

/-- Every run of more than four columns split so that its two first and its two last columns stand alone: then each entry is
one column, or a run whose neighbours up to two columns away equal it. -/
def stripSplit {α : Type} (xs : Strip α) : Strip α :=
  xs.flatMap fun p =>
    if p.1 ≤ 4 then List.replicate p.1 (1, p.2)
    else [(1, p.2), (1, p.2), (p.1 - 4, p.2), (1, p.2), (1, p.2)]

/-- A function of each column and its two neighbours on either side: left-but-one, left, itself, right, right-but-one. The strip
is split as `stripSplit` says. -/
def stripWindow {α β : Type} (f : Option α → Option α → α → Option α → Option α → β) :
    Option α → Option α → Strip α → Strip β
  | _, _, [] => []
  | p2, p1, (n, x) :: rest =>
    let r1 := rest.head?.map (·.2)
    let r2 := match rest with
      | (m, y) :: more => if 1 < m then some y else more.head?.map (·.2)
      | [] => none
    (n, f p2 p1 x r1 r2) :: stripWindow f p1 (some x) rest

/-- The column sums of groups of `b` columns: the runs cut at multiples of `b`. -/
def stripGroups {α : Type} (b : Nat) : (fuel : Nat) → Strip α → Strip (List α)
  | 0, _ => []
  | fuel + 1, xs =>
    match xs with
    | [] => []
    | (n, x) :: rest =>
      if b ≤ n then (n / b, List.replicate b x) :: stripGroups b fuel (if n % b = 0 then rest else (n % b, x) :: rest)
      else (1, stripExpand (stripTake xs b)) :: stripGroups b fuel (stripDrop xs b)

end Sys2Proof.Machine
end

