-- ==== Sys2Proof/Machine/BayJobs.lean ====
section
/-! DEFINITION. Line jobs and deep jobs: the line feed, dispatch, deadlines, pre-emption, save frames and fault records (R192–R202, R217–R219). -/

namespace Sys2Proof.Machine

/-- A bay changed. -/
def State.onBay (s : State) (b : BayIx) (f : Bay → Bay) : State := { s with det := { s.det with bays := vmod s.det.bays b f } }

def State.getBay (s : State) (b : BayIx) : Bay := vget s.det.bays b

def Bay.onSlot (y : Bay) (j : Fin 4) (f : DeepSlot → DeepSlot) : Bay := { y with slots := vmod y.slots j f }

def Bay.getSlot (y : Bay) (j : Fin 4) : DeepSlot := vget y.slots j

/-- A fault record (R217): class, point and source codes, address space, the flags, PC, instruction word, address and line. -/
structure FaultRec where
  cls : FaultCls
  point : Byte
  source : Byte
  asid : BitVec 4
  deep : Bool
  walk : Bool
  loft : Bool
  page : Bool
  pc : BitVec 40
  word : Word
  va : BitVec 40
  line : Nat
  deriving DecidableEq, Repr

/-- The 32 bytes of a fault record (R217). -/
def FaultRec.bytes (r : FaultRec) (count : BitVec 16) : List Byte :=
  let flag (b : Bool) (n : Nat) : Nat := if b then n else 0
  [r.cls.code, r.point, r.source,
    BitVec.ofNat 8 (r.asid.toNat + flag r.deep 16 + flag r.walk 32 + flag r.loft 64 + flag r.page 128)]
    ++ bytesLe 8 r.pc.toNat ++ bytesLe 4 r.word.toNat ++ bytesLe 8 r.va.toNat ++ bytesLe 6 r.line ++ bytesLe 2 count.toNat

/-- The address of the fault ring (R218). -/
def faultRing : Nat := 0x1000120000

/-- A fault record (R217, R218): it is written at HEAD, or counted in FLT_LOST where it would make HEAD equal TAIL; the fault summary
records a job fault. The count of the first record is 1, and records that are discarded count too: DESIGN CHOICE, log entry 106. -/
def State.faultRecord (s : State) (r : FaultRec) : State :=
  let n := s.det.fltRecords + 1
  let lost := s.det.fltHead + 1 = s.det.fltTail
  let mem := if lost then s.mem else s.mem.deviceWrite (faultRing + 32 * s.det.fltHead.toNat) (r.bytes n)
  State.report { s with
    mem := mem,
    det := { s.det with
      fltRecords := n, fltHead := if lost then s.det.fltHead else s.det.fltHead + 1,
      fltLost := if lost then satInc s.det.fltLost else s.det.fltLost } } .job

/-- A fault record of a bay, which also counts in FAULTS of BAY_CNT (R217, R220). -/
def State.bayRecord (s : State) (b : BayIx) (r : FaultRec) : State :=
  (s.faultRecord r).onBay b fun y => { y with faults := satInc y.faults }

/-- The entry address of a kernel slot (R220). -/
def State.kernelEntry (s : State) (k : Fin 16) : BitVec 40 := (vget s.det.kernEntry k).extractLsb' 2 38 ++ 0#2

/-- The registers at the start of a job (R162, R179). -/
def startRegs (entry : BitVec 40) (k : Fin 16) (line : Nat) : JobRegs :=
  { JobRegs.zero with
    pc := entry, lineLo := BitVec.ofNat 32 line, lineHi := BitVec.ofNat 32 (line / 2 ^ 32 % 2 ^ 16),
    kernel := BitVec.ofNat 32 k.val, dseg := (entry.extractLsb' 32 8).setWidth 32 }

/-- The bays run jobs: they are halted in MAINT and from the acceptance of a request for it (R91, R96). -/
def State.baysRun (s : State) : Bool := s.mode.mode ≠ .maint && s.mode.pending.all fun p => p.target ≠ .maint

/-- A slot that may run (R199). -/
def DeepSlot.runnable (d : DeepSlot) : Bool := d.state = .ready || d.state = .saved

/-- The deep slot a bay takes next (R200): the one last pre-empted if it is still SAVED, else the next runnable one after the last one
run. -/
def Bay.pick (y : Bay) : Option (Fin 4) :=
  match y.preempted.filter fun j => (y.getSlot j).state = .saved with
  | some j => some j
  | none =>
    let first := match y.lastSlot with
      | some j => j.val + 1
      | none => 0
    ([0, 1, 2, 3].map fun i => finOf 4 (first + i)).find? fun j => (y.getSlot j).runnable

/-- A slot's job is on the bay (R199, R200). -/
def Bay.runSlot (y : Bay) (j : Fin 4) (regs : JobRegs) : Bay :=
  { (y.onSlot j fun d => { d with state := .running, fresh := false }) with
    work := .deep j, regs := regs, lastSlot := some j, preempted := if y.preempted = some j then none else y.preempted }

/-- An idle bay starts its oldest queued line job, or else takes a deep job: from its entry, or by a restore of its frame
(R196, R200, R201). -/
def State.startNext (s : State) (b : BayIx) : State :=
  let y := s.getBay b
  if y.work ≠ .idle || !s.baysRun then s
  else
    match y.queue with
    | j :: js =>
      s.onBay b fun y => { y with work := .line j, regs := startRegs (s.kernelEntry j.kslot) j.kslot j.line, queue := js }
    | [] =>
      match y.pick with
      | none => s
      | some j =>
        let d := y.getSlot j
        if d.state = .ready && d.fresh then
          s.onBay b fun y => y.runSlot j (startRegs (s.kernelEntry d.kslot) d.kslot 0)
        else s.onBay b fun y => { y with work := .restoring j }

/-- The INCOMPLETE marker of a line job (R198, R234): with the KERNEL of a job that has started, else its kernel slot. -/
def State.marker (s : State) (b : BayIx) (j : LineJob) (kernel : BitVec 16) : State :=
  { s with det := { s.det with flawOut := s.det.flawOut ++ [.incomplete j.line j.seg b kernel] } }

/-- The running line job ends with its marker (R198): stopped, aborted or ended by a fault. -/
def State.endLineJob (s : State) (b : BayIx) (j : LineJob) : State :=
  (s.marker b j ((s.getBay b).regs.kernel.extractLsb' 0 16)).onBay b fun y => { y with work := .idle }

/-- The frame of a deep slot (R202). -/
def frameAddr (b : BayIx) (j : Fin 4) : Nat := 0x1000000000 + (4 * b.val + j.val) * 0x900

/-- The bytes of a save frame (R202). -/
def frameBytes (r : JobRegs) (saves : Word) : List Byte :=
  (r.v.toList.flatMap fun v => v.toList.flatMap fun x => bytesLe 2 x.toNat)
    ++ ((List.finRange 16).flatMap fun i => bytesLe 4 (r.getS i).toNat)
    ++ ((List.finRange 8).flatMap fun i => bytesLe 4 (r.getP i).toNat)
    ++ bytesLe 8 r.pc.toNat
    ++ ([r.vov, r.vsat, r.sflags, r.lineLo, r.lineHi, r.bflag, r.kernel, r.dseg, saves].flatMap fun w => bytesLe 4 w.toNat)
    ++ List.replicate 116 0

/-- The registers that a save frame restores (R202): s0, p0 and the bytes from 0x88C on are ignored. -/
def frameRegs (m : Memory) (a : Nat) : JobRegs :=
  let w (o : Nat) : Word := BitVec.ofNat 32 (m.num (a + o) 4)
  { s := Vector.ofFn fun i => if i = 0 then 0 else w (0x800 + 4 * i.val),
    v := Vector.ofFn fun k => Vector.ofFn fun i => BitVec.ofNat 16 (m.num (a + 64 * k.val + 2 * i.val) 2),
    p := Vector.ofFn fun i => if i = 0 then 0 else w (0x840 + 4 * i.val),
    pc := BitVec.ofNat 40 (m.num (a + 0x860) 5) &&& ~~~(3#40), vov := w 0x868, vsat := w 0x86C, sflags := w 0x870, lineLo := w 0x874, lineHi := w 0x878,
    bflag := w 0x87C, kernel := w 0x880, dseg := w 0x884 }

/-- The ASID of the job on a bay. -/
def Bay.asid (y : Bay) : BitVec 4 :=
  match y.work with
  | .line j => j.asid
  | .deep j | .saving j _ | .restoring j => (y.getSlot j).asid
  | .idle | .reset => 0

/-- The bay runs a deep job. -/
def Bay.onDeep (y : Bay) : Bool :=
  match y.work with
  | .deep _ => true
  | _ => false

/-- The line of the job on a bay, 0 for a deep job (R217). -/
def Bay.jobLine (y : Bay) : Nat :=
  match y.work with
  | .line j => j.line
  | _ => 0

/-- A fault of the job on a bay (R219): the record, then a line job ends with its marker and the next job starts, and a deep job is
held FAULTED, its state saved. -/
def State.bayFault (s : State) (b : BayIx) (f : AccFault) (point : Byte) (word : Word) : State :=
  let y := s.getBay b
  let s := s.eccFound f.found
  let s := s.bayRecord b
    { cls := f.cls, point := point, source := BitVec.ofNat 8 b.val, asid := y.asid, deep := y.onDeep, walk := f.walk,
      loft := f.loft, page := f.page, pc := y.regs.pc, word := word, va := f.va, line := y.jobLine }
  match y.work with
  | .line j => (s.endLineJob b j).startNext b
  | .deep j => s.onBay b fun y => { (y.onSlot j fun d => { d with state := .faulted }) with work := .saving j .fault }
  | .saving .. | .restoring _ | .idle | .reset => s

/-- An illegal instruction (R170): the job is aborted, a record written and the bay's count of illegal instructions increased; a deep
job's slot is DONE. Its record has POINT 0x00 and the PC as its faulting VA: DESIGN CHOICE, log entry 106. -/
def State.bayIllegal (s : State) (b : BayIx) (word : Word) : State :=
  let y := s.getBay b
  let s := s.bayRecord b
    { cls := .illegal, point := 0, source := BitVec.ofNat 8 b.val, asid := y.asid, deep := y.onDeep, walk := false,
      loft := false, page := false, pc := y.regs.pc, word := word, va := y.regs.pc, line := y.jobLine }
  let s := s.onBay b fun y => { y with illegal := satInc y.illegal }
  match y.work with
  | .line j => (s.endLineJob b j).startNext b
  | .deep j => (s.onBay b fun y => { (y.onSlot j fun d => { d with state := .done }) with work := .idle }).startNext b
  | .saving .. | .restoring _ | .idle | .reset => s

/-- The job on a bay ends by HALT (R178, R196, R199). -/
def State.haltJob (s : State) (b : BayIx) : State :=
  match (s.getBay b).work with
  | .line _ => (s.onBay b fun y => { y with work := .idle }).startNext b
  | .deep j => (s.onBay b fun y => { (y.onSlot j fun d => { d with state := .done }) with work := .idle }).startNext b
  | .saving .. | .restoring _ | .idle | .reset => s

/-- YIELD of a deep job (R178, R200): with another slot runnable the job is saved and the bay goes to that slot. -/
def State.yieldJob (s : State) (b : BayIx) : State :=
  let y := s.getBay b
  match y.work with
  | .deep j =>
    if (List.finRange 4).any fun i => i ≠ j && (y.getSlot i).runnable then
      s.onBay b fun y => { y with work := .saving j .yield }
    else s
  | _ => s

/-- Step 1 of the DISPATCH slot (R197): line jobs whose deadline has come are stopped, each with its marker and a count in MISSED; the
others have one LT less to begin. -/
def State.stopExpired (s : State) (b : BayIx) : State :=
  let y := s.getBay b
  let s := match y.work with
    | .line j =>
      if j.left = 0 then (s.endLineJob b j).onBay b fun y => { y with missed := satInc y.missed }
      else s.onBay b fun y => { y with work := .line { j with left := j.left - 1 } }
    | _ => s
  let gone := y.queue.filter fun j => j.left = 0
  let s := gone.foldl (fun s j => (s.marker b j (BitVec.ofNat 16 j.kslot.val)).onBay b fun y => { y with missed := satInc y.missed }) s
  s.onBay b fun y => { y with queue := (y.queue.filter fun j => j.left ≠ 0).map fun j => { j with left := j.left - 1 } }

/-- Step 2 (R197, R201): a running deep job is pre-empted and its frame is being written; a restore not yet done is abandoned. -/
def Bay.preempt (y : Bay) : Bay :=
  match y.work with
  | .deep j => { y with work := .saving j .preempt }
  | .restoring _ => { y with work := .idle }
  | _ => y

/-- The line jobs that a line gives a bay (R192, R194): one, or two on the RKZ-1625-S. -/
def lineJobsOf (small : Bool) (h : CtxHalf) (lead : CtxIx) (fields : Fin 4) (line : Nat) (b : BayIx) : List LineJob :=
  let job (seg : BayIx) : LineJob :=
    { line := line, seg := seg, kslot := cJobKslot h, asid := cJobAsid h, ctx := lead, fields := fields, left := cJobDeadline h - 1 }
  if small then (if b.val < 64 then [job b, job (finOf 128 (b.val + 64))] else []) else [job b]

/-- The shed of a bay takes line jobs under a context (R192). -/
def takesJobs (h : CtxHalf) (b : BayIx) : Bool := cJobEn h && (cJobMask h).testBit (b.val / 8)

/-- The FEED slot of a line (R149, R195): with a job to dispatch it joins the ring of the 16 newest lines, newest first. -/
def State.feedLine (s : State) (x : RingLine) : State := { s with det := { s.det with ring := (x :: s.det.ring).take 16 } }

/-- The DISPATCH slot on one bay (R197, R422): stops, pre-emption, the new line jobs, and the start of the next job on a bay that has
nothing to save. -/
def State.dispatchBay (s : State) (new : BayIx → List LineJob) (b : BayIx) : State :=
  let s := (s.stopExpired b).onBay b Bay.preempt
  (s.onBay b fun y => { y with queue := y.queue ++ new b }).startNext b

/-- The FEED and DISPATCH slots of an LT (R21, R192–R197): the line fed, its lead context's half and number of fields, and whether the
line may have jobs; none where no line reaches FEED. A line without a job, so also one whose mask names no shed of the -S, is not fed (R195). -/
def State.feedAndDispatch (s : State) (x : Option (RingLine × CtxHalf × CtxIx × Bool)) : State :=
  let jobs := match x with
    | some (_, h, _, ok) => ok && cJobEn h && (if s.isSmall then cJobMask h % 256 else cJobMask h) ≠ 0 && s.baysRun
    | none => false
  let s := match x with
    | some (r, _, _, _) => if jobs then s.feedLine r else s
    | none => s
  let new (b : BayIx) : List LineJob := match x with
    | some (r, h, lead, _) => if jobs && takesJobs h b then lineJobsOf s.isSmall h lead r.fields r.line b else []
    | none => []
  ((List.finRange 128).filter fun b => s.hasBay b).foldl (fun s b => s.dispatchBay new b) s

/-- A pre-empted bay of the shed comes before this one: its frame is written first (R201). -/
def State.saveWaits (s : State) (b : BayIx) : Bool :=
  (List.finRange 128).any fun c => c.val / 8 = b.val / 8 && c < b && match (s.getBay c).work with
    | .saving _ .preempt => true
    | _ => false

/-- A pre-emption save faults at word `w` of the frame (R217, R219): the words before it are written, the slot is LOST and the bay goes on. -/
def State.saveFault (s : State) (b : BayIx) (j : Fin 4) (w : Fin 288) (bus : Bool) : State :=
  let y := s.getBay b
  let a := frameAddr b j
  let s := { s with mem := s.mem.deviceWrite a ((frameBytes y.regs ((y.getSlot j).saves + 1)).take (8 * w.val)) }
  let s := s.bayRecord b
    { cls := if bus then .bus else .ecc, point := 2, source := BitVec.ofNat 8 b.val, asid := (y.getSlot j).asid, deep := true, walk := false,
      loft := false, page := false, pc := y.regs.pc, word := 0, va := BitVec.ofNat 40 (a + 8 * w.val), line := 0 }
  (s.onBay b fun y => { (y.onSlot j fun d => { d with state := .lost }) with work := .idle, preempted := y.preempted.filter (· ≠ j) }).startNext b

/-- The save of a deep job's frame is complete (R201, R202): the slot is SAVED, or after a fault stays as it is, and the bay goes on. A pre-emption
save waits for those of the shed's lower bays, and may fail. -/
def State.saveDone (s : State) (b : BayIx) (failed : Option (Fin 288)) (bus : Bool) : State :=
  let y := s.getBay b
  match y.work, failed with
  | .saving j .preempt, some w => if s.saveWaits b then s else s.saveFault b j w bus
  | .saving j why, _ =>
    if why = .preempt && s.saveWaits b then s else
    let saves := (y.getSlot j).saves + 1
    let s := { s with mem := s.mem.deviceWrite (frameAddr b j) (frameBytes y.regs saves) }
    let s := s.onBay b fun y =>
      { (y.onSlot j fun d =>
          if why = .fault then { d with saves := saves } else { d with saves := saves, fresh := false, state := .saved }) with
        work := .idle, preempted := if why = .preempt then some j else y.preempted.filter (· ≠ j) }
    s.startNext b
  | _, _ => s

/-- The restore of a frame is complete (R201, R202), or its frame is poisoned: then the slot is FAULTED, the bay untouched (R219). -/
def State.restoreDone (s : State) (b : BayIx) : State :=
  let y := s.getBay b
  match y.work with
  | .restoring j =>
    let a := frameAddr b j
    match ((List.range 0x120).map fun i => a / 8 + i).find? fun w => s.mem.poisoned w with
    | none => (s.correct ((List.range 0x120).map fun i => a / 8 + i)).onBay b fun y => y.runSlot j (frameRegs s.mem a)
    | some w =>
      let pc := if s.mem.poisoned ((a + 0x860) / 8) then 0 else BitVec.ofNat 40 (s.mem.num (a + 0x860) 5)
      let s := (s.eccFound (some w)).bayRecord b
        { cls := .ecc, point := 3, source := BitVec.ofNat 8 b.val, asid := (y.getSlot j).asid, deep := true, walk := false,
          loft := false, page := false, pc := pc, word := 0, va := BitVec.ofNat 40 (8 * w), line := 0 }
      (s.onBay b fun y => { (y.onSlot j fun d => { d with state := .faulted }) with work := .idle }).startNext b
  | _ => s

/-- The flag set in the BFLAG word of a frame. -/
def State.setFrameFlag (s : State) (b : BayIx) (j : Fin 4) (d : DeepSlot) (flag : Fin 16) : State :=
  if d.state = .saved || d.state = .faulted || (d.state = .ready && !d.fresh) then
    let a := frameAddr b j + 0x87C
    let w : Word := setBit (BitVec.ofNat 32 (s.mem.num a 4)) flag.val true
    { s with mem := s.mem.puts (cellsAt a (bytesLe 4 w.toNat)) }
  else s

/-- The flag of a completed descriptor goes to the job that posted it (R179, R202, R214): to the bay's registers while the job is on the
bay, to the frame of a job that is not; nowhere once the job has ended. -/
def State.setFlag (s : State) (who : Poster) (flag : Fin 16) : State :=
  let live (b : BayIx) : State := s.onBay b fun y => { y with regs := { y.regs with bflag := setBit y.regs.bflag flag.val true } }
  match who with
  | .firmware => s
  | .line b line seg =>
    match (s.getBay b).work with
    | .line j => if j.line = line && j.seg = seg then live b else s
    | _ => s
  | .deep b j fills =>
    let y := s.getBay b
    let d := y.getSlot j
    if d.fills ≠ fills then s
    else if y.work = .deep j then live b
    else
      match y.work with
      | .saving i _ => if i = j then live b else s.setFrameFlag b j d flag
      | _ => s.setFrameFlag b j d flag

end Sys2Proof.Machine
end

