-- ==== Sys2Proof/Machine/Convert.lean ====
section
/-! DEFINITION. One conversion: the photosite, the shutter, the pedestal, the ramp and the code tables (R33–R47). Charges are in 1/1,000 e⁻. -/

namespace Sys2Proof.Machine

/-- The integer square root, bit by bit. -/
def isqrtGo (n : Nat) : (bits : Nat) → (root : Nat) → Nat
  | 0, root => root
  | b + 1, root => let r := root + 2 ^ b; isqrtGo n b (if r * r ≤ n then r else root)

def isqrt (n : Nat) : Nat := isqrtGo n (n.log2 / 2 + 1) 0

/-- a ≤ q √r for a natural number r. -/
def leRoot (a q : Int) (r : Nat) : Bool :=
  if 0 ≤ q then a ≤ 0 || a * a ≤ q * q * r else a ≤ 0 && q * q * r ≤ a * a

/-- The denominator of the default tables' exact values. -/
def tableDen : Nat := 3 * 207 * 207

/-- V_k of a default table as (p + q √r) / `tableDen` electrons (R44): r is 22 at HG and 30 at LG. -/
def tableV (g : Fin 2) (k : Nat) : Int × Int :=
  if k < 48 then
    if g = 0 then (k * (207 * 207), 0) else (k * (6 * 207 * 207), 0)
  else
    let j : Int := k - 48
    let m : Int := 207 - j
    if g = 0 then (3 * (16 * m * m + 2200 * j * j), 3 * (80 * j * m))
    else (3 * (96 * m * m + 18000 * j * j), 3 * (480 * j * m))

def tableRoot (g : Fin 2) : Nat := if g = 0 then 22 else 30

/-- Entry E_k of a default table before the clamp at 65,535 (R44). -/
def defaultRaw (au : Nat) (gain : Fin 2) (k : Nat) : Nat :=
  let (p, q) := tableV gain k
  let x : Int := 16 * p + 2 ^ au * tableDen
  let root := isqrt ((16 * q).toNat ^ 2 * tableRoot gain)
  ((x + root) / (tableDen * 2 ^ (au + 1))).toNat

/-- Twice T_k of a default table as (p + q √r) / `tableDen` electrons (R40). -/
def defaultT2 (g : Fin 2) (k : Nat) : Int × Int :=
  let (p, q) := tableV g k
  if k < 255 then let (p', q') := tableV g (k + 1); (p + p', q + q')
  else let (p', q') := tableV g 254; (3 * p - p', 3 * q - q')

/-- Twice T_k of a custom table, in its AU (R40). -/
def customT2 (t : CodeTable) (k : Nat) : Int :=
  let e (i : Nat) : Int := (t.entries[finOf 256 i] : Nat)
  if k < 255 then e k + e (k + 1) else 3 * e 255 - e 254

/-- The threshold T_k is not below a signal of `x` thousandths of an electron. `tab` is none for the default table, and `trim` is the
slope trim of the ramp in ppm (R56): every threshold stands at T_k × (1 + trim / 10⁶). The manual does not say which way a positive
trim turns the slope; DESIGN CHOICE, log entry 65. -/
def notBelow (g : Fin 2) (tab : Option CodeTable) (trim : Int) (x : Int) (k : Nat) : Bool :=
  let x := 1000000 * x
  let scale := 1000 * (1000000 + trim)
  match tab with
  | none => let (p, q) := defaultT2 g k; leRoot (2 * tableDen * x - scale * p) (scale * q) (tableRoot g)
  | some t => 16 * x ≤ scale * 2 ^ t.au.val * customT2 t k

/-- The number of thresholds below the signal, by bisection: thresholds never decrease. -/
def stepGo (flip : Nat → Bool) : (bits : Nat) → (below : Nat) → Nat
  | 0, below => below
  | b + 1, below => stepGo flip b (if flip (below + 2 ^ b - 1) then below else below + 2 ^ b)

/-- The step in which the comparator flips, or 256 when it never does (R40, R41). -/
def rampStep (g : Fin 2) (tab : Option CodeTable) (trim : Int) (x : Int) : Nat :=
  if notBelow g tab trim x 255 then stepGo (notBelow g tab trim x) 8 0 else 256

/-- What a conversion latches, and whether it is over-range (R40, R41): the entry of the step in AU `au`. -/
def latchOf (g : Fin 2) (au : Fin 4) (tab : Option CodeTable) (trim : Int) (x : Int) : Nat × Bool :=
  let step := rampStep g tab trim x
  let k := Nat.min step 255
  match tab with
  | none => let e := defaultRaw au g k; (Nat.min e 65535, step = 256 || 65535 < e)
  | some t => (t.entries[finOf 256 k], step = 256)

/-- V_255 of a gain's table in 1/1,000 e⁻ (R44, R146). -/
def fullScaleMilli (g : Fin 2) (tab : Option CodeTable) : Nat :=
  match tab with
  | none => if g = 0 then 2200000 else 18000000
  | some t => t.entries[255] * 2 ^ t.au.val * 125

/-- The full well of the photodiode (R33, R34). -/
def fullWell (g : Fin 2) : Nat := if g = 0 then 2200000 else 18000000

/-- The integration window that ends at the transfer of an LT at `t`, `last` being the LT before (R35–R37): none when the
photodiode was held empty. -/
def shutterWindow (shut : Bool) (mode : Bool) (ns last t : Nat) : Option (Nat × Nat) :=
  let lp := t - last
  if shut || 65536 < lp then none
  else if mode then
    let from_ := Nat.max (last + 24) (t - Nat.max ns 16)
    if from_ < t then some (from_, t) else none
  else
    let s := Nat.max ns 24
    if lp < s + 16 then none else some (last + s, t)

/-- The overlap of two intervals, in ns. -/
def overlap (a b c d : Nat) : Nat := Nat.min b d - Nat.max a c

/-- 2^(b/13) in 1/65,536, for the steps of a half degree by which dark current doubles every 6.5 °C (R33). -/
def darkRoot (b : Nat) : Nat :=
  [65536, 69125, 72911, 76904, 81116, 85558, 90244, 95186, 100399, 105897, 111697, 117814, 124266].getD b 65536

/-- The dark charge of a photosite at a signed temperature in °C over a window of `ns`, in 1/1,000 e⁻ (R33, R448): 2 e⁻/s at 25 °C, doubling every
6.5 °C. DESIGN CHOICE: the power is taken from a table of 16 fraction bits, and the charge is rounded half to even (log entry 111). -/
def darkMilli (temp : Byte) (ns : Nat) : Nat :=
  let n : Int := 2 * (temp.toInt - 25)
  let a := n / 13
  let root : Nat := darkRoot (n % 13).toNat
  if 0 ≤ a then (rheDiv (2000 * root * 2 ^ a.toNat * ns) (65536 * 1000000000)).toNat
  else (rheDiv (2000 * root * ns) (65536 * 1000000000 * 2 ^ (-a).toNat)).toNat

/-- The charge a row of `n` columns from column `base` collects within a window. -/
def lightStrip (light : List LightTerm) (win : Option (Nat × Nat)) (row base n : Nat) : Strip Nat :=
  match win with
  | none => [(n, 0)]
  | some (w0, w1) =>
    light.foldl (fun acc l =>
      if l.rowFrom ≤ row && row ≤ l.rowTo && base ≤ l.colTo && l.colFrom < base + n then
        let q := l.rate * overlap w0 w1 l.tFrom l.tTo
        let seg : Strip Nat :=
          let lo := l.colFrom - base
          let hi := Nat.min (l.colTo - base) (n - 1)
          [(lo, 0), (hi + 1 - lo, q), (n - (hi + 1), 0)].filter fun p => p.1 != 0
        stripAdd acc seg
      else acc) [(n, 0)]
where
  stripAdd (a b : Strip Nat) : Strip Nat := go (a.length + b.length) a b
  go : Nat → Strip Nat → Strip Nat → Strip Nat
    | 0, _, _ => []
    | _ + 1, [], _ => []
    | _ + 1, _, [] => []
    | f + 1, (i, x) :: as, (j, y) :: bs =>
      if i < j then (i, x + y) :: go f as ((j - i, y) :: bs)
      else if j < i then (j, x + y) :: go f ((i - j, x) :: as) bs
      else (i, x + y) :: go f as bs

end Sys2Proof.Machine
end

