-- ==== Sys2Proof/Machine/Stalls.lean ====
section
/-! DEFINITION. The add and the walk of one tick over the whole array (R63–R84, R105–R107), and the reference columns (R53, R54). -/

namespace Sys2Proof.Machine

/-- The field a contribution is added into: none in a SKIP tick (R74–R79). `entry` is the sequence entry of the tick. -/
def fieldOf (h : CtxHalf) (entry : Nat) (grp fo : Nat) : Option (Fin 4) :=
  if cFmt h = 0 then some 0
  else
    let own : Option Nat := if cRowGroup h then some (cRowField h grp) else if entry = 4 then none else some entry
    own.map fun f => finOf 4 (if fo = 0 then f else if fo = 1 then 0 else if fo = 2 then 1 else cFo3 h)

/-- An add with saturation at `top`, which an over-range contribution reaches at once and no add leaves (R70, R71). -/
def satField (top old v : Nat) (ov : Bool) : Nat := if ov || old = top then top else Nat.min (old + v) top

/-- The accumulator after a contribution `v` is added into field `f` (R68–R71). -/
def addInto (h : CtxHalf) (acc : BitVec 48) (f : Fin 4) (v : Nat) (ov : Bool) : BitVec 48 :=
  if cFmt h = 0 then
    let sum := setField acc 0 24 (field acc 23 0 + v)
    if ov then setBit sum 24 true else sum
  else if cFmt h = 1 then
    let lo := 24 * f.val
    setField acc lo 24 (satField 0xFFFFFF ((acc.extractLsb' lo 24).toNat) v ov)
  else
    let lo := 12 * f.val
    setField acc lo 12 (satField 0xFFF ((acc.extractLsb' lo 12).toNat) (rhe v (cPreshift h)).toNat ov)

/-- The ramp of a yard and gain in a tick: what its code-table bank in use holds (R47), and its slope trim in ppm (R56). -/
structure RampOf where
  code : BankCode
  trim : Int
  deriving DecidableEq, Repr

/-- The two banks once the control plane has written the table an LT needs into the bank not in use, and the bank switch has taken place; a bank
that holds that table already goes on (R47). -/
def CodeBanks.load (b : CodeBanks) (c : BankCode) : CodeBanks :=
  if b.codes[b.inUse] = c then b else { inUse := b.inUse + 1, codes := vset b.codes (b.inUse + 1) c }

/-- The table that drives the code bus. -/
def CodeBanks.now (b : CodeBanks) : BankCode := b.codes[b.inUse]

/-- What happens in a tick: the lead half, the direction, the sequence entry, a clear tick, the settling gains, the ramp of each yard and
gain, the window of exposure with the dark charge of each yard in it, and FRAME's part of the tick. -/
structure TickWork where
  half : CtxHalf
  dir : Bool
  entry : Nat
  clear : Bool
  settling : Fin 2 → Bool
  ramp : Vector RampOf 16
  window : Option (Nat × Nat)
  dark : Vector Nat 8
  light : List LightTerm
  frame : Bool
  handOver : Bool
  adding : Bool

/-- The maps' code of a stall: its mask bit and FO. -/
def codeMask (code : Nat) : Bool := code % 2 = 1
def codeFo (code : Nat) : Nat := code / 2 % 4

/-- What a stall's conversion does to the cell that walked in (R65, R73, R80, R141). -/
def stallStep (w : TickWork) (r : Nat) (base : Cell) (code : Nat) (conv : Nat × Bool) : Cell :=
  let s := stageOf w.dir r
  let g := rowGain w.half r
  let cell := if w.clear then Cell.clear else base
  if inWindow w.half s then
    let cell := if conv.2 then { cell with ovr := cell.ovr + 1 } else cell
    match fieldOf w.half w.entry (r / 32) (codeFo code) with
    | none => cell
    | some f =>
      if w.clear || w.settling g then cell
      else if codeMask code then { cell with masked := cell.masked + 1 }
      else
        { cell with
          acc := addInto w.half cell.acc f conv.1 conv.2,
          hg := if g = 0 then cell.hg.set f (cell.hg[f] + 1) else cell.hg,
          lg := if g = 1 then cell.lg.set f (cell.lg[f] + 1) else cell.lg }
  else cell

/-- What an adding tick of FRAME does to the accumulating half (R72, R80, R106): a clear tick adds nothing and still counts its own over-range
conversion. -/
def exposeStep (w : TickWork) (r : Nat) (base : Cell) (code : Nat) (conv : Nat × Bool) : Cell :=
  let g := rowGain w.half r
  let cell := if w.clear then Cell.clear else base
  let cell := if conv.2 then { cell with ovr := cell.ovr + 1 } else cell
  if w.clear || w.settling g then cell
  else if codeMask code then { cell with masked := cell.masked + 1 }
  else
    { cell with
      acc := setField cell.acc 0 24 (satField 0xFFFFFF (field cell.acc 23 0) conv.1 conv.2),
      hg := if g = 0 then cell.hg.set 0 (cell.hg[(0 : Fin 4)] + 1) else cell.hg,
      lg := if g = 1 then cell.lg.set 0 (cell.lg[(0 : Fin 4)] + 1) else cell.lg }

/-- The latch value and the over-range mark of a conversion (R34, R39–R41): `q` is the photodiode's charge, `inj` what is injected beside the
pedestal, in 1/1,000 e⁻. -/
def convert (h : CtxHalf) (g : Fin 2) (ramp : RampOf) (q inj : Nat) : Nat × Bool :=
  latchOf g ramp.code.au ramp.code.table ramp.trim ((Nat.min q (fullWell g) : Nat) + 1000 * cPed h g + inj)

/-- The ramps of a gain and the dark charges over the active columns. -/
def rampStrip (w : TickWork) (g : Fin 2) : Strip (RampOf × Nat) :=
  stripNorm ((List.range 8).map fun y => (2048, (w.ramp[finOf 16 (2 * y + g.val)], w.dark[finOf 8 y])))

/-- The conversions of a row: latch values and over-range marks of its active columns (R32, R40). -/
def convertRow (w : TickWork) (r : Nat) : Strip (Nat × Bool) :=
  let g := rowGain w.half r
  stripWith (fun ramp q => convert w.half g ramp.1 (q + ramp.2) 0) (rampStrip w g) (stripNorm (lightStrip w.light w.window r 0 16384))

/-- Reference column `i` of L0–L31, H0–H31: its gain, and whether charge is injected (R53). -/
def refGain (i : Nat) : Fin 2 := if i % 4 < 2 then 0 else 1
def refInjected (i : Nat) : Bool := i % 2 = 1
/-- The yard of a reference column. -/
def refYard (i : Nat) : Nat := i % 32 / 4

/-- A reference column's conversion (R32, R53). `q` is its injected charge in e⁻. -/
def refConvert (w : TickWork) (light : Nat) (q i : Nat) : Nat × Bool :=
  let g := refGain i
  convert w.half g w.ramp[finOf 16 (2 * refYard i + g.val)] (light + w.dark[finOf 8 (refYard i)]) (if refInjected i then 1000 * q else 0)

/-- A reference column's cell after the tick: F1 layout, all 256 stages (R54). -/
def refStep (w : TickWork) (conv : Nat × Bool) (i : Nat) (base : Cell) : Cell :=
  if w.clear then Cell.clear
  else if w.settling (refGain i) then base
  else
    let sum := setField base.acc 0 24 (field base.acc 23 0 + conv.1)
    { base with acc := if conv.2 then setBit sum 24 true else sum }

/-- The measured Q of a reference column in electrons: entry 2y + side of the table of its gain (R53). -/
def refQ (qH qL : Strip Nat) (i : Nat) : Nat :=
  (stripGet? (if refGain i = 0 then qH else qL) (2 * refYard i + i / 32)).getD 0

/-- The conversions of a row's reference columns. -/
def refsConvert (w : TickWork) (qH qL : Strip Nat) (r : Nat) : Vector (Nat × Bool) 64 :=
  let light := lightStrip w.light w.window r 16384 64
  Vector.ofFn fun i : Fin 64 => refConvert w ((stripGet? light i.val).getD 0) (refQ qH qL i.val) i.val

/-- Row `r` after the tick, from the rows before it (R63). `codes` is the row's part of the active stall-map set. Every stall converts and
latches (R32, R48). A clear tick leaves the counts of SETTLE to go on (R83). -/
def rowStep (w : TickWork) (qH qL : Strip Nat) (before : Vector Row 256) (codes : Strip Nat) (r : Fin 256) : Row :=
  let entry := stageOf w.dir r.val = 0
  let from_ : Row :=
    if entry then Row.clear
    else if w.dir then before[finOf 256 (r.val + 1)] else before[finOf 256 (r.val - 1)]
  let own := before[r]
  let inW := inWindow w.half (stageOf w.dir r.val)
  let g := rowGain w.half r.val
  let conv := convertRow w r.val
  let work : Strip (Nat × (Nat × Bool)) := stripWith (fun a b => (a, b)) codes conv
  let refConv := refsConvert w qH qL r.val
  let refs : Vector Cell 64 := Vector.ofFn fun i => refStep w refConv[i] i.val from_.refs[i]
  let latch := stripNorm (stripMap (fun p => BitVec.ofNat 16 p.1) conv)
  let refLatch := refConv.map fun p => BitVec.ofNat 16 p.1
  let hurt : BitVec 2 := setBit (setBit from_.refBad 0 (bit from_.refBad 0 || w.settling 0)) 1 (bit from_.refBad 1 || w.settling 1)
  if w.frame then
    if w.handOver then
      { walk := if inW && !w.clear then stripMap (fun c => { c with acc := c.acc <<< 24 }) own.expo else Row.clear.walk,
        expo := Row.clear.expo, refs := refs, settle := if inW then own.expoSettle else 0, expoSettle := 0, refBad := hurt,
        latch := latch, refLatch := refLatch }
    else
      { walk := if w.clear then Row.clear.walk else from_.walk,
        expo := if w.adding && inW then
            stripNorm (stripWith (fun c p => exposeStep w r.val c p.1 p.2) own.expo work)
          else if w.clear then Row.clear.expo else own.expo,
        refs := refs, settle := from_.settle,
        expoSettle := if w.adding && inW && w.settling g then own.expoSettle + 1 else own.expoSettle, refBad := hurt,
        latch := latch, refLatch := refLatch }
  else
    { walk := stripNorm (stripWith (fun c p => stallStep w r.val c p.1 p.2) from_.walk work),
      expo := own.expo, refs := refs, settle := if inW && w.settling g then from_.settle + 1 else from_.settle,
      expoSettle := own.expoSettle, refBad := hurt, latch := latch, refLatch := refLatch }

/-- The whole array after a tick. -/
def arrayStep (w : TickWork) (qH qL : Strip Nat) (before : Vector Row 256) (map : MapSet) : Vector Row 256 :=
  let codes : Vector (Strip Nat) 256 := map.getD (Vector.replicate 256 [(16384, 0)])
  Vector.ofFn fun r => rowStep w qH qL before codes[r] r

/-- The row that hands its sum to the yard link (R63). -/
def exitRow (dir : Bool) : Fin 256 := if dir then 0 else 255

/-- The tick with every contribution 0: walk and hand-over only (R356). -/
def walkOnly (dir : Bool) (before : Vector Row 256) : Vector Row 256 :=
  Vector.ofFn fun r : Fin 256 =>
    let from_ : Row :=
      if stageOf dir r.val = 0 then Row.clear
      else if dir then before[finOf 256 (r.val + 1)] else before[finOf 256 (r.val - 1)]
    { from_ with expo := (before[r]).expo, expoSettle := (before[r]).expoSettle, latch := (before[r]).latch,
                 refLatch := (before[r]).refLatch }

/-- Two lead halves differ in what makes a format change (R82). -/
def formatDiffers (a b : CtxHalf) : Bool :=
  cFmt a ≠ cFmt b || cStageFirst a ≠ cStageFirst b || cStageCount a ≠ cStageCount b || cAu a ≠ cAu b
    || (cFmt b = 2 && cPreshift a ≠ cPreshift b)
    || (cFmt b ≠ 0 &&
        (cRowGroup a ≠ cRowGroup b || cSeqLen a ≠ cSeqLen b
          || ((List.range (cSeqLen b)).any fun e => cEntry a e ≠ cEntry b e)
          || ((List.range 8).any fun g => cRowField a g ≠ cRowField b g)
          || cFo3 a ≠ cFo3 b))

/-- Two lead halves differ in what restarts the sequence position (R75). -/
def sequenceDiffers (a b : CtxHalf) : Bool :=
  cRowGroup a ≠ cRowGroup b || cSeqLen a ≠ cSeqLen b || (List.range (cSeqLen b)).any fun e => cEntry a e ≠ cEntry b e

end Sys2Proof.Machine
end

