-- ==== Sys2Proof/Machine/LeadOps.lean ====
section
/-! DEFINITION. The lead context of a tick: the mode's rules for a context (R74, R104, R105), what a coming tick applies (R98, R100, R101, R136) and
the sequence entry it adds under (R75). -/

namespace Sys2Proof.Machine

/-- A half breaks a rule that a mode sets for its lead context (R74, R78, R104, R105). -/
def modeBad (m : Mode) (h : CtxHalf) : Bool :=
  match m with
  | .line => cFmt h ≠ 0
  | .field => !(cFmt h = 1 || cFmt h = 2) || cRowGroup h
  | .split =>
    cFmt h ≠ 1 || !cRowGroup h || ((List.range 8).any fun g => cRowField h g ≠ (if cRowLg h g then 1 else 0))
      || (ctxDirs h).any (fun d => !bothGains h d) || (cAu h).val < 2
  | .frame =>
    cFmt h ≠ 0 || cStageFirst h + cStageCount h ≠ 256 || cDirMode h = 2 || cFramePer h < cStageCount h
      || cFramePer h < cFrameExp h + 1
  | .boot | .standby | .ready | .maint => false

/-- A half may not be applied as the lead half of a mode: it breaks a rule of the context alone or of the mode. -/
def leadBad (m : Mode) (h : CtxHalf) : Bool := ctxAloneBad h || modeBad m h

/-- The active half of a context. -/
def State.active (s : State) (c : CtxIx) : CtxHalf := (vget s.ctx c).active

/-- A swap of a context is due at LT k: its line has come, or a command applies the context there (R136). -/
def Ctx.dueAt (x : Ctx) (k : Nat) (applied : Bool) : Bool :=
  match x.sched with
  | some (l, _) => applied || l ≤ k
  | none => false

/-- The lead context of the coming tick where no command names another: the one set by a completed transition, or else that of the latest tick. -/
def State.leadCtx (s : State) : CtxIx := s.mode.nextLead.getD s.sensor.lead

/-- What a transition does to the array at LT k. -/
inductive TickEvent where
  | none
  | enter (p : Pending)
  | switch (p : Pending)
  | leave (p : Pending)
  | drained (p : Pending)
  deriving DecidableEq, Repr

/-- The part of the pending transition that LT k carries out (R96–R101): an entry at the next possible line (START 0) waits for its stall
map's load, an entry at a named line does not (R50). -/
def State.tickEvent (s : State) (k : Nat) : TickEvent :=
  match s.mode.pending with
  | none => .none
  | some p =>
    match p.phase with
    | .timed => .none
    | .enter start => if start ≤ k && (start ≠ 0 || !s.sensor.loading) then .enter p else .none
    | .switch start => if start ≤ k then .switch p else .none
    | .exit_ start => if start ≤ k then .leave p else .none
    | .drain _ end_ => if end_ ≤ k then .drained p else .none

/-- The mode the array runs in: READY from LT s of an exit on (R101). -/
def State.arrayMode (s : State) : Mode :=
  match s.mode.pending with
  | some p => match p.phase with
    | .drain .. => .ready
    | _ => s.mode.mode
  | none => s.mode.mode

/-- The lead context of LT k, whether a command applies it there, and the mode that the array then runs in. -/
def State.leadOf (s : State) (k : Nat) : CtxIx × Bool × Mode :=
  match s.tickEvent k with
  | .enter p | .switch p => (p.ctx, true, p.target)
  | .leave _ | .drained _ => (s.leadCtx, s.mode.nextLead.isSome, .ready)
  | .none => (s.leadCtx, s.mode.nextLead.isSome, s.arrayMode)

/-- The half that a context has at LT k: its scheduled shadow where the swap is due and allowed (R90, R136). -/
def State.halfAt (s : State) (k : Nat) (c : CtxIx) (applied : Bool) (bad : CtxHalf → Bool) : CtxHalf :=
  let x := vget s.ctx c
  if x.dueAt k applied && !bad x.shadow then x.shadow else x.active

/-- LT k is the first LT of a streaming mode: an entry, or a switch to another mode. -/
def State.startsMode (s : State) (k : Nat) : Bool :=
  match s.tickEvent k with
  | .enter _ => true
  | .switch p => p.target ≠ s.mode.mode
  | _ => false

/-- The sequence position after `pos` of a tick that applies half h, `old` the half of the tick before (R75): 0 at the first LT of a streaming
mode and where the sequence changes. -/
def posNext (first : Bool) (old : Option CtxHalf) (pos : Fin 16) (h : CtxHalf) : Fin 16 :=
  match old with
  | none => 0
  | some o => if first || sequenceDiffers o h then 0 else finOf 16 ((pos.val + 1) % cSeqLen h)

/-- The sequence position of LT k, which applies half h (R75). With ROWGROUP and in F1, where R75 gives no position, it goes on counting the same way:
DESIGN CHOICE, log entry 66. -/
def State.posAt (s : State) (k : Nat) (h : CtxHalf) (given : Option (Fin 16)) : Fin 16 :=
  given.getD (posNext (s.startsMode k) s.sensor.leadHalf s.sensor.pos h)

/-- The phase of a FRAME tick: ticks since the latest hand-over (R106, R107). After a swap that changes FRAME_PER it counts from the entry line modulo
the new period: DESIGN CHOICE, log entry 68. -/
def framePhase (h : CtxHalf) (enterAt k : Nat) : Nat := (k - enterAt) % (Nat.max 1 (cFramePer h))

/-- The number of the next LT. -/
def State.nextLine (s : State) : Nat := if s.sensor.anyTick then s.sensor.lineNow + 1 else 0

/-- Field sources take turns under a half: FIELD's formats with TIME (R74, R75). -/
def timed (h : CtxHalf) : Bool := cFmt h ≠ 0 && !cRowGroup h

/-- The rejoin that LT k carries out on a follower (R132). -/
def State.rejoinAt (s : State) (k : Nat) : Option (CtxIx × BitVec 4 × Fin 16) :=
  match s.sync.joinAt with
  | some (j, c, m, p) => if j = k then some (c, m, p) else none
  | none => none

/-- The lead context, whether it is applied anew, and the mode of the array at LT k, which may be a rejoin's (R132). -/
def State.leadAt (s : State) (k : Nat) : CtxIx × Bool × Mode :=
  match s.rejoinAt k with
  | some (c, m, _) => (c, true, (modeOf m.toNat).getD s.mode.mode)
  | none => s.leadOf k

/-- The line of the next tick to fire: a follower that waits for its rejoin fires none before J. -/
def State.comingLine (s : State) : Nat :=
  match s.tick.due.head?.bind fun d => d.line, s.sync.joinAt with
  | some k, _ => k
  | none, some (j, _) => j
  | none, none => s.nextLine

/-- The entry and position of the next tick to fire, as the strobe engines see them (R379): 0 and 0 in LINE, SPLIT and FRAME and under
ROWGROUP. -/
def State.nextEntry (s : State) : Nat × Nat :=
  let due := s.tick.due.head?
  let k := s.comingLine
  let (c, applied, m) := s.leadAt k
  let h := s.halfAt k c applied (leadBad m)
  if !timed h then (0, 0)
  else
    let p := s.posAt k h (((s.rejoinAt k).map fun j => j.2.2) <|> due.bind fun d => d.pos)
    (cEntry h p.val, p.val)

/-- The context and half whose shutter and grooming registers serve field f under lead context c (R66, R136). -/
def servingCtx (c : CtxIx) (h : CtxHalf) (f : Nat) : CtxIx := if timed h && 1 ≤ f && f ≤ 3 then cServe h f else c

end Sys2Proof.Machine
end

