-- ==== Sys2Proof/Machine/TickGen.lean ====
section
/-! DEFINITION. The tick generator: requests from the encoders and the internal period, the commit horizon and the overspeed policy (R111, R118–R124). -/

namespace Sys2Proof.Machine

/-- Fields of TICK_CFG and SYNC_CFG (R134). -/
def State.src (s : State) : Nat := field s.tick.cfg 2 0
def State.dropPolicy (s : State) : Bool := bit s.tick.cfg 4
def State.lagLimit (s : State) : Nat := field s.tick.cfg 15 8
def State.leadNs (s : State) : Nat := field s.sync.cfg 31 16
/-- ROLE (R134); before PHASE READY the sync inputs are ignored, as on a standalone device (R438). -/
def State.role (s : State) : Nat := if s.mode.mode = .boot then 0 else field s.sync.cfg 15 14

/-- A leader of a string that has formed, a follower in it (R129), and one that holds the string's time (R97, R129). -/
def State.isLeader (s : State) : Bool := s.role = 1 && s.sync.state = .locked
def State.isFollower (s : State) : Bool := s.role = 2 && (s.sync.state = .locked || s.sync.state = .lost)
def State.lockedFollower (s : State) : Bool := s.role = 2 && s.sync.state = .locked

/-- The sync link changed. -/
def State.onSync (s : State) (f : SyncLink → SyncLink) : State := { s with sync := f s.sync }

/-- The whole tick source stands still: nothing requested, nothing committed. -/
def TickSource.clear (x : TickSource) : TickSource := { x with request := none, due := [], perLast := none }

/-- The encoder channel of the source. -/
def State.srcChannel (s : State) : Option EncIx := if s.src = 1 then some 0 else if s.src = 2 then some 1 else none

/-- The minimum line period that the policy keeps: in a string, the largest of any device (R123). -/
def State.tickLp (s : State) : Nat := if s.isLeader then Nat.max s.minLp s.sync.maxLp else s.minLp

/-- The horizon HZ at which ticks are committed (R120). -/
def State.horizon (s : State) : Nat :=
  let h := s.active s.leadCtx
  let trail (c : CtxIx) : Nat := if cShutMode (s.active c) then cShutNs (s.active c) + 16 else 0
  let used := s.leadCtx :: (if timed h then [1, 2, 3].map (cServe h) else [])
  (used.map trail).foldl Nat.max s.leadNs

/-- Ticks may be requested and committed (R96, R122, R134). -/
def State.ticksAsked (s : State) : Bool := s.ticksMayFire && !s.mode.stopTicks && !s.tick.stopped

/-- The instant of the last tick committed, or else fired. -/
def State.lastInst (s : State) : Option Nat :=
  match s.tick.due.getLast? with
  | some d => some d.inst
  | none => if s.sensor.anyTick then some s.sensor.lastTb else none

/-- The newest edges' window W (R119). -/
def TickSource.win (x : TickSource) : Nat := 2 ^ field x.pred 2 0

/-- The time of edge `n` back from the newest. -/
def TickSource.edgeT (x : TickSource) (n : Nat) : Option Nat := (x.edges[n]?).map (·.t)

/-- The predictor is valid: 2W edges share the accepted direction of motion (R118, R119). -/
def TickSource.valid (x : TickSource) : Bool :=
  2 * x.win ≤ x.edges.length && (match x.edges.head?, x.motion with
    | some e, some m => e.up = m
    | _, _ => false)

/-- The next boundary in direction `up` from position `p`, in 1/65,536 count (R118): the first not yet crossed and not yet asked for. A pending
request keeps its own until it is committed; boundaries that an edge has passed before they were asked for are skipped: DESIGN CHOICE, log entry
97. -/
def TickSource.nextBoundary (x : TickSource) (up : Bool) (p : Int) : Int :=
  let r : Int := x.ratio.toNat
  let first : Int := if up then x.p0 + ((p - x.p0) / r + 1) * r else x.p0 - ((x.p0 - p) / r + 1) * r
  let fresh : Int := match x.asked with
    | some (b, d) => if d = up && (if up then first ≤ b else b ≤ first) then (if up then b + r else b - r) else first
    | none => first
  match x.request with
  | some q => match q.boundary with
    | some b => if q.dir != up then b else fresh
    | none => fresh
  | none => fresh

/-- A value held within ±`m`. -/
def clampRat (m x : Rat) : Rat := if x < -m then -m else if m < x then m else x

/-- The acceleration bound in counts/ns² (R134). -/
def TickSource.accMax (x : TickSource) : Rat := (field x.pred 31 16 * 65536 : Nat) / (10 ^ 18 : Nat)

/-- The request for boundary `b` at TB `now` (R119): velocity over W edges, acceleration over 2W, the correction clamped to a quarter. An instant that
lies in the past already counts as the present TB: DESIGN CHOICE, log entry 73. -/
def TickSource.instant (x : TickSource) (up : Bool) (b : Int) (now : Nat) : Option Nat :=
  match x.edges.head?, x.edgeT x.win with
  | some e, some tw =>
    if e.t ≤ tw then none
    else
      let w : Rat := (x.win : Nat)
      let sg : Rat := if up then 1 else -1
      let v0 := sg * w / ((e.t - tw : Nat) : Rat)
      let a0 : Rat := match x.edgeT (2 * x.win) with
        | some t2 => if tw ≤ t2 then 0 else 2 * (v0 - sg * w / ((tw - t2 : Nat) : Rat)) / ((e.t - t2 : Nat) : Rat)
        | none => 0
      let quiet : Rat := ((now - e.t : Nat) : Rat)
      let late := 2 < quiet * (if up then v0 else -v0)
      let v := if late then sg / quiet else v0
      let a := if late then 0 else clampRat x.accMax a0
      let d : Rat := (b : Rat) / 65536 - (e.pos : Rat)
      let t0 := d / v
      let quarter := (if t0 < 0 then -t0 else t0) / 4
      let tau := t0 - clampRat quarter (a * t0 * t0 / (2 * v))
      some (Nat.max now ((e.t : Rat) + tau + 1 / 2).floor.toNat)
  | _, _ => none

/-- The request that the generator holds at TB `now`. -/
def TickSource.predict (x : TickSource) (now : Nat) : Option TickReq :=
  match x.edges.head? with
  | some e =>
    if x.valid && x.ratio ≠ 0 then
      let b := x.nextBoundary e.up (e.pos * 65536)
      (x.instant e.up b now).map fun t => { inst := t, dir := !e.up, boundary := some b }
    else none
  | none => none

/-- The request of the internal period (R122): PER_NS after the later of selection and ticks becoming allowed, then PER_NS after the previous
tick. -/
def State.periodRequest (s : State) : Option TickReq :=
  match s.tick.allowed with
  | none => none
  | some a =>
    let from_ := Nat.max s.tick.since a
    let base := match s.tick.perLast with
      | some l => Nat.max l from_
      | none => from_
    some { inst := base + s.tick.per.toNat, dir := false, boundary := none }

/-- The request of the selected source, where ticks are asked for: a trigger requests by its edges alone. -/
def State.refreshRequest (s : State) : State :=
  let q := if !s.ticksAsked then none
    else if s.srcChannel.isSome then s.tick.predict s.tb
    else if s.src = 4 then s.periodRequest
    else none
  { s with tick := { s.tick with request := q } }

/-- The sequence position of the tick after those in `due` (R75, R127), each under the half it will apply: `old` is the half before. -/
def State.posAhead (s : State) : List DueTick → Nat → Option CtxHalf → Fin 16 → Bool → Fin 16
  | ds, k, old, pos, entered =>
    let (c, applied, m) := s.leadOf k
    let h := s.halfAt k c applied (leadBad m)
    let first := s.startsMode k
    let pos' := posNext (first && !entered) old pos h
    match ds with
    | [] => pos'
    | _ :: rest => s.posAhead rest (k + 1) (some h) pos' (entered || first)

/-- A message of the sync link as raw bytes: type, payload, CRC-16 (R126). -/
def syncFrame (type : Byte) (payload : List Byte) : List Byte :=
  let b := type :: payload
  b ++ bytesLe 2 (crcMsb (n := 16) 0x1021 0xFFFF b).toNat

/-- A frame leaves down or up: the sync transmitters run on OUT5 of PLL-A, and stop with it (R353, R356). -/
def State.passDown (s : State) (frame : List Byte) : State :=
  if s.pllaOut 5 then s.onSync fun y => { y with sentDown := y.sentDown ++ [frame] } else s
def State.txUp (s : State) (frame : List Byte) : State :=
  if s.pllaOut 5 then s.onSync fun y => { y with sentUp := y.sentUp ++ [frame] } else s

/-- A message passed on up as it came (R126): by a follower alone. -/
def State.passUp (s : State) (frame : List Byte) : State := if s.role = 2 then s.txUp frame else s

/-- Messages sent down and up by the step. -/
def State.sendDown (s : State) (type : Byte) (payload : List Byte) : State := s.passDown (syncFrame type payload)
def State.sendUp (s : State) (type : Byte) (payload : List Byte) : State := s.txUp (syncFrame type payload)

/-- A follower that JOIN_AT concerns (R132): lost, or aligned anew after it was powered off, with its link up and its time aligned. One that waits
for its J already keeps that J: DESIGN CHOICE, log entry 99. -/
def State.mayJoin (s : State) : Bool :=
  (s.sync.state = .lost || s.sync.state = .aligned) && s.sync.joinAt.isNone && s.sync.upLock && s.sync.aligned && !s.mode.deep

/-- A lost follower that is aligned asks to join (R132): again, after a restart of its firmware has dropped the rejoin that it waited for (DESIGN
CHOICE, log entry 99). -/
def State.askJoin (s : State) : State := if s.role = 2 && s.mayJoin then s.sendUp 0x0B [s.sync.pos.setWidth 8] else s

/-- A follower that is LOCKED, or that waits for its rejoin at J, loses sync (R131): no further tick, LOST down and up, state LOST, a report. A
switch that waits for its line is dropped. -/
def State.syncLose (s : State) : State :=
  if s.role ≠ 2 || !(s.sync.state = .locked || s.sync.joinAt.isSome) then s
  else
    let pos := s.sync.pos.setWidth 8
    let s := { s with tick := s.tick.clear }
    let s := if s.sync.switch.isSome then { s with mode := { s.mode with pending := none } } else s
    let s := s.onSync fun y => { y with
      state := .lost, losses := satInc y.losses, joinAt := none, switch := none, thetas := [], delays := [], rejoining := false }
    (((s.sendDown 0x0A [pos]).sendUp 0x0A [pos])).report .sync

/-- A follower's link above is gone (R92, R131): a LOCKED one has lost sync, one not yet LOCKED begins again. -/
def State.linkGone (s : State) : State :=
  if s.role ≠ 2 then s
  else
    let s := s.syncLose
    let back : SyncState := if s.sync.state = .lost then .lost else .down
    s.onSync fun y => { y with upLock := false, t1 := none, thetas := [], delays := [], aligned := false, rejoining := false, state := back }

/-- CTX_AT goes down the string and the switch waits for its answers (R130). -/
def State.sendSwitch (s : State) (line : Nat) (ctx : CtxIx) (mode : Mode) (slot : Option Slot) : State :=
  if !s.isLeader then s
  else
    let tag := s.sync.tag + 1
    let s := s.onSync fun y => { y with
      tag := tag, switch := some { line := line, ctx := ctx, mode := mode.code, tag := tag, answers := [], slot := slot } }
    s.sendDown 0x02 (bytesLe 6 line ++ [BitVec.ofNat 8 (ctx.val + 16 * mode.code.toNat), tag])

/-- The positions whose J has come are LOCKED again (R132). -/
def SyncLink.rejoined (y : SyncLink) (k : Nat) : SyncLink :=
  { y with lostPos := y.lostPos.filter (fun p => !y.joins.any fun j => j.1 = p && j.2 ≤ k), joins := y.joins.filter fun j => k < j.2 }

/-- The positions whose answers the leader still waits for (R130, R131): those it holds as LOCKED. -/
def SyncLink.awaited (y : SyncLink) : List Nat := ((List.range y.devices).drop 1).filter fun p => !y.lostPos.contains p

/-- The status of a string switch when tick L is committed (R130): OK, the first other status, or TIMEOUT for a missing answer. -/
def SyncLink.verdict (y : SyncLink) (w : StringSwitch) : Byte :=
  match w.answers.find? fun a => a.2 ≠ 0 with
  | some a => a.2
  | none => if y.awaited.all fun p => w.answers.any fun a => a.1 = p then stOk else stTimeout

/-- A string switch whose move does not take place ends (R130): a leader tells the string so. -/
def State.cancelSwitch (s : State) : State :=
  match s.sync.switch with
  | none => s
  | some w =>
    let s := s.onSync fun y => { y with switch := none }
    if s.isLeader then s.sendDown 0x04 [w.tag] else s

/-- The leader settles a string switch (R130): without every OK it is cancelled everywhere, and `drop` ends it here. -/
def State.settle (s : State) (w : StringSwitch) (drop : State → State) : State :=
  let st := s.sync.verdict w
  let s := s.onSync fun y => { y with switch := none }
  if st = stOk then s else (drop (s.sendDown 0x04 [w.tag])).answerTo w.slot st []

/-- The leader commits tick L of a string switch (R130). -/
def State.settleSwitch (s : State) (line : Nat) : State :=
  match s.sync.switch with
  | none => s
  | some w => if w.line ≠ line then s else s.settle w fun s => { s with mode := { s.mode with pending := none } }

/-- The TICK message of a committed tick (R126, R127). -/
def State.sendTick (s : State) (d : DueTick) (line : Nat) (pos : Fin 16) : State :=
  if s.isLeader then
    s.sendDown 0x01 (bytesLe 8 d.inst ++ bytesLe 6 line ++ [BitVec.ofNat 8 (pos.val + if d.dir then 16 else 0)])
  else s

/-- A dropped request (R123, R124): the internal period counts on from it (R122). -/
def State.dropRequest (s : State) (q : TickReq) : State :=
  { s with tick := { s.tick with drops := satInc s.tick.drops, slip := true, request := none,
                                 asked := match q.boundary with
                                   | some b => some (b, !q.dir)
                                   | none => s.tick.asked,
                                 perLast := if s.src = 4 then some q.inst else s.tick.perLast } }

/-- A tick is committed for request `q` under the overspeed policy (R120, R123): deferred requests fire one per minimum LP. -/
def State.commit (s : State) (q : TickReq) : State :=
  let waiting := (s.tick.due.filter fun d => q.inst < d.inst).length
  let (early, inst) := match s.lastInst with
    | some l => (decide (q.inst < l + s.tickLp), Nat.max q.inst (l + s.tickLp))
    | none => (false, q.inst)
  if early && (s.dropPolicy || s.lagLimit < waiting) then s.dropRequest q
  else
    let d : DueTick := { inst := inst, req := q.inst, dir := q.dir, line := none, pos := none, slip := s.tick.slip }
    let line := s.nextLine + s.tick.due.length
    let mark := q.boundary.map fun b => (b, !q.dir)
    let x := s.tick
    let x := { x with due := x.due ++ [d], slip := false, request := none,
                      last := if mark.isSome then mark else x.last, asked := if mark.isSome then mark else x.asked,
                      perLast := if s.src = 4 then some inst else x.perLast }
    let s := s.settleSwitch line
    let pos := s.posAhead s.tick.due s.nextLine s.sensor.leadHalf s.sensor.pos false
    State.sendTick { s with tick := x } d line pos

/-- The requests whose commit time has come are committed, each followed by the next (R120). -/
def State.commitDue : Nat → State → State
  | 0, s => s
  | n + 1, s =>
    let s := s.refreshRequest
    match s.tick.request with
    | none => s
    | some q => if q.inst ≤ s.tb + s.horizon then (s.commit q).commitDue n else s

/-- The generator runs at the present TB: at most 4,096 commits at one instant. -/
def State.runGenerator (s : State) : State := s.commitDue 4096

end Sys2Proof.Machine
end

