-- ==== Sys2Proof/Machine/CtxRules.lean ====
section
/-! DEFINITION. What a context must keep to be applied or scheduled (R36, R43, R50, R52), the writes of a context that are held by a lock (R135–R139,
R273, R274), and the MRAM write budget of what they commit (R328). -/

namespace Sys2Proof.Machine

/-- A context changed. -/
def State.onCtx (s : State) (c : CtxIx) (f : Ctx → Ctx) : State := { s with ctx := vmod s.ctx c f }

/-- The answer of CTX_SCHEDULE: the line, most significant byte first (R273). -/
def State.answerSched (s : State) (slot : Option Slot) (status : Byte) (line : Nat) : State := s.answerTo slot status (bytesBe 6 line)

/-- An item's newest commit is written to MRAM (R324, R328). -/
def State.nvWrite (s : State) (i : NvItem) : State :=
  let m := s.nvm
  match i with
  | .storedCtx k => { s with nvm := { m with storedCopy := vset m.storedCopy k (vget m.stored k) } }
  | .codeTable g k => { s with nvm := { m with codeCopy := vmod m.codeCopy g fun v => vset v k (vget (vget s.sensor.tables g) k) } }
  | .columnTable k => { s with nvm := { m with columnCopy := vset m.columnCopy k (vget s.groom.columns k) } }
  | .defectTable k => { s with nvm := { m with defectCopy := vset m.defectCopy k (vget s.groom.defects k) } }
  | .lookupTable k => { s with nvm := { m with lutCopy := vset m.lutCopy k (vget s.groom.luts k) } }

/-- An item was committed in RAM: it is written at once, or when its interval ends (R328). -/
def State.nvCommit (s : State) (i : NvItem) : State :=
  if s.nvm.recent.contains i then { s with nvm := { s.nvm with dirty := i :: s.nvm.dirty.filter (· ≠ i) } }
  else let s := s.nvWrite i; { s with nvm := { s.nvm with recent := i :: s.nvm.recent } }

/-- The half that a context will have once it is applied: its shadow where a swap is scheduled (R98, R136). -/
def State.comingHalf (s : State) (c : CtxIx) : CtxHalf :=
  let x := vget s.ctx c
  if x.sched.isSome then x.shadow else x.active

/-- A half names a custom table never loaded, or one written for another AU (R43). -/
def State.tableBad (s : State) (h : CtxHalf) : Bool :=
  (List.finRange 2).any fun g => cTable h g ≠ 0 && (match vget (vget s.sensor.tables g) (cTable h g) with
    | some t => t.au ≠ cAu h
    | none => true)

/-- A half names a stall-map set never loaded (R50). -/
def State.mapBad (s : State) (h : CtxHalf) : Bool := cMapSet h ≠ 0 && (vget s.sensor.maps (cMapSet h)).isNone

/-- A half asks for TRAIL while the tick source is the trigger (R36). -/
def State.trailBad (s : State) (h : CtxHalf) : Bool := cShutMode h && s.src = 3

/-- The contexts of a field sequence must have one set of conversion registers (R52): `h` as a lead half, with `d` taking half `hd`. The contexts
compared are those that serve a field the format carries, whether or not a sequence entry names it, and READY is no exception: DESIGN CHOICE, log entry
71. -/
def State.convMixed (s : State) (h : CtxHalf) (d : Option CtxIx) (hd : CtxHalf) : Bool :=
  timed h && ([1, 2, 3].any fun f => f < cFields h && creg (if d = some (cServe h f) then hd else s.comingHalf (cServe h f)) 0 ≠ creg h 0)

/-- What bars a half from being applied or scheduled, beyond the context's own rules (R36, R43, R50, R52). -/
def State.applyBad (s : State) (h : CtxHalf) : Bool := s.tableBad h || s.mapBad h || s.trailBad h || s.convMixed h none h

/-- The map sets that pending commands hold (R50). -/
def State.heldSets (s : State) : List (Fin 16) :=
  (s.ctx.toList.filterMap fun x => if x.sched.isSome then some (cMapSet x.shadow) else none)
    ++ (match s.mode.pending with
      | some p => match p.phase with
        | .enter _ | .switch _ => [cMapSet (s.comingHalf p.ctx)]
        | .timed => if p.target = .ready then [cMapSet (s.comingHalf p.ctx)] else []
        | _ => []
      | none => [])

/-- A set that is not the active one must be loaded into the shadow (R50). -/
def State.needsLoad (s : State) (m : Fin 16) : Bool := m ≠ s.sensor.activeSet

/-- The shadow set is held for another set than `m` (R50). -/
def State.shadowHeld (s : State) (m : Fin 16) : Bool :=
  s.needsLoad m && s.sensor.shadowSet ≠ m && s.heldSets.any fun x => x ≠ s.sensor.activeSet && x = s.sensor.shadowSet

/-- The shadow load for a set starts where none is needed no longer (R50): a set that the shadow holds needs no new load. -/
def State.loadMap (s : State) (m : Fin 16) : State :=
  if !s.needsLoad m || (s.sensor.shadowSet = m && (s.sensor.shadowValid || s.sensor.loading)) then s
  else { s with sensor := { s.sensor with shadowSet := m, shadowValid := false, loading := true } }

/-- A line is reached by the present line, or less than `n` after it: before the first tick line 0 is one ahead. -/
def State.tooSoon (s : State) (line n : Nat) : Bool := if s.sensor.anyTick then line < s.sensor.lineNow + n else line + 1 < n

/-- The four bytes of each of twelve values, most significant first (R274). -/
def valuesBytes (v : Vector Word 12) : List Byte := v.toList.flatMap fun w => bytesBe 4 w.toNat

/-- The half that CTX_SET makes (R274): selected registers from the values without their reserved bits. -/
def mergeHalf (sh : CtxHalf) (mask : BitVec 16) (values : Vector Word 12) : CtxHalf :=
  Vector.ofFn fun i => if bit mask i.val then vget values i &&& vget ctxWritable i else vget sh i

/-- The lead context that a pending command is to apply, with its mode (R98, R100). -/
def State.pendingLead (s : State) : Option (CtxIx × Mode) :=
  match s.mode.pending with
  | some p => match p.phase with
    | .enter _ | .switch _ => some (p.ctx, p.target)
    | .timed => if p.target = .ready then some (p.ctx, p.target) else none
    | .exit_ _ | .drain .. => none
  | none => none

/-- The lead contexts of the coming ticks with the modes they lead (R52, R98): the present one and that of a pending command. -/
def State.leads (s : State) : List (CtxIx × Mode) := (s.leadCtx, s.arrayMode) :: s.pendingLead.toList

/-- With half `h` a context breaks a rule of a field sequence that it leads or serves (R52, R74): the halves of a lead context are its active one and the
one that it will have. -/
def State.leadMixed (s : State) (c : CtxIx) (h : CtxHalf) : Bool :=
  s.leads.any fun l =>
    if l.1 = c then leadBad l.2 h || s.convMixed h (some c) h
    else s.convMixed (s.active l.1) (some c) h || s.convMixed (s.comingHalf l.1) (some c) h

/-- The rules that CTX_SCHEDULE applies to a shadow (R36, R43, R50, R52, R74, R274): as lead half of the mode where the context leads. -/
def State.scheduleBad (s : State) (c : CtxIx) (line : Nat) : Bool :=
  let sh := (vget s.ctx c).shadow
  ctxAloneBad sh || s.tableBad sh || s.mapBad sh || s.trailBad sh || s.leadMixed c sh
    || s.tooSoon line 1 || (s.needsLoad (cMapSet sh) && s.tooSoon line 256)

/-- A scheduled swap is cancelled; the waiting CTX_SCHEDULE answers OK with LINE 0 (R273). -/
def State.cancelSwap (s : State) (c : CtxIx) : State :=
  match (vget s.ctx c).sched with
  | none => s
  | some (_, slot) => (s.onCtx c fun x => { x with sched := none }).answerSched slot stOk 0

/-- What a context command does to its context, once no lock holds it (R137, R139, R273, R274): its answer, or none where it waits for its swap.
A rule that a result breaks comes before a frozen shadow (R266). A cancelled swap leaves the
active half, which must keep the rules of a sequence (R52). -/
def State.ctxDo (s : State) (slot : Slot) (c : CtxIx) : CtxWork → Option (Byte × List Byte) × State
  | .write mask values =>
    let x := vget s.ctx c
    let new := mergeHalf x.shadow mask values
    if ctxAloneBad new then (some (stBadParam, []), s)
    else if x.sched.isSome then (some (stNoResource, []), s)
    else (some (stOk, []), s.onCtx c fun x => { x with shadow := new })
  | .schedule line =>
    let x := vget s.ctx c
    if s.scheduleBad c line then (some (stBadParam, []), s)
    else if x.sched.isSome || s.shadowHeld (cMapSet x.shadow) then (some (stNoResource, []), s)
    else (none, (s.loadMap (cMapSet x.shadow)).onCtx c fun x => { x with sched := some (line, some slot) })
  | .cancel =>
    let x := vget s.ctx c
    if x.sched.isSome && s.leadMixed c x.active then (some (stBadParam, []), s) else (some (stOk, []), s.cancelSwap c)
  | .get active => (some (stOk, valuesBytes (if active then (vget s.ctx c).active else (vget s.ctx c).shadow)), s)
  | .store k =>
    let s := { s with nvm := { s.nvm with stored := vset s.nvm.stored k (some (vget s.ctx c).shadow) } }
    (some (stOk, []), s.nvCommit (.storedCtx k))

end Sys2Proof.Machine
end

