-- ==== Sys2Proof/Machine/Grooming.lean ====
section
/-! DEFINITION. The seven grooming stages (R141–R149) and the characterisation of the ramps (R53–R56). -/

namespace Sys2Proof.Machine

/-- The line carries a flag that keeps it out of the statistics and the characterisation (R55, R145, R153): VOID, FORMAT_CHANGE,
PLL_LOST or LOST_SYNC. -/
def flagsBar (fl : BitVec 9) : Bool := bit fl 0 || bit fl 2 || bit fl 4 || bit fl 5

/-- The column table a field uses (R144): built-in table 0 where none is loaded (R140). -/
def columnTable (gr : Groom) (x : ExitLine) (f : Fin 4) : Strip (Int × Nat) :=
  let ix := if x.mode = 5 ∧ f = 1 then cColtabB x.half[(0 : Fin 4)] else cColtab x.half[f]
  gr.columns[ix].getD [(16384, (0, 0x4000))]

def defectTable (gr : Groom) (x : ExitLine) (f : Fin 4) : Strip Bool :=
  gr.defects[cDeftab x.half[f]].getD [(16384, false)]

/-- Stage 1 (R142). -/
def decodeField (h : CtxHalf) (frame : Bool) (f : Fin 4) (acc : BitVec 48) : Nat × Bool :=
  if cFmt h = 0 then
    if frame then let d := field acc 47 24; (d, d = 0xFFFFFF) else (field acc 23 0, bit acc 24)
  else if cFmt h = 1 then let d := (acc.extractLsb' (24 * f.val) 24).toNat; (d, d = 0xFFFFFF)
  else let d := (acc.extractLsb' (12 * f.val) 12).toNat; (d * 2 ^ cPreshift h, d = 0xFFF)

/-- The yard of an active column. -/
def yardOf (c : Nat) : Nat := c / 2048

/-- The offsets of the sixteen yard and gain pairs, by column: HG and LG in 1/4,096 e⁻ (R56, R143). -/
def offsetStrip (rc : Vector Rchar 16) : Strip (Int × Int) :=
  (List.finRange 8).map fun y => (2048, (rc[finOf 16 (2 * y.val)].offset, rc[finOf 16 (2 * y.val + 1)].offset))

/-- Stages 2 and 3 of one pixel (R143, R144): exact in 1/4,096 AU, then rounded to the grid. -/
def normPix (h : CtxHalf) (rescale : Bool) (nom : Nat) (frame : Bool) (f : Fin 4) (defect : Bool) (tab : Int × Nat)
    (ofs : Int × Int) (c : Cell) : Pix :=
  let (d, sat) := decodeField h frame f c.acc
  let nh := c.hg[f]
  let nl := c.lg[f]
  let n := nh + nl
  if sat then { v := 0, sat := true, unrep := false, bad := defect || n = 0 }
  else
    let au : Int := 8 / 2 ^ (cAu h).val
    let x : Int := 4096 * d - nh * (4096 * cPed h 0 * au + ofs.1 * au) - nl * (4096 * cPed h 1 * au + ofs.2 * au)
      - 16 * n * tab.1
    let scaled := if rescale && 0 < n && n < nom then rheDiv (x * nom) (16 * n) else rhe x 4
    { v := rhe (scaled * tab.2) 14, sat := false, unrep := false, bad := defect || n = 0 }

/-- The candidates of stage 4 for a defective column, with twice their gradients, in the order P, L, R (R145). `p2 … r2` are the neighbours,
each with the previous line's pixel of the same column where that line may serve. -/
def replace (p2 p1 : Option (Pix × Option Pix)) (x : Pix × Option Pix) (r1 r2 : Option (Pix × Option Pix)) : Pix :=
  if !x.1.bad || x.1.sat then x.1
  else
    let good (p : Option (Pix × Option Pix)) : Option Int := p.bind fun q => if q.1.bad || q.1.sat then none else some q.1.v
    let prevGood (p : Option (Pix × Option Pix)) : Option Int :=
      p.bind fun q => q.2.bind fun r => if r.bad || r.sat then none else some r.v
    let candP : Option (Int × Int) :=
      match x.2, good p1, prevGood p1, good r1, prevGood r1 with
      | some o, some a, some a', some b, some b' =>
        if o.sat || o.unrep then none else some (((a - a').natAbs : Int) + (b - b').natAbs, o.v)
      | _, _, _, _, _ => none
    let candL : Option (Int × Int) :=
      match good p1, good p2 with
      | some a, some b => some (2 * ((a - b).natAbs : Int), a)
      | _, _ => none
    let candR : Option (Int × Int) :=
      match good r1, good r2 with
      | some a, some b => some (2 * ((a - b).natAbs : Int), a)
      | _, _ => none
    let best := [candP, candL, candR].foldl (fun acc c =>
      match acc, c with
      | none, c => c
      | some a, some b => if b.1 < a.1 then some b else some a
      | some a, none => some a) none
    match best with
    | some b => { x.1 with v := b.2 }
    | none => { x.1 with v := 0, unrep := true }

/-- Stages 1–4 of a field of a line (R142–R145). `prev` is the line before, where it may serve as candidate P. -/
def groomField (gr : Groom) (rc : Vector Rchar 16) (x : ExitLine) (prev : Option (Strip Pix)) (f : Fin 4) : Strip Pix :=
  let h := x.half[(0 : Fin 4)]
  let frame := x.mode = 6
  let nom := nomStages h frame x.dir f.val
  let tabs := stripWith (fun a b => (a, b)) (defectTable gr x f) (columnTable gr x f)
  let base := stripWith (fun a b => (a, b)) tabs (offsetStrip rc)
  let y := stripNorm (stripWith
    (fun (t : (Bool × (Int × Nat)) × (Int × Int)) c => normPix h (cRescale x.half[f]) nom frame f t.1.1 t.1.2 t.2 c) base x.cells)
  let pairs : Strip (Pix × Option Pix) :=
    match prev with
    | none => stripMap (fun p => (p, none)) y
    | some q => stripWith (fun a b => (a, some b)) y q
  stripNorm (stripWindow replace none none (stripSplit pairs))

/-- The line before serves as candidate P (R145): it is the line just before in the same field, it carries none of the flags, and in FRAME the line is
not the first row of its frame. -/
def prevFor (prev : Option Groomed) (x : ExitLine) (f : Fin 4) : Option (Strip Pix) :=
  match prev with
  | none => none
  | some p =>
    if p.line.line + 1 = x.line && !flagsBar p.flags && x.frameRow ≠ some 0 then p.fields[f.val]? else none

/-- GROOM-F of a line (R21): stages 1–4 of every field that the context carries (R458). -/
def groomFront (gr : Groom) (rc : Vector Rchar 16) (stale : Bool) (x : ExitLine) : Groomed :=
  { line := x, flags := setBit x.flags 3 (bit x.flags 3 || stale),
    fields := (List.range (cFields x.half[(0 : Fin 4)])).map fun f => groomField gr rc x (prevFor gr.prev x (finOf 4 f)) (finOf 4 f) }

/-- Stage 5 of one column (R146): the merged value in units of 2^MSHIFT e⁻. `fsA` is V_255 of the HG table in 1/1,000 e⁻. -/
def mergePix (h : CtxHalf) (na nb fsA : Nat) (a b : Pix) : Pix :=
  let au : Int := 2 ^ (cAu h).val
  let x : Int := 1000 * au * a.v
  let lo : Int := 8 * cKneeLo h * na * fsA
  let hi : Int := 8 * cKneeHi h * na * fsA
  let w : Int := if a.sat || hi ≤ x then hi - lo else if x ≤ lo then 0 else x - lo
  let num : Int := ((hi - lo - w) * (au * a.v) * nb + w * (au * b.v) * na) * 256
  let den : Int := (hi - lo) * 8 * na * nb * 2 ^ cMshift h
  let v := rheDiv num den
  if b.sat || 0xFFFFF * 256 < v then { v := 0xFFFFF * 256, sat := true, unrep := a.unrep || b.unrep, bad := a.bad || b.bad }
  else { v := v, sat := false, unrep := a.unrep || b.unrep, bad := a.bad || b.bad }

/-- Stage 5 of a line: in SPLIT the merged value takes the place of field A. -/
def mergeFields (hgTable : Option CodeTable) (x : ExitLine) (fields : List (Strip Pix)) : List (Strip Pix) :=
  let h := x.half[(0 : Fin 4)]
  match decide (x.mode = 5), fields with
  | true, [a, b] =>
    let na := nomStages h false x.dir 0
    let nb := nomStages h false x.dir 1
    [stripNorm (stripWith (mergePix h na nb (fullScaleMilli 0 hgTable)) a b), b]
  | _, fs => fs

/-- u of stage 7 (R148). -/
def outU16 (h : CtxHalf) (p : Pix) : Nat :=
  if p.sat then 65535
  else (clampInt 0 65535 (rhe (p.v * cOscale h) (8 + cOshift h) + cOblack h)).toNat

/-- The code of stage 7 in the field's format (R148). -/
def outCode (h : CtxHalf) (lut : Strip Nat) (u : Nat) : Nat :=
  if cOfmt h = 1 then Nat.min 4095 ((isqrt (1024 * u) + 1) / 2)
  else if cOfmt h = 2 then (stripGet? lut (u / 16)).getD 0
  else u

/-- The content of built-in look-up table 0 (R140). -/
def lutZero : Strip Nat := (List.range 256).map fun i => (16, i)

/-- Stage 6 of a group of columns (R147). -/
def binPix (ps : List Pix) : Pix :=
  { v := ps.foldl (fun acc p => acc + p.v) 0, sat := ps.any (·.sat), unrep := ps.any (·.unrep), bad := ps.any (·.bad) }

/-- Stages 6 and 7 of a field: the stream's output codes. RAW48 keeps the U16 codes for the statistics (R153). -/
def formatField (gr : Groom) (h : CtxHalf) (ps : Strip Pix) : Strip Code :=
  let lut := gr.luts[cLut h].getD lutZero
  let binned := stripMap binPix (stripGroups (cBin h) (8 * ps.length + 8) ps)
  stripNorm (stripMap (fun p => let u := outU16 h p; { code := outCode h lut u, u := u, sat := p.sat }) binned)

/-- The half whose grooming registers stages 6 and 7 use for a field: that of its serving context. -/
def outHalf (x : ExitLine) (f : Nat) : CtxHalf := x.half[finOf 4 f]

/-- GROOM-B of a line (R21): stages 5–7 and the line feed (R149). -/
def groomBack (gr : Groom) (hgTable : Option CodeTable) (g : Groomed) : Formatted :=
  let merged := mergeFields hgTable g.line g.fields
  { line := g.line, flags := g.flags,
    feed := merged.zipIdx.map fun p => stripNorm (stripMap (outU16 (outHalf g.line p.2)) p.1),
    codes := merged.zipIdx.map fun p => formatField gr (outHalf g.line p.2) p.1,
    unrep := g.fields.map (stripSum fun p => if p.unrep then 1 else 0), firsts := [] }

/-- The check of one side of one yard and gain (R55): the dark and injected sums in AU where both pass. -/
def sideSums (x : ExitLine) (y : Nat) (g : Fin 2) (q : Nat) (side : Nat) : Option (Nat × Nat) :=
  let h := x.half[(0 : Fin 4)]
  let at_ (i : Nat) := (x.refs[finOf 64 (32 * side + 4 * y + 2 * g.val + i)]).acc
  let sd := field (at_ 0) 23 0
  let si := field (at_ 1) 23 0
  let au : Int := 2 ^ (cAu h).val
  let dark := au * sd - 2048 * cPed h g
  let inj := au * ((si : Int) - sd)
  let want : Int := 2048 * q
  if bit (at_ 0) 24 || bit (at_ 1) 24 then none
  else if 1024 < dark.natAbs then none
  else if 3 * want < 100 * ((inj - want).natAbs : Int) then none
  else some (sd, si)

/-- The characterisation of one yard and gain from a line (R55, R56). DESIGN CHOICE (log entry 65): the gain
error is rounded to whole ppm half to even, a step adds the window's mean to the trim, and each step begins a new
window of 1,024; AGE_MS counts from the TB of the line's exit LT. -/
def characterise (qH qL : Strip Nat) (x : ExitLine) (flags : BitVec 9) (i : Fin 16) (rc : Rchar) : Rchar × Bool :=
  let y := i.val / 2
  let g : Fin 2 := finOf 2 i.val
  let h := x.half[(0 : Fin 4)]
  let q (side : Nat) := (stripGet? (if g = 0 then qH else qL) (2 * y + side)).getD 0
  if flagsBar flags || bit x.refBad g.val then (rc, false)
  else
    let l := sideSums x y g (q 0) 0
    let r := sideSums x y g (q 1) 1
    let au : Int := 2 ^ (cAu h).val
    let ofs (p : Nat × Nat) : Int := 2 * au * p.1 - 4096 * cPed h g
    let err (p : Nat × Nat) (side : Nat) : Int := rheDiv (1000000 * (au * ((p.2 : Int) - p.1))) (2048 * q side) - 1000000
    let result : Option (Int × Int) :=
      match l, r with
      | some a, some b => some ((ofs a + ofs b) / 2, rheDiv (err a 0 + err b 1) 2)
      | some a, none => some (ofs a, err a 0)
      | none, some b => some (ofs b, err b 1)
      | none, none => none
    match result with
    | none => (rc, false)
    | some (o, e) =>
      let sum := rc.sum + e
      let full := rc.count + 1 = 1024
      let step := clampInt (-10) 10 (rheDiv sum 1024)
      ({ known := true, tb := x.exitTb, validL := l.isSome, validH := r.isSome, offset := o, gainPpm := e,
         sum := if full then 0 else sum, count := if full then 0 else rc.count + 1,
         trim := if full then clampInt (-20000) 20000 (rc.trim + step) else rc.trim }, true)

/-- The characterisation of every yard and gain from a line, and whether it is valid for the device (R28, R55). -/
def characteriseLine (qH qL : Strip Nat) (x : ExitLine) (flags : BitVec 9) (rc : Vector Rchar 16) : Vector Rchar 16 × Bool :=
  (Vector.ofFn fun i : Fin 16 => (characterise qH qL x flags i rc[i]).1,
   (List.finRange 16).all fun i => (characterise qH qL x flags i rc[i]).2)

end Sys2Proof.Machine
end

