-- ==== Sys2Proof/Machine/Stats.lean ====
section
/-! DEFINITION. The statistics frames (R151–R154). -/

namespace Sys2Proof.Machine

/-- A frame that begins with line `x` of field `f`, taken from the half bound to it (R151). -/
def Frame.begin_ (x : ExitLine) (f : Fin 4) : Frame :=
  let h := x.half[f]
  let lead := x.half[(0 : Fin 4)]
  { ctx := x.serve[f], enabled := cStatEn h, first := x.line, lines := 0,
    target := if x.mode = 6 then cStageCount lead else cFrameLines h, included := 0,
    columns := 16384 / cBin h, colStat := cColStat h, hist := Vector.replicate 256 0, lo := 0xFFFF, hi := 0,
    satConv := 0, masked := 0, satPix := 0, unrepl := 0, sums := [(16384 / cBin h, (0, 0))] }

/-- Saturation of a 32-bit count. -/
def cap32 (n : Nat) : Nat := Nat.min n 0xFFFFFFFF

/-- The histogram bin of an output code (R153). -/
def histBin (ofmt : Nat) (c : Code) : Fin 256 :=
  finOf 256 (if ofmt = 1 then c.code / 16 else if ofmt = 2 then c.code else c.u / 256)

/-- The frame after a line (R138, R153): `ofmt` is the format of the half bound to the line, `codes` and `unrep` are its output codes and unreplaced
pixels of the field. Where a swap changes BIN within a frame, the column sums keep the first line's columns, and a line adds over the shorter of the
two: DESIGN CHOICE, log entry 107. -/
def Frame.add (fr : Frame) (flags : BitVec 9) (ofmt : Nat) (cells : Strip Cell) (codes : Strip Code) (unrep : Nat) : Frame :=
  let fr := { fr with lines := fr.lines + 1,
                      satConv := cap32 (fr.satConv + stripSum (·.ovr) cells),
                      masked := cap32 (fr.masked + stripSum (·.masked) cells) }
  if flagsBar flags then fr
  else
    { fr with
      included := fr.included + 1,
      hist := codes.foldl (fun h p => let b := histBin ofmt p.2; h.set b (cap32 (h[b] + p.1))) fr.hist,
      lo := codes.foldl (fun m p => Nat.min m p.2.code) fr.lo,
      hi := codes.foldl (fun m p => Nat.max m p.2.code) fr.hi,
      satPix := cap32 (fr.satPix + stripSum (fun c => if c.sat then 1 else 0) codes),
      unrepl := cap32 (fr.unrepl + unrep),
      sums := if fr.colStat then
          stripNorm (stripWith (fun s c => (s.1 + c.code, s.2 + c.code * c.code)) fr.sums codes)
        else fr.sums }

/-- The frames of a set of fields end at the line groomed last: each leaves its statistics due where they are gathered, and each serving context counts
once at a line (R152). The contexts in `counted` have counted at that line already. -/
def endFrames (gr : Groom) (ctxs : Vector Ctx 16) (fields : List (Fin 4)) (counted : List CtxIx) : Groom × Vector Ctx 16 :=
  let open_ := fields.filterMap fun f => (gr.frames[f]).map fun fr => (f, fr)
  let due := (open_.filter fun p => p.2.enabled).map fun p =>
    let n := (ctxs[p.2.ctx]).frame
    { frame := p.2, number := if counted.contains p.2.ctx then n - 1 else n, fld := p.1, short := p.2.lines < p.2.target, next := 0 : StatDue }
  let served := ((open_.map fun p => p.2.ctx).filter fun c => !counted.contains c).dedup
  ({ gr with frames := fields.foldl (fun fs f => vset fs f none) gr.frames, stats := gr.stats ++ due, counted := counted ++ served },
   served.foldl (fun cs c => vmod cs c fun k => { k with frame := k.frame + 1 }) ctxs)

/-- The fields a line carries. -/
def lineFields (x : ExitLine) : List (Fin 4) := (List.range (cFields x.half[(0 : Fin 4)])).map (finOf 4)

/-- The line begins the frames of its fields (R151). -/
def ExitLine.opens (x : ExitLine) : Bool := x.fresh || x.frameRow = some 0

/-- A line ends the frames in progress whatever their length (R151): the next line begins new ones, or it is the last row that FRAME hands on. -/
def ExitLine.cuts (x : ExitLine) (next : Option ExitLine) : Bool :=
  next.elim false ExitLine.opens || x.frameRow = some (cStageCount x.half[(0 : Fin 4)] - 1)

/-- The statistics after a line's GROOM-B (R151–R154): the line joins the frame of each field, and the frames that it completes or that `next`, the line
after it, cuts short end. Frames that a lost line left in progress end before a line that opens new ones. The line learns which frames it opens. -/
def statLine (gr : Groom) (ctxs : Vector Ctx 16) (x : Formatted) (next : Option ExitLine) : (Groom × Vector Ctx 16) × Formatted :=
  let all : List (Fin 4) := [0, 1, 2, 3]
  let (gr, ctxs) := if x.line.opens then endFrames gr ctxs all gr.counted else (gr, ctxs)
  let frames := (lineFields x.line).foldl (fun fs f =>
    let fr := (vget fs f).getD (Frame.begin_ x.line f)
    vset fs f (some (fr.add x.flags (cOfmt x.line.half[f]) x.line.cells (x.codes[f.val]?.getD []) (x.unrep[f.val]?.getD 0)))) gr.frames
  let full := all.filter fun f => match frames[f] with
    | some fr => x.line.cuts next || fr.target ≤ fr.lines
    | none => false
  (endFrames { gr with frames := frames } ctxs full [],
   { x with firsts := (lineFields x.line).map fun f => (vget frames f).elim true fun fr => fr.lines = 1 })

end Sys2Proof.Machine
end

