-- ==== Sys2Proof/Machine/Packets.lean ====
section
/-! DEFINITION. Sollys packets, their blocks and the scrambler (R224–R238). -/

namespace Sys2Proof.Machine

/-- CRC-32C (R226). -/
def crc32c (bs : List Byte) : Word := ~~~(crcLsb 0x82F63B78#32 0xFFFFFFFF#32 bs)

/-- A packet header (R226). -/
def packetHeader (type stream seq line len : Nat) (spec : BitVec 46) : BitVec 128 :=
  spec ++ BitVec.ofNat 10 len ++ BitVec.ofNat 48 line ++ BitVec.ofNat 16 seq ++ BitVec.ofNat 4 stream ++ BitVec.ofNat 4 type

/-- A packet of a payload in whole 32-byte units. -/
def mkPacket (type stream seq line : Nat) (spec : BitVec 46) (payload : List Byte) : Packet :=
  { header := packetHeader type stream seq line (payload.length / 32) spec, payload := payload, composedTb := 0 }

def Packet.type (p : Packet) : Nat := field p.header 3 0

/-- The header and payload, sent little-endian, then the trailer (R226). -/
def Packet.body (p : Packet) : List Byte := bytesLe 16 p.header.toNat ++ p.payload
def Packet.bytes (p : Packet) : List Byte := p.body ++ bytesLe 4 (crc32c p.body).toNat
/-- The bytes of a packet on the port. -/
def Packet.size (p : Packet) : Nat := 20 + p.payload.length

/-- A packet that a seal block holds: all but IDLE, SEAL, SEAL_SIG and SEAL_OPEN (R246). -/
def Packet.isSealed (p : Packet) : Bool := p.type < 7

def zeros (n : Nat) : List Byte := List.replicate n 0

/-- A DISCONT (R238). -/
def discontPacket (stream seq line : Nat) (reason : Byte) (count first skipped : Nat) : Packet :=
  mkPacket 0x6 stream seq line 0
    ([reason, 0, 0, 0] ++ bytesLe 4 (cap32 count) ++ bytesLe 6 first ++ bytesLe 2 skipped ++ zeros 16)

/-- The bytes of a segment's pixels (R231). -/
def packPixels (ofmt : Nat) : List Nat → List Byte
  | [] => []
  | a :: rest =>
    if ofmt = 1 then
      match rest with
      | [] => bytesLe 2 a
      | b :: more => bytesLe 3 (a + 4096 * b) ++ packPixels ofmt more
    else if ofmt = 2 then BitVec.ofNat 8 a :: packPixels ofmt rest
    else bytesLe 2 a ++ packPixels ofmt rest

/-- The payloads of a line's segments (R231). -/
def lineSegments (ofmt : Nat) (codes : Strip Code) (cells : Strip Cell) (refs : Vector Cell 64) : List (List Byte) :=
  if ofmt = 3 then
    let cols := (stripExpand cells).map (·.acc)
    let side (lo : Nat) := (List.range 32).map fun i => (vget refs (finOf 64 (lo + i))).acc
    let seg (i : Nat) := ((cols.drop (4096 * i)).take 4096)
    [side 0 ++ seg 0, seg 1, seg 2, seg 3 ++ side 32].map fun ws => ws.flatMap fun (w : BitVec 48) => bytesLe 6 w.toNat
  else
    let px := (stripExpand codes).map (·.code)
    (List.range ((px.length + 4095) / 4096)).map fun i => packPixels ofmt ((px.drop (4096 * i)).take 4096)

/-- POS and COL_OFS of the device in a header's SPEC (R230, R236). -/
def placeSpec (pos : BitVec 5) (colOfs : BitVec 19) : BitVec 46 :=
  colOfs ++ pos ++ (0 : BitVec 22)

/-- The SPEC of a LINE packet (R230). -/
def lineSpec (seg fl settle : Nat) (ctx : CtxIx) (pos : BitVec 5) (colOfs : BitVec 19) : BitVec 46 :=
  colOfs ++ pos ++ BitVec.ofNat 4 ctx.val ++ BitVec.ofNat 9 settle ++ BitVec.ofNat 7 fl ++ BitVec.ofNat 2 seg

/-- The LINE packets of a field of a line, from sequence number `seq` (R230, R231). -/
def linePackets (stream seq : Nat) (x : Formatted) (f : Fin 4) (trunc : Bool) (pos : BitVec 5) (colOfs : BitVec 19) :
    List Packet :=
  let h := vget x.line.half f
  let fl := field x.flags 5 0 + if trunc then 64 else 0
  (lineSegments (cOfmt h) (x.codes[f.val]?.getD []) x.line.cells x.line.refs).zipIdx.map fun p =>
    mkPacket 0x1 stream (seq + p.2) x.line.line (lineSpec p.2 fl x.line.settle (vget x.line.serve f) pos colOfs) p.1

/-- The bytes that a line's LINE packets take on the port. -/
def lineBytes (x : Formatted) (f : Fin 4) : Nat :=
  let h := vget x.line.half f
  if cOfmt h = 3 then 4 * 20 + 789504 / 8
  else
    let px := 16384 / cBin h
    let segs := (px + 4095) / 4096
    segs * 20 + (if cOfmt h = 1 then px / 2 * 3 else if cOfmt h = 2 then px else 2 * px)

/-- A flaw record (R233). `lflags` and `field` come from the line's binding and the emitted lane. -/
def flawRecord (line column across along score kernel cls fld bay pos lflags id colOfs : Nat) (marker : Bool) : List Byte :=
  bytesLe 6 line ++ bytesLe 2 (column % 16384) ++ bytesLe 2 across ++ bytesLe 2 along ++ bytesLe 2 score ++ bytesLe 2 kernel
    ++ [BitVec.ofNat 8 cls, BitVec.ofNat 8 (fld % 4 + if marker then 4 else 0), BitVec.ofNat 8 bay, BitVec.ofNat 8 pos]
    ++ bytesLe 2 lflags ++ bytesLe 5 id ++ bytesLe 4 (colOfs + column % 16384) ++ [0]

/-- The summary payload of a frame (R235). -/
def summaryPayload (d : StatDue) : List Byte :=
  let fr := d.frame
  bytesLe 4 d.number.toNat ++ bytesLe 4 (fr.lines + if d.short then 2 ^ 17 else 0) ++ bytesLe 4 fr.included
    ++ [BitVec.ofNat 8 (fr.ctx.val + 16 * d.fld.val), 0] ++ bytesLe 2 fr.lo ++ bytesLe 2 fr.hi ++ bytesLe 2 fr.columns
    ++ bytesLe 4 fr.satConv ++ bytesLe 4 fr.masked ++ bytesLe 4 fr.satPix ++ bytesLe 4 fr.unrepl ++ zeros 28
    ++ fr.hist.toList.flatMap (bytesLe 4)

/-- The payload of column packet `i` of a frame (R235). -/
def columnPayload (d : StatDue) (i : Nat) : List Byte :=
  let first := 512 * i
  let part := stripExpand (stripTake (stripDrop d.frame.sums first) 512)
  let padded := part ++ List.replicate (512 - part.length) (0, 0)
  bytesLe 4 d.number.toNat ++ bytesLe 2 first ++ bytesLe 2 part.length ++ zeros 24
    ++ padded.flatMap (fun p => bytesLe 4 p.1) ++ padded.flatMap (fun p => bytesLe 6 p.2)

/-- The number of column packets of a frame (R154). -/
def columnPackets (fr : Frame) : Nat := if fr.colStat then (fr.columns + 511) / 512 else 0

/-- SPEC of a STAT packet (R235). -/
def statSpec (kind : Bool) (index : Nat) : BitVec 46 :=
  BitVec.ofNat 46 ((if kind then 1 else 0) + 2 * index)

/-- A block: sync header in [1:0], payload in [65:2], least significant byte first (R224). -/
def mkBlock (header : BitVec 2) (payload : List Byte) : Block := BitVec.ofNat 64 (natLe payload) ++ header

/-- The Idle control block. -/
def idleBlock : Block := mkBlock 0b10#2 (0x1E#8 :: zeros 7)

/-- The data blocks and the Terminate block of a packet's bytes after the first seven. The block types of Clause 49 for 0–7 last
bytes are 0x87, 0x99, 0xAA, 0xB4, 0xCC, 0xD2, 0xE1 and 0xFF. -/
def tailBlocks : (fuel : Nat) → List Byte → List Block
  | 0, _ => []
  | fuel + 1, bs =>
    if bs.length < 8 then
      let type : Byte := ([0x87, 0x99, 0xAA, 0xB4, 0xCC, 0xD2, 0xE1, 0xFF][bs.length]?).getD 0x87
      [mkBlock 0b10#2 ((type :: bs) ++ zeros (7 - bs.length))]
    else mkBlock 0b01#2 (bs.take 8) :: tailBlocks fuel (bs.drop 8)

/-- The blocks of a packet (R224): the Start block has type 0x78. -/
def packetBlocks (p : Packet) : List Block :=
  let bs := p.bytes
  mkBlock 0b10#2 (0x78#8 :: bs.take 7) :: tailBlocks (bs.length + 1) (bs.drop 7)

/-- The self-synchronous scrambler x⁵⁸ + x³⁹ + 1 over 64 bits, least significant first (R224). -/
def scrambleBits (s : BitVec 58) (x : BitVec 64) : BitVec 58 × BitVec 64 :=
  (List.range 64).foldl (fun (acc : BitVec 58 × BitVec 64) i =>
    let o := (bit x i != bit acc.1 38) != bit acc.1 57
    ((acc.1 <<< 1) ||| (if o then 1 else 0), setBit acc.2 i o)) (s, 0)

/-- A block scrambled: the sync header is not. -/
def scramble (s : BitVec 58) (b : Block) : BitVec 58 × Block :=
  let r := scrambleBits s (b.extractLsb' 2 64)
  (r.1, r.2 ++ b.extractLsb' 0 2)

/-- The XOR of the bytes of a block's payload (R225). -/
def bipOf (b : Block) : Byte := (List.range 8).foldl (fun acc i => acc ^^^ b.extractLsb' (2 + 8 * i) 8) 0

/-- The alignment marker of a lane (R225). -/
def markerBlock (p lane : Nat) (bip : Byte) : Block :=
  let h : List Byte := [0xC3, BitVec.ofNat 8 lane, BitVec.ofNat 8 p, bip]
  mkBlock 0b10#2 (h ++ h.map (~~~ ·))

end Sys2Proof.Machine
end

