-- ==== Sys2Proof/Machine/PortUnits.lean ====
section
/-! DEFINITION. The slots of the output ports: compose, seal, stripe and lanes (R21, R221–R248). -/

namespace Sys2Proof.Machine

/-- A port changed. -/
def State.onPort (s : State) (p : PortIx) (f : Port → Port) : State :=
  { s with port := { s.port with port := vmod s.port.port p f } }

def State.onStream (s : State) (k : StreamIx) (f : DataStream → DataStream) : State :=
  { s with port := { s.port with stream := vmod s.port.stream k f } }

def State.getPort (s : State) (p : PortIx) : Port := vget s.port.port p
def State.getStream (s : State) (k : StreamIx) : DataStream := vget s.port.stream k

/-- Fields of STREAM_CFG (R251). -/
def DataStream.en (d : DataStream) : Bool := bit d.cfg 31
def DataStream.kind (d : DataStream) : Nat := field d.cfg 30 29
def DataStream.port (d : DataStream) : PortIx := finOf 4 (field d.cfg 28 27)
def DataStream.fld (d : DataStream) : Fin 4 := finOf 4 (field d.cfg 26 25)

/-- Bytes of packets composed and not yet sent (R155). -/
def Port.fill (p : Port) : Nat :=
  (p.composed.map Packet.size).sum + (p.sealedOut.map Packet.size).sum + 8 * (p.fifo.map fun x => x.2.length).sum

/-- FILL of PORT_STAT: KiB in use (R251). -/
def Port.fillKib (p : Port) : Nat := Nat.min 256 ((p.fill + 1023) / 1024)

/-- The lane rate of a port in kbit/s (R221). -/
def Port.rate (p : Port) : Nat :=
  match field p.cfg 30 28 with
  | 0 => 32000000
  | 1 => 28125000
  | 2 => 25781250
  | 3 => 16000000
  | _ => 10312500

/-- The blocks that a port's lanes send in `ns` at the payload rate of R221. -/
def Port.slots (p : Port) (ns : Nat) : Nat := ns * p.rate * 8 * 16383 / (66 * 16384 * 1000000)

/-- A packet composed on a port at TB `t`. -/
def Port.compose (p : Port) (t : Nat) (k : Packet) : Port := { p with composed := p.composed ++ [{ k with composedTb := t }], quietTb := t }

/-- A port-level packet that takes a sequence number, or carries the port counter's current value without advancing it (R240). -/
def State.composePort (s : State) (p : PortIx) (type : Nat) (spec : BitVec 46) (payload : List Byte) : State :=
  s.onPort p fun q =>
    let q' := q.compose s.tb (mkPacket type p.val q.seq.toNat s.lineCnt.toNat spec payload)
    if type = 0x4 || type = 0x5 then { q' with seq := q'.seq + 1 } else q'

/-- The initialisation vector of a block's tag (R246). -/
def sealIv (session : Word) (p : PortIx) (number : Nat) : BitVec 96 :=
  BitVec.ofNat 96 (natBe (bytesLe 4 session.toNat ++ [BitVec.ofNat 8 p.val, 0] ++ bytesLe 6 number))

/-- The payload of a SEAL packet (R246). -/
def sealPayload (p : PortIx) (k : SealSession) : List Byte :=
  let tag := gmac (bytesBe 32 k.key.toNat) (bytesBe 12 (sealIv k.session p k.number).toNat) (k.block.flatMap Packet.bytes)
  bytesLe 8 k.number ++ bytesLe 2 k.block.length ++ [0, 0] ++ bytesLe 4 k.session.toNat ++ tag

/-- A SHA-384 digest as a number. -/
def digest (bs : List Byte) : BitVec 384 := BitVec.ofNat 384 (natBe (sha384 bs))

/-- The chain after a SEAL packet (R248). -/
def chainNext (h : BitVec 384) (payload : List Byte) : BitVec 384 := digest (bytesBe 48 h.toNat ++ payload)

/-- The open block closes with its SEAL packet, which follows the block's last packet (R241, R246). -/
def Port.closeBlock (q : Port) (p : PortIx) (line : Nat) : Port :=
  match q.session with
  | none => q
  | some k =>
    if k.block = [] then q
    else
      let pl := sealPayload p k
      { q with session := some { k with chain := chainNext k.chain pl, block := [], number := k.number + 1 },
               sealedOut := q.sealedOut ++ [mkPacket 0x7 p.val q.seq.toNat line 0 pl] }

/-- SEAL_N of SEAL_CFG. -/
def Port.sealN (q : Port) : Nat := field q.sealCfg 10 0

/-- One composed packet passes the seal engine (R246): the session's own SEAL_OPEN opens it. -/
def Port.sealOne (q : Port) (p : PortIx) (line : Nat) (k : Packet) : Port :=
  let q := { q with sealedOut := q.sealedOut ++ [k] }
  match q.session with
  | none => q
  | some ss =>
    if ss.opened && k.isSealed then
      let ss := { ss with block := ss.block ++ [k], blockTb := if ss.block = [] then k.composedTb else ss.blockTb }
      let q := { q with session := some ss }
      if q.sealN ≤ ss.block.length then q.closeBlock p line else q
    else if k.type = 0x9 && natLe (k.payload.take 4) = ss.session.toNat then { q with session := some { ss with opened := true } }
    else q

/-- The SEAL slot (R21). -/
def Port.sealSlot (q : Port) (p : PortIx) (line : Nat) : Port :=
  q.composed.foldl (fun a k => a.sealOne p line k) { q with composed := [] }

/-- The STRIPE slot: the packets the seal engine has passed become blocks in the lane FIFO (R224). -/
def Port.stripeSlot (q : Port) : Port :=
  { q with fifo := q.fifo ++ q.sealedOut.map (fun k => (k, packetBlocks k)), sealedOut := [] }

/-- What a lane sends of a block: inverted where LANE_TX.POL says so (R223). -/
def laneBits (pol : Bool) (b : Block) : Block := if pol then ~~~b else b

/-- LANE_TX.POL of the lanes of a port (R251). -/
def State.polarity (s : State) (p : PortIx) : Vector Bool 8 :=
  Vector.ofFn fun l => bit (vget s.port.lane (finOf 32 (8 * p.val + l.val))) 0

/-- The alignment markers of a port (R225): one on each lane in the same block slot, with the parity since the previous marker. -/
def Port.markers (q : Port) (p : PortIx) (pol : Vector Bool 8) : Port :=
  { q with lanes := Vector.ofFn fun l => vget q.lanes l ++ [laneBits pol[l] (markerBlock p.val l.val (vget q.bip l))],
           bip := Vector.replicate 8 0, dealt := 0 }

/-- Every lane has sent 16,383 blocks since its latest marker (R225). -/
def Port.markersDue (q : Port) : Bool := 8 * 16383 ≤ q.dealt

/-- A block goes to the next lane, scrambled, behind the markers that are due (R224, R225). -/
def Port.sendBlock (p : PortIx) (pol : Vector Bool 8) (q : Port) (b : Block) : Port :=
  let q := if q.markersDue then q.markers p pol else q
  let r := scramble q.scrambler b
  { q with scrambler := r.1, lanes := vmod q.lanes q.nextLane (· ++ [laneBits pol[q.nextLane] r.2]),
           bip := vmod q.bip q.nextLane (· ^^^ bipOf r.2), nextLane := q.nextLane + 1, dealt := q.dealt + 1 }

/-- The first `n` blocks of a lane FIFO, and what stays. -/
def fifoTake : (n : Nat) → List (Packet × List Block) → List Block × List (Packet × List Block)
  | _, [] => ([], [])
  | n, (k, bs) :: rest =>
    if n < bs.length then (bs.take n, (k, bs.drop n) :: rest)
    else
      let (out, left) := fifoTake (n - bs.length) rest
      (bs ++ out, left)

/-- The LANES slot (R21, R224): as many blocks of the lane FIFO as fit the time since the slot before, at least the window of one minimum LP, and Idle
blocks for what is left of it. The time is log entry 11. -/
def Port.lanesSlot (q : Port) (p : PortIx) (pol : Vector Bool 8) (t : Nat) : Port :=
  let n := q.slots (Nat.max 1234 (t - q.sentTb))
  let (sent, left) := fifoTake n q.fifo
  let out := sent ++ List.replicate (n - sent.length) idleBlock
  let q := out.foldl (Port.sendBlock p pol) { q with lanes := Vector.replicate 8 [] }
  { q with fifo := left, sentTb := t }

/-- A port that sends: its lanes are out of electrical idle (R244). -/
def Port.sends (q : Port) : Bool := q.lit

/-- The LANES, STRIPE and SEAL slots of one LP or port period, each on what the slot before left (R21, R242). -/
def Port.slotsOf (q : Port) (p : PortIx) (pol : Vector Bool 8) (t line : Nat) : Port :=
  if q.sends then ((q.lanesSlot p pol t).stripeSlot).sealSlot p line else q

def State.portSlots (s : State) : State :=
  (List.finRange 4).foldl (fun a p => a.onPort p fun q => q.slotsOf p (s.polarity p) a.tb a.lineCnt.toNat) s

/-- A value from the DRBG that is neither 0 nor one of `avoid`: the drawn value, or the next that is free (R293, R309). -/
def freshId (avoid : List Word) : (fuel : Nat) → Word → Word
  | 0, x => x
  | n + 1, x => if x = 0 || x ∈ avoid then freshId avoid n (x + 1) else x

/-- The bytes of a public key, uncompressed. -/
def keyBytes (k : BitVec 776) : List Byte := bytesBe 97 k.toNat

/-- HUK as the tack room has it (R290, R304): none on a killed device, and none where no HUK is programmed. -/
def State.huk (s : State) : Option (BitVec 256) :=
  let k := hukOf (Vector.ofFn fun i => vget s.fuse.cell0 i ||| vget s.fuse.cell1 i)
  if s.tack.killed || k = 0 then none else some k

/-- SKEK and SSK (R290). -/
def State.skek (s : State) : Option (BitVec 256) := s.huk.map skekOf
def State.ssk (s : State) : Option (BitVec 256) := s.huk.bind fun h => s.bkp.bbk.map fun b => sskOf h b

/-- DSK, DKAK and SEK where the tack room can open them (R290). -/
def State.dskKey (s : State) : Option (BitVec 384) := s.nvm.dsk.bind fun w => w.opened s.skek
def State.dkakKey (s : State) : Option (BitVec 384) := s.nvm.dkak.bind fun w => w.opened s.skek
def State.sekKey (s : State) : Option (BitVec 256) := s.nvm.sek.newest.bind fun w => w.opened s.ssk

/-- The tack room offers signing services outside a pause of R305: operational, with DSK (R302, R304). -/
def State.sealing (s : State) : Bool := s.tack.state = .operational && s.dskKey.isSome

/-- A signature under DSK with a per-message secret from the DRBG (R289). -/
def State.sign (s : State) (msg : List Byte) : BitVec 768 × State :=
  let (c, s) := s.draw 448
  (ecdsaSign (s.dskKey.getD 0) msg (scalarOf c), s)

/-- The part of a SEAL_OPEN that DSK signs (R247). -/
def sealOpenBody (s : State) (p : PortIx) (session : Word) (key : BitVec 256) (iv : BitVec 96) : List Byte :=
  let wrapped : List Byte := match s.sekKey with
    | some sek =>
      let w := gcmSeal (bytesBe 32 sek.toNat) (bytesBe 12 iv.toNat) [] (bytesBe 32 key.toNat)
      bytesBe 12 iv.toNat ++ zeros 4 ++ w.1 ++ w.2
    | none => zeros 64
  bytesLe 4 session.toNat ++ [BitVec.ofNat 8 p.val, 0, 0, 0] ++ bytesLe 8 s.bkp.mono.toNat ++ bytesLe 8 s.tb
    ++ bytesLe 8 s.rtcWord.toNat ++ wrapped ++ sha384 (bytesBe 32 key.toNat) ++ sha384 (keyBytes (publicKey (s.dskKey.getD 0)))

/-- A seal session opens on a port: K and SESSION from the DRBG, the counter incremented, SEAL_OPEN composed and H set (R245, R247,
R248, R309). With SEAL_EN = 0, in ERROR, on a killed device and during a pause of R305 none opens. -/
def State.openSeal (s : State) (p : PortIx) : State :=
  let q := s.getPort p
  if !bit q.sealCfg 31 || !s.sealing || s.tack.paused || q.session.isSome then s
  else
    let (key, s) := s.draw 256
    let (x, s) := s.draw 32
    let (iv, s) := s.draw 96
    let s := s.monoInc
    let id := freshId [q.lastSession] 4 x
    let body := sealOpenBody s p id key iv
    let (sig, s) := s.sign body
    let pl := body ++ bytesBe 96 sig.toNat
    let s := s.onPort p fun q =>
      { q with session := some { session := id, key := key, opened := false, chain := digest pl, block := [], blockTb := 0,
                                 number := 0 },
               sealGone := false, lastSession := id }
    s.composePort p 0x9 0 pl

/-- A seal session ends without a closing SEAL (R250). -/
def Port.endSeal (q : Port) : Port := { q with session := none, sealGone := q.session.isSome || q.sealGone }

/-- Seal state of a port as STATUS carries it (R236). -/
def State.sealState (s : State) (p : PortIx) : Byte :=
  let q := s.getPort p
  if !bit q.sealCfg 31 then 1
  else if s.tack.state = .error then 2
  else if s.dskKey.isNone then 3
  else match q.session with
    | some k => if k.opened || q.composed ≠ [] then 0 else 4
    | none => 4

/-- TIME_SOURCE as it reads now (R339). -/
def State.timeSourceNow (s : State) : Byte := if vget s.clk.lock 0 then s.timeSource.setWidth 8 else 4

/-- The STATUS payload of a port (R236). -/
def statusPayload (s : State) (p : PortIx) : List Byte :=
  let age := match s.chore.tempTb with
    | some t => Nat.min 65535 ((s.tb - t) / 1000)
    | none => 65535
  let variant : Nat := s.host.variant.toNat + if s.host.suffixI then 4 else 0
  let sync : Nat := match s.sync.state with
    | .down => 0 | .trained => 1 | .enumerated => 2 | .aligned => 3 | .locked => 4 | .lost => 5
  bytesLe 8 s.tb ++ bytesLe 8 (vget s.enc 0).ext.toNat ++ bytesLe 8 (vget s.enc 1).ext.toNat
    ++ [s.mode.mode.code.setWidth 8, BitVec.ofNat 8 (s.sensor.lead.val + if s.mode.pending.isSome then 16 else 0),
        BitVec.ofNat 8 sync, BitVec.ofNat 8 variant]
    ++ bytesLe 2 s.flt.stale.toNat ++ bytesLe 2 age ++ s.chore.temps.toList ++ bytesLe 4 s.flt.cls.toNat ++ [s.sealState p]
    ++ zeros 19

/-- POS and COL_OFS of the device (R133). -/
def State.colOfs (s : State) : BitVec 19 := s.sync.geo.extractLsb' 0 19
def State.place (s : State) : BitVec 46 := placeSpec s.stringPos s.colOfs

def State.composeStatus (s : State) (p : PortIx) : State := s.composePort p 0x4 s.place (statusPayload s p)

/-- A TIME packet of a port (R237): the changes of the timebase since its previous one are reported. -/
def State.composeTime (s : State) (p : PortIx) : State :=
  let q := s.getPort p
  let chg : BitVec 64 := BitVec.ofInt 64 q.tbChange
  let pl := bytesLe 8 s.tb ++ bytesLe 8 s.rtcWord.toNat ++ bytesLe 8 chg.toNat
    ++ [s.timeSourceNow, if s.bkp.trusted then 1 else 0] ++ zeros 6
  (s.composePort p 0x5 0 pl).onPort p fun q => { q with tbChange := 0, timeDue := false }

/-- A change of the timebase by `d` ns (R113): every port reports it in its next TIME packet. -/
def State.changeTb (s : State) (d : Int) : State :=
  let s := { s with tb := ((s.tb : Int) + d).toNat }
  { s with port := { s.port with port := s.port.port.map fun q => { q with tbChange := q.tbChange + d, timeDue := true } } }

/-- A DISCONT composed on a stream before data of line `line`, or at its end with line 0 (R238). -/
def State.composeDiscont (s : State) (k : StreamIx) (line : Nat) (reason : Byte) (count first skipped : Nat) : State :=
  let d := s.getStream k
  let s := s.onPort d.port fun q => q.compose s.tb (discontPacket k.val d.seq.toNat line reason count first skipped)
  s.onStream k fun d => { d with seq := d.seq + 1 }

/-- The DISCONT packets that are due on a stream leave (R238, R241). -/
def State.flushDue (s : State) (k : StreamIx) (line : Nat) : State :=
  let due := (s.getStream k).due
  let s := s.onStream k fun d => { d with due := [] }
  due.foldl (fun a x => a.composeDiscont k line x.1 x.2.1 x.2.2.1 x.2.2.2) s

/-- A DISCONT becomes due on a stream. -/
def DataStream.addDue (d : DataStream) (reason : Byte) (count first skipped : Nat) : DataStream :=
  { d with due := d.due ++ [(reason, count, first, skipped)] }

/-- A line that a stream's port, held by a reset, cannot send is counted by the PORT_RESET DISCONT that is due (R238, R243). -/
def DataStream.countReset (d : DataStream) (line : Nat) : DataStream :=
  { d with due := d.due.map fun x => if x.1 = 0x05 then (0x05, x.2.1 + 1, if x.2.1 = 0 then line else x.2.2.1, x.2.2.2) else x }

/-- The stream's field is carried again (R232, R238): the FORMAT_CHANGE that is due, or a new one, counts the lines not produced. -/
def DataStream.fieldBack (d : DataStream) : DataStream :=
  match d.notProduced with
  | none => d
  | some (c, a) =>
    let d := { d with notProduced := none }
    if d.due.any fun x => x.1 = 0x03 then { d with due := d.due.map fun x => if x.1 = 0x03 then (0x03, c, a, 0) else x }
    else d.addDue 0x03 c a 0

/-- A format change makes a FORMAT_CHANGE due, once (R82, R100, R238). -/
def DataStream.formatDue (d : DataStream) : DataStream :=
  if d.due.any fun x => x.1 = 0x03 then d else d.addDue 0x03 0 0 0

/-- A truncation ends, or its stream does (R156, R238): the FRAME_TRUNC that counts the lines not sent becomes due. -/
def DataStream.truncBack (d : DataStream) : DataStream :=
  match d.truncated with
  | some (c, a) => { d.addDue 0x01 c a 0 with truncated := none }
  | none => d

/-- A run of packets with the stream's next sequence numbers. -/
def State.composeData (s : State) (k : StreamIx) (ps : List Packet) : State :=
  let d := s.getStream k
  let s := s.onPort d.port fun q => ps.foldl (fun q x => q.compose s.tb x) q
  s.onStream k fun d => { d with seq := d.seq + BitVec.ofNat 16 ps.length }

/-- A line that a stream does not send (R156, R157): counted in GRM_TRUNC. -/
def State.notSent (s : State) (k : StreamIx) (line : Nat) : State :=
  let s := { s with groom := { s.groom with lineTrunc := vmod s.groom.lineTrunc (finOf 16 k.val) satInc } }
  s.onStream k fun d => { d with truncated := some (match d.truncated with
    | some (n, first) => (n + 1, first)
    | none => (1, line)) }

/-- COMPOSE of a LINE stream for a line (R155–R157, R230–R232). -/
def State.composeLine (s : State) (k : StreamIx) (x : Formatted) : State :=
  let d := s.getStream k
  let f := d.fld
  let n := x.line.line
  if cFields (vget x.line.half 0) ≤ f.val then
    s.onStream k fun d => { d with notProduced := some (match d.notProduced with
      | some (c, first) => (c + 1, first)
      | none => (1, n)) }
  else
    let q := s.getPort d.port
    let raw := cOfmt (vget x.line.half f) = 3
    let rawOk := !raw || d.carriedTb.elim true fun t => t + 5000 ≤ x.line.exitTb
    let fits := q.fill + lineBytes x f ≤ 262144
    let first := (x.firsts[f.val]?).getD true
    if (d.truncated.isSome && !first) || !(rawOk && fits) then s.notSent k n
    else
      let trunc := d.truncated.isSome
      let s := s.onStream k fun d => { d.fieldBack.truncBack with carriedTb := some x.line.exitTb }
      let s := s.flushDue k n
      s.composeData k (linePackets k.val (s.getStream k).seq.toNat x f trunc s.stringPos s.colOfs)

/-- The line flags a flaw record carries from those of its line: bit 6 clear, bit 8 in markers only (R233). -/
def flawFlags (flags : BitVec 9) (marker : Bool) : Nat :=
  (setBit (setBit flags 6 false) 8 marker).toNat

/-- A queued record or marker as a flaw record (R177, R233, R234). -/
def flawBytes (pos : BitVec 5) (colOfs : BitVec 19) (flagsOf : Nat → BitVec 9) : FlawItem → List Byte
  | .record line b lanes kernel id =>
    flawRecord line (lanes[0]).toNat (lanes[1]).toNat (lanes[2]).toNat (lanes[4]).toNat kernel.toNat
      ((lanes[3]).toNat % 256) ((lanes[3]).toNat / 256 % 4) b.val pos.toNat (flawFlags (flagsOf line) false) id.toNat colOfs.toNat
      false
  | .incomplete line seg b kernel =>
    flawRecord line (128 * seg.val) 128 1 0 kernel.toNat 0 0 b.val pos.toNat (flawFlags (flagsOf line) true) 0 colOfs.toNat true

/-- The flags of a line that was groomed lately (R233). -/
def State.flagsOf (s : State) (line : Nat) : BitVec 9 :=
  match s.groom.history.find? fun x => x.1 = line with
  | some x => x.2
  | none => 0

/-- Packets of at most 1,023 records each (R233). -/
def flawPackets (stream seq line : Nat) : (fuel : Nat) → List (List Byte) → List Packet
  | 0, _ => []
  | n + 1, rs =>
    if rs = [] then []
    else mkPacket 0x2 stream seq line 0 ((rs.take 1023).flatMap id) :: flawPackets stream (seq + 1) line n (rs.drop 1023)

/-- COMPOSE of the FLAW stream (R30, R233, R238): a loss is stated first, one FLAW_LOSS for each LP in which records were lost (DESIGN CHOICE, log entry
70); with no stream enabled the records go nowhere. `line` is the line whose LINE packets are composed in the same LP. -/
def State.composeFlaw (s : State) (k : StreamIx) (line : Nat) : State :=
  let items := s.det.flawOut
  let s := if s.det.flawLost = 0 then s
    else s.onStream k fun d => d.addDue 0x06 s.det.flawLost (s.det.flawLostFirst.getD 0) 0
  let s := { s with det := { s.det with flawOut := [], flawLost := 0, flawLostFirst := none } }
  if items = [] then s
  else
    let s := s.flushDue k line
    s.composeData k (flawPackets k.val (s.getStream k).seq.toNat line items.length
      (items.map (flawBytes s.stringPos s.colOfs s.flagsOf)))

/-- The bytes that a port's LANES window of one minimum LP carries (R154): 1,234 ns at its payload rate. -/
def Port.window (q : Port) : Nat := 8 * q.slots 1234

/-- The column packets of a frame not yet composed, its summary being out. -/
def StatDue.owed (d : StatDue) : Nat := if d.next = 0 then 0 else columnPackets d.frame + 1 - d.next

/-- The summaries that are due on the STAT stream (R154): each makes the column packets still owed for the earlier frames of its field be discarded,
counted and stated by a DISCONT before it. -/
def State.composeSummaries (s : State) (k : StreamIx) : (fuel : Nat) → State
  | 0 => s
  | n + 1 =>
    match s.groom.stats.find? fun d => d.next = 0 with
    | none => s
    | some d =>
      let others := s.groom.stats.eraseP fun x => x.next = 0
      let old (x : StatDue) : Bool := x.next ≠ 0 && x.fld = d.fld
      let lost := ((others.filter old).map StatDue.owed).sum
      let more := if columnPackets d.frame = 0 then [] else [{ d with next := 1 }]
      let s := { s with groom := { s.groom with stats := others.filter (fun x => !old x) ++ more, statDropped := satAdd s.groom.statDropped lost } }
      let s := if lost = 0 then s else s.onStream k fun x => x.addDue 0x07 lost 0 0
      let s := s.flushDue k d.frame.first
      State.composeSummaries
        (s.composeData k [mkPacket 0x3 k.val (s.getStream k).seq.toNat d.frame.first (statSpec false 0) (summaryPayload d)]) k n

/-- The column packets of the STAT stream, one after another (R154): each leaves while its bytes fit the port's buffer and what is left of the
window. -/
def State.composeColumns (s : State) (k : StreamIx) : (fuel : Nat) → (left : Nat) → State
  | 0, _ => s
  | n + 1, left =>
    match s.groom.stats with
    | [] => s
    | d :: rest =>
      if 5172 ≤ left && (s.getPort (s.getStream k).port).fill + 5172 ≤ 262144 then
        let s := s.flushDue k d.frame.first
        let s := s.composeData k
          [mkPacket 0x3 k.val (s.getStream k).seq.toNat d.frame.first (statSpec true (d.next - 1)) (columnPayload d (d.next - 1))]
        let more := if columnPackets d.frame ≤ d.next then rest else { d with next := d.next + 1 } :: rest
        State.composeColumns { s with groom := { s.groom with stats := more } } k n (left - 5172)
      else s

/-- The bytes of the LINE and FLAW packets that a port composed in this LP (R154): nothing composed in an earlier one waits for the seal engine. -/
def Port.lineBytes (q : Port) : Nat := ((q.composed.filter fun k => k.type = 1 || k.type = 2).map Packet.size).sum

/-- A running port takes data (R94). -/
def State.streamOpen (s : State) (k : StreamIx) : Bool :=
  let d := s.getStream k
  d.en && (s.getPort d.port).state = .running && s.hasPort d.port

/-- A LINE stream that would send a line has a PORT_RESET due (R243). -/
def State.resetHolds (s : State) (k : StreamIx) (x : Formatted) : Bool :=
  let d := s.getStream k
  d.en && d.kind = 0 && 3 ≤ x.line.mode.toNat && d.fld.val < cFields (vget x.line.half 0) && (s.getPort d.port).resetDue

/-- COMPOSE of the data streams of a LP in ascending number (R241): the line X = k − 3 if it streams, the flaw path, the summaries; then, after
the LP's other packets, the column packets (R154). -/
def State.composeStreams (s : State) (x : Option Formatted) : State :=
  let line := match x with
    | some l => l.line.line
    | none => 0
  let s := (List.finRange 16).foldl (fun a k =>
    if !a.streamOpen k then
      match x with
      | some l => if a.resetHolds k l then a.onStream k fun d => d.countReset l.line.line else a
      | none => a
    else
      let d := a.getStream k
      if d.kind = 0 then
        match x with
        | some l => if l.line.mode.toNat ≥ 3 then a.composeLine k l else a
        | none => a
      else if d.kind = 1 then a.composeFlaw k line
      else a.composeSummaries k a.groom.stats.length) s
  match (List.finRange 16).find? fun k => s.streamOpen k && (s.getStream k).kind = 2 with
  | none => s
  | some k =>
    let q := s.getPort (s.getStream k).port
    s.composeColumns k 16 (q.window - q.lineBytes)

/-- A stream's MODE_EXIT becomes due (R101): `lost` are the lines dropped from the hub, those of its field on a LINE stream. -/
def State.exitStream (s : State) (lost : List ExitLine) (k : StreamIx) : State :=
  let d := s.getStream k
  let mine := lost.filter fun x => d.kind ≠ 0 || d.fld.val < cFields (vget x.half 0)
  s.onStream k fun d => if d.exitDue.isSome then d else { d with exitDue := some (mine.length, (mine.map (·.line)).headD 0) }

/-- A stream ends (R101, R238): what is due on it and what it did not send is stated, then its MODE_EXIT. A stream whose port does not run states
nothing. -/
def State.endStream (s : State) (k : StreamIx) : State :=
  match (s.getStream k).exitDue with
  | none => s
  | some (count, first) =>
    let s := s.onStream k fun d => { d with exitDue := none }
    if s.streamOpen k then
      ((s.onStream k fun d => d.fieldBack.truncBack).flushDue k 0).composeDiscont k 0 0x02 count first 0
    else s

end Sys2Proof.Machine
end

