-- ==== Sys2Proof/Machine/PortCtl.lean ====
section
/-! DEFINITION. The start, the stop and the reset of a port (R243–R246), and the answers that wait for them. -/

namespace Sys2Proof.Machine

/-- The index of a port's PLL (R366). -/
def portPllIx (p : PortIx) : PllIx := finOf 6 (2 + p.val)

/-- A PLL runs locked, or does not run. -/
def Clocks.take (c : Clocks) (q : PllIx) : Clocks := { c with lock := vset c.lock q true, trying := vset c.trying q false }
def Clocks.drop (c : Clocks) (q : PllIx) (retry : Bool) : Clocks := { c with lock := vset c.lock q false, trying := vset c.trying q retry }

/-- The enabled data streams of a port. -/
def State.streamsOf (s : State) (p : PortIx) : List StreamIx :=
  (List.finRange 16).filter fun k => (s.getStream k).en && (s.getStream k).port = p

/-- A STREAM_START becomes due on a stream, once (R238). -/
def DataStream.startDue (d : DataStream) : DataStream :=
  if d.due.any fun x => x.1 = 0x08 then d else d.addDue 0x08 0 0 0

/-- START of PORT_CFG. -/
def Port.setStart (q : Port) (on : Bool) : Port := { q with cfg := setBit q.cfg 31 on }

/-- A per-function reset holds the port (R415): BUSY goes on through the start sequence that follows it. -/
def State.portInReset (s : State) (p : PortIx) : Bool := bit s.flt.pfrBusy (1 + p.val) && (s.getPort p).state = .stopped

/-- DSEED of a port's PLL (R369). -/
def State.dseed (s : State) (p : PortIx) : BitVec 16 := (vget s.clk.portPll p).extractLsb' 16 16

/-- The modulator of a port's PLL is dithered (R364). -/
def Port.dithered (q : Port) : Bool := q.lfsr ≠ 0

/-- A stop is asked of a port (R244): a running port finishes what is composed and closes its block; a starting port stops when it has
started, and a start that waits for the present stop, or for the end of a reset, is followed by another. -/
def State.askStop (s : State) (p : PortIx) : State :=
  let held := s.portInReset p
  s.onPort p fun q =>
    let was := bit q.cfg 31
    let q := q.setStart false
    match q.state with
    | .running => { ((q.sealSlot p s.lineCnt.toNat).closeBlock p s.lineCnt.toNat) with state := .stopping, startAsked := false }
    | .starting => { q with stopAsked := true, startAsked := false }
    | .stopping => { q with stopAsked := q.startAsked }
    | .stopped => { q with stopAsked := held && was }

/-- A start begins in electrical idle (R244, R363, R364): the port's PLL is to lock first, its shift register loaded with DSEED. -/
def Port.beginStart (q : Port) (seed : BitVec 16) : Port :=
  { q with state := .starting, startAsked := false, lit := false, lfsr := seed, fifo := [], sealedOut := [], composed := [],
           lanes := Vector.replicate 8 [] }

/-- The port leaves electrical idle at TB `t`, its PLL locked (R224, R225, R244, R363): its scrambler is set to all ones, and each lane's first block is
its marker. -/
def Port.leaveIdle (q : Port) (p : PortIx) (pol : Vector Bool 8) (t : Nat) : Port :=
  let q := { q with lit := true, sentTb := t, scrambler := BitVec.allOnes 58, nextLane := 0, bip := Vector.replicate 8 0 }
  q.markers p pol

/-- A start is asked of a port (R244): at once on a stopped port, after the stop on a stopping one, at its release on one in reset. -/
def State.askStart (s : State) (p : PortIx) : State :=
  let q := s.getPort p
  let s := s.onPort p fun q => q.setStart true
  if s.portInReset p then s
  else match q.state with
  | .stopped =>
    let s := s.onPort p fun q => q.beginStart (s.dseed p)
    { s with clk := s.clk.drop (portPllIx p) true }
  | .stopping => s.onPort p fun q => { q with startAsked := true, stopAsked := false }
  | .starting => if q.stopAsked then s.onPort p fun q => { q with startAsked := true } else s
  | .running => s

/-- The commands that wait for a port to be in a state are answered. -/
def State.answerPort (s : State) (w : Wait) (status : Byte) : State :=
  (s.waiting fun x => x = w).foldl (fun s k => s.answer k status []) s

/-- The start sequence ends (R244), and with it BUSY of the port's reset (R415): SEAL_OPEN, STATUS and TIME are composed, and each stream resumes after its
DISCONT. -/
def State.startDone (s : State) (p : PortIx) : State :=
  let q := s.getPort p
  let s := { s with flt := { s.flt with pfrBusy := setBit s.flt.pfrBusy (1 + p.val) false } }
  let s := s.onPort p fun q => { q with state := .running, quietTb := s.tb, sentTb := s.tb, resetDue := false }
  let s := ((s.openSeal p).composeStatus p).composeTime p
  let s := if q.resetDue then s else (s.streamsOf p).foldl (fun s k => s.onStream k DataStream.startDue) s
  let s := s.answerPort (.portStart p) stOk
  if q.stopAsked then (s.onPort p fun q => { q with stopAsked := false }).askStop p else s

/-- The stop sequence ends in electrical idle (R244): what was composed has been sent and the session has ended. A start asked for
meanwhile runs at once. -/
def State.stopDone (s : State) (p : PortIx) : State :=
  let q := s.getPort p
  let s := s.onPort p fun q =>
    { q.endSeal with state := .stopped, lit := false, composed := [], sealedOut := [], fifo := [], lanes := Vector.replicate 8 [] }
  let s := State.answerPort { s with clk := s.clk.drop (portPllIx p) false } (.portStop p) stOk
  if q.startAsked then (s.askStart p).onPort p fun x => x.setStart (!q.stopAsked) else s

/-- The data packets of a port's transmit buffer that are not sent at a reset, by stream: sequence numbers taken and LINE lines (R243). -/
def lostOf (ps : List Packet) (k : StreamIx) : Nat × List Nat :=
  let mine := ps.filter fun x => field x.header 7 4 = k.val && (x.type ≤ 3 || x.type = 6)
  (mine.length, ((mine.filter fun x => x.type = 1).map fun x => field x.header 71 24).dedup)

/-- The reset of a port (R243): electrical idle at once, the buffer emptied, the session ended; a PORT_RESET DISCONT becomes due on each
stream. -/
def State.resetPort (s : State) (p : PortIx) : State :=
  let q := s.getPort p
  let ps := q.fifo.map (·.1) ++ q.sealedOut ++ q.composed
  let s := s.onPort p fun q =>
    { q.endSeal with state := .stopped, lit := false, composed := [], sealedOut := [], fifo := [], lanes := Vector.replicate 8 [],
                     startAsked := false, stopAsked := false }
  if q.state = .stopped then s
  else
    let s := s.onPort p fun q => { q with resetDue := true }
    (s.streamsOf p).foldl (fun s k =>
      let (n, lines) := lostOf ps k
      s.onStream k fun d => if d.due.any fun x => x.1 = 0x05 then d else d.addDue 0x05 lines.length (lines.headD 0) n) s

/-- A port in reset (R243, R415): a stop that waits has ended, and a start goes on at the release. -/
def State.pfrPort (s : State) (p : PortIx) : State :=
  let s := s.resetPort p
  let s := State.answerPort { s with clk := s.clk.drop (portPllIx p) false } (.portStop p) stOk
  let start := bit (s.getPort p).cfg 31
  if start then s else s.answerPort (.portStart p) stAborted

end Sys2Proof.Machine
end

