-- ==== Sys2Proof/Machine/Ramp.lean ====
section
/-! DEFINITION. PLL-B's performance points and the ramp profile between them (R359–R361), and the bands of a PLL (R366, R367). -/

namespace Sys2Proof.Machine

/-- One MHz in the unit in which VCO frequencies are compared: it makes FCW and the spread whole. -/
def mhz : Nat := 1310720000

/-- Spread spectrum on a frequency (R360, R369): the lowest and the highest that it reaches. -/
def spreadOf (cfg : Word) (f : Nat) : Nat × Nat :=
  let d := field cfg 29 26
  if field cfg 31 30 = 1 then (f - f * d / 2000, f)
  else if field cfg 31 30 = 2 then (f - f * d / 4000, f + f * d / 4000)
  else (f, f)

/-- The VCO frequency of an FCW (R359). -/
def fcwFreq (fcw : Nat) : Nat := fcw * 100 * 20000

/-- A band entry is valid (R369), and a range lies within it. -/
def bandValid (b : Word) : Bool := bit b 31 && field b 29 15 < field b 14 0
def bandHolds (b : Word) (r : Nat × Nat) : Bool := bandValid b && field b 29 15 * mhz ≤ r.1 && r.2 ≤ field b 14 0 * mhz

/-- The profile in PLLB_PROF may start (R361). -/
def Clocks.profileOk (c : Clocks) (last : Nat) : Bool :=
  let segs := c.prof.toList.take (last + 1)
  let fcws := field c.pllbCfg 23 0 :: segs.map fun w => field w 31 8
  let lo := (spreadOf c.pllbCfg (fcwFreq (fcws.foldl Nat.min 0xFFFFFF))).1
  let hi := (spreadOf c.pllbCfg (fcwFreq (fcws.foldl Nat.max 0))).2
  (segs.all fun w => field w 7 0 ≠ 0 && 0x1E0000 ≤ field w 31 8 && field w 31 8 ≤ 0x2A0000)
    && ((vget c.band 1).toList.any fun b => bandHolds b (lo, hi)) && c.profile.isNone

/-- PLL-B's performance point of a mode, as PLLB_POINT codes it (R359, R369): P0 in READY and the streaming modes, P1 otherwise. -/
def pointOf (m : Mode) : BitVec 2 := if m = .ready || m.streaming then 2 else 1

/-- The FCW of a point (R359). -/
def fcwOf (p : BitVec 2) : Nat := if p = 2 then 0x280000 else 0x200000

/-- The profile of a move to a point, as the firmware writes it: one segment of 2 µs, over which VDD_HUB current changes by at most 2 A/µs (R361). DESIGN
CHOICE (log entry 109). -/
def Clocks.ramp (c : Clocks) (p : BitVec 2) : Clocks :=
  { c with prof := vset c.prof 0 (BitVec.ofNat 32 (fcwOf p * 256 + 200)), profLast := 0 }

/-- The firmware moves PLL-B to a point with a ramp profile (R359, R361): at GO the profile runs, or it is refused as a configuration fault. -/
def State.rampTo (s : State) (p : BitVec 2) : State :=
  if !vget s.clk.lock 1 || s.clk.point = p then s
  else if s.clk.profile.isNone && (s.clk.ramp p).profileOk 0 then { s with clk := { s.clk.ramp p with profile := some 0, point := 3 } }
  else s.report .config

end Sys2Proof.Machine
end

