-- ==== Sys2Proof/Machine/ModeOps.lean ====
section
/-! DEFINITION. The transitions between modes: their completion, the drain of an exit, and the fallback that a fault asks for (R91–R103). -/

namespace Sys2Proof.Machine

/-- The device is in mode `m`, reached by transition `p` (R109); a transition out of STANDBY disarms ship mode (R345). -/
def State.setMode (s : State) (m : Mode) (cause : BitVec 3) (role : BitVec 2) : State :=
  let leaves := s.mode.mode = .standby && m ≠ .standby
  { s with mode := { s.mode with mode := m, previous := s.mode.mode, cause := cause, role := role },
           bkp := if leaves then { s.bkp with shipArmed := false } else s.bkp }

/-- The pending transition changed or ended. -/
def State.setPending (s : State) (p : Option Pending) : State := { s with mode := { s.mode with pending := p } }

/-- MODE_SET answers OK with the LT that carried the transition out, or 0 (R273). -/
def State.modeOk (s : State) (p : Pending) (line : Nat) : State := s.answerTo p.slot stOk (bytesBe 6 line)

/-- Entry into STANDBY or MAINT asks every port to stop (R94). -/
def State.stopPorts (s : State) : State := [0, 1, 2, 3].foldl (fun s p => s.askStop p) s

/-- The array is unbiased: no characterisation, nothing stale (R28). -/
def State.unbias (s : State) : State :=
  State.setStale { s with sensor := { s.sensor with biased := false, shut := true, lastValid := none } } 0 false

/-- The array is biased (R37, R57, R28): the photodiodes are held empty, the ramps have settled, and no valid characterisation exists since. What
the ramps' characterisations found stays (R56, R62, R143). -/
def State.bias (s : State) : State :=
  State.setStale { s with sensor := { s.sensor with
    biased := true, biasTb := s.tb, biasedLt := false, shut := true, ramp := Vector.replicate 2 none,
    settleLeft := Vector.replicate 2 0, lastValid := none } } 0 true

/-- PLL-A, the timebase, the timers and the strobe engines stop (R92); the watchdog moves to the RC clock (R409), and a follower counts as having lost
its sync link. -/
def State.enterDeep (s : State) : State :=
  let s := s.linkGone
  { s with
    tbRun := false,
    clk := { s.clk with lock := vset s.clk.lock 0 false, trying := vset s.clk.trying 0 false, ticksAllowed := false, recovered := false },
    ts := { s.ts with tmr := s.ts.tmr.map fun t => { t with run := false },
                      eng := s.ts.eng.map fun e => { e with run := false, out := 0 } },
    wdt := { s.wdt with clkTb := false, runClkTb := false },
    mode := { s.mode with deep := true, reconcile := false } }

/-- DEEP STANDBY is left (R92, R96). -/
def State.leaveDeep (s : State) : State := { s with mode := { s.mode with deep := false } }

/-- The bays go on with their jobs, or halt with their deep jobs saved as at pre-emption (R96). -/
def State.releaseBays (s : State) : State := ((List.finRange 128).filter fun b => s.hasBay b).foldl (fun s b => s.startNext b) s

def State.holdBays (s : State) : State := { s with det := { s.det with bays := s.det.bays.map Bay.preempt } }

/-- Ticks may be committed again from here (R122). -/
def State.resumeTicks (s : State) : State :=
  { s with mode := { s.mode with stopTicks := false },
           tick := { s.tick with allowed := if s.clk.ticksAllowed then some s.tb else none, perLast := none } }

/-- A pending transition whose LT has not fired is dropped (R102, R130): the device stays in the mode it was leaving. Ticks that it stopped go on, bays
that it halted too, and PLL-A stops again where DEEP STANDBY was being left. -/
def State.dropMove (s : State) : State :=
  match s.mode.pending with
  | none => s
  | some p => match p.phase with
    | .drain .. => s
    | .enter _ | .switch _ | .exit_ _ => s.setPending none
    | .timed =>
      let s := State.setPending { s with mode := { s.mode with leaving := false } } none
      let s := if s.mode.stopTicks then s.resumeTicks else s
      let s := if p.target = .maint then s.releaseBays else s
      if s.mode.deep then s.enterDeep else s

/-- The watchdog starts again after a disable, with a fresh period (R410). -/
def State.wdtEnable (s : State) : State :=
  if s.wdt.disabled then
    { s with wdt := { s.wdt with disabled := false, isOpen := false, armed := false, disFirst := false, runPeriodMs := s.wdt.periodMs,
                                 runClkTb := s.wdt.clkTb, serviceLine := s.lineCnt, serviceRtc := BitVec.ofNat 63 s.bkp.rtc } }
  else s

/-- The charger's setting of a maker session that leaves MAINT goes to the board record (R349). -/
def State.keepBoard (s : State) : State :=
  let maker : Bool := match s.mode.owner with
    | some k => match vget s.tack.sessions k with
      | some x => x.role = 3
      | none => false
    | none => false
  if maker then { s with nvm := { s.nvm with board := s.bkp.chgCfg } } else s

/-- What follows when MAINT is left (R349, R410): the board record, and the watchdog counts again. -/
def State.maintLeft (s : State) : State := s.keepBoard.wdtEnable

/-- The device leaves MAINT for STANDBY by itself (R95): its session has ended or the firmware restarts. -/
def State.leaveMaint (s : State) (cause : BitVec 3) : State :=
  if s.mode.mode ≠ .maint then s
  else
    let s := s.maintLeft
    let s := s.setMode .standby cause 0
    let s := { s.unbias with tick := s.tick.clear }
    State.releaseBays { s with mode := { s.mode with owner := none, leaving := false, stopTicks := false } }

/-- The owning session of MAINT has ended (R95): the device leaves once no fuse bit is being programmed. A bit in progress is finished with all its
pulses: DESIGN CHOICE, log entry 83. -/
def State.ownerGone (s : State) : State :=
  if s.mode.mode = .maint && s.fuse.pulse.isNone then s.leaveMaint 3 else { s.keepBoard with mode := { s.mode with leaving := true } }

/-- The state that a timed transition reaches (R96). -/
def State.reach96 (s : State) (p : Pending) : State :=
  let s := if s.mode.deep && !(p.target = .standby && p.deep) then s.leaveDeep else s
  let wasMaint := s.mode.mode = .maint
  let s := if wasMaint && p.target ≠ .maint then s.maintLeft else s
  let s := s.setMode p.target p.cause p.role
  match p.target with
  | .standby =>
    let s := { s.unbias with tick := s.tick.clear }
    let s := { s with mode := { s.mode with owner := none, stopTicks := false } }
    if wasMaint then s.releaseBays else s
  | .ready =>
    let s := if s.sensor.biased then s else s.bias
    let s := { s with mode := { s.mode with owner := none, nextLead := some p.ctx } }
    let s := s.resumeTicks
    if wasMaint then s.releaseBays else s
  | .maint =>
    let s := { s with tick := s.tick.clear, mode := { s.mode with owner := p.slot, stopTicks := false } }
    if s.mode.leaving then s.ownerGone else s
  | .boot | .line | .field | .split | .frame => s

/-- A timed transition ends: its command answers, or the next part of the request follows (R96): DEEP STANDBY after STANDBY. -/
def State.timedDone (s : State) (p : Pending) : State :=
  if p.target = .standby && p.deep && (s.mode.mode = .standby && !s.mode.deep) then
    ((s.enterDeep.setMode .standby p.cause p.role).setPending none).modeOk p (p.fullyDone.getD 0)
  else
    let s := s.reach96 p
    if p.target = .standby && p.deep then s.setPending (some p)
    else (s.setPending none).modeOk p (p.fullyDone.getD 0)

/-- A timed transition begins, with the ramp of PLL-B to the point of its target (R96, R359). -/
def State.beginTimed (s : State) (p : Pending) : State := (s.setPending (some { p with phase := .timed })).rampTo (pointOf p.target)

/-- READY to STANDBY begins (R94, R96): no further tick is committed, and every running port runs its stop sequence. -/
def State.beginStandby (s : State) (p : Pending) : State :=
  State.stopPorts (State.beginTimed { s with mode := { s.mode with stopTicks := true }, tick := { s.tick with request := none } } p)

/-- The frames in progress end at the last line groomed (R101, R151). -/
def State.endStreamFrames (s : State) : State :=
  let r := endFrames s.groom s.ctx [0, 1, 2, 3] s.groom.counted
  { s with groom := r.1, ctx := r.2 }

/-- Every open stream ends with a MODE_EXIT in the COMPOSE slot that comes (R101); `lost` are the lines that a FORCE exit drops. -/
def State.exitStreams (s : State) (lost : List ExitLine) : State :=
  ((List.finRange 16).filter fun k => s.streamOpen k).foldl (fun s k => s.exitStream lost k) s

/-- The exit from a streaming mode is complete (R101): the device is in READY, from where a request for STANDBY goes on. -/
def State.endDrain (s : State) (p : Pending) : State :=
  let s := s.setMode .ready p.cause p.role
  let line := match p.phase with
    | .drain st _ => st
    | _ => 0
  if p.thenStandby then
    (s.beginStandby { p with target := .standby, thenStandby := false, fullyDone := some line }).sendSwitch (line + 64) 0 .standby p.slot
  else (s.setPending none).modeOk p line

/-- The lines of a streaming mode that the hub has not composed yet, oldest first. -/
def State.hubLines (s : State) : List ExitLine :=
  ([s.groom.back.map (·.line), s.groom.front.map (·.line), s.groom.link].filterMap id).filter fun x => 3 ≤ x.mode.toNat

/-- A FORCE exit ends the drain at once (R101, R362): the hub drops the lines it has not composed, the frames in progress end, and each stream's
MODE_EXIT counts what it did not send. -/
def State.cutHub (s : State) : State :=
  let lost := s.hubLines
  (State.endStreamFrames { s with groom := { s.groom with link := none, front := none, back := none } }).exitStreams lost

/-- The device asks for an exit from a streaming mode to READY at the next LT (R103): a pending host transition ends with
ABORTED_BY_RESET, in the whole string where a leader had commanded it. With `force` the drain ends at once (R362). -/
def State.fallback (s : State) (force : Bool) : State :=
  if !s.mode.mode.streaming then s
  else
    let own : Pending :=
      { target := .ready, ctx := s.leadCtx, deep := false, force := force, slot := none, role := 0, cause := 2,
        since := s.tb, phase := .exit_ 0, thenStandby := false, fullyDone := none }
    match s.mode.pending with
    | none => s.setPending (some own)
    | some p =>
      match p.phase with
      | .drain .. =>
        let s := s.answerTo p.slot stAborted []
        let p := { p with slot := none, role := 0, cause := 2, target := .ready, thenStandby := false, force := p.force || force }
        let s := s.setPending (some p)
        if force then s.cutHub.endDrain p else s
      | _ =>
        if p.slot = none && p.cause = 2 then s.setPending (some { p with force := p.force || force })
        else (s.cancelSwitch.answerTo p.slot stAborted []).setPending (some own)

/-- A report of an edge class with its fixed response (R103, R362, R401): CLK_B asks for the fallback. -/
def State.raise (s : State) (k : FltClass) : State :=
  let s := s.report k
  if k = .clkB then s.fallback true else s

/-- THERM_CRIT follows its condition, and its rise asks for the fallback (R103, R401). -/
def State.thermCrit (s : State) (on : Bool) : State :=
  let rise := on && !bit s.flt.cls 6
  let s := s.level .thermCrit on
  if rise then s.fallback false else s

end Sys2Proof.Machine
end

