-- ==== Sys2Proof/Machine/Pulses.lean ====
section
/-! DEFINITION. The pulses that the strobe engines latch (R379), and the events that the timers and the converters name (R372). -/

namespace Sys2Proof.Machine

/-- The code of input i of an engine (R385). -/
def Engine.inCode (e : Engine) (i : Fin 6) : Nat :=
  if i.val < 4 then (e.sel0.extractLsb' (7 * i.val) 7).toNat else (e.sel1.extractLsb' (7 * (i.val - 4)) 7).toNat

/-- A pulse latched by every input that selects it (R379). -/
def Engine.latchPulse (e : Engine) (code : Nat) : Engine :=
  { e with latch := (List.finRange 6).foldl (fun l i => if e.inCode i = code then setBit l i.val true else l) e.latch }

/-- A pulse of a source reaches every engine. -/
def State.strobePulse (s : State) (code : Nat) : State :=
  { s with ts := { s.ts with eng := s.ts.eng.map fun e => e.latchPulse code } }

/-- The pulses that the engines name: LT, PRE_LT, a timer's matches and overflow, an engine's IRQ (R379). -/
def pulseLt : Nat := 0x11
def pulsePreLt : Nat := 0x12
def pulseMatch (t : TmrIx) (c : Fin 2) : Nat := 0x1A + 2 * t.val + c.val
def pulseOverflow (t : TmrIx) : Nat := 0x3A + t.val
def pulseIrq (e : EngIx) : Nat := 0x54 + e.val

/-- A level source no pulse can name (R379). -/
def isPulse (code : Nat) : Bool := code = 0x11 || code = 0x12 || (0x1A ≤ code && code ≤ 0x49) || (0x54 ≤ code && code ≤ 0x5B)

/-- The events by their codes (R372): an edge of a STB pin, LT, the active edge of TRIG_P/N, the rising edge of an encoder's Z, a timer's matches and
overflow, an engine's IRQ. -/
def evRise (i : Fin 16) : Nat := 0x01 + i.val
def evFall (i : Fin 16) : Nat := 0x11 + i.val
def evLt : Nat := 0x21
def evTrig : Nat := 0x22
def evZ (ch : EncIx) : Nat := 0x23 + ch.val
def evMatch (t : TmrIx) (c : Fin 2) : Nat := 0x25 + 2 * t.val + c.val
def evOverflow (t : TmrIx) : Nat := 0x45 + t.val
def evIrq (e : EngIx) : Nat := 0x55 + e.val

/-- Fields of TMR_CTRL (R384). -/
def Timer.mode (x : Timer) : Nat := field x.ctrl 26 25
def Timer.evSel (x : Timer) : Nat := field x.ctrl 24 18
def Timer.capSel (x : Timer) : Nat := field x.ctrl 17 11
def Timer.oneshot (x : Timer) : Bool := bit x.ctrl 27
def Timer.frz (x : Timer) : Bool := bit x.ctrl 28

/-- An event arrives at a timer (R370, R372, R373, R375): the EV_SEL event of a running timer that counts events and may step, or of a stopped one
that it starts; the CAP_SEL event whatever the timer does. -/
def Timer.hear (x : Timer) (steps : Bool) (code : Nat) : Timer :=
  let ev : Bool := x.evSel = code && ((x.mode = 2 && x.run && steps) || (x.mode = 1 && !x.run))
  { x with heard := x.heard || ev, capHeard := if x.capSel = code then x.capHeard + 1 else x.capHeard }

/-- INJ_EV of a converter (R389, R400). -/
def Conv.injEv (c : Conv) : Nat := field c.ctrl 30 24

/-- An event arrives at a converter (R389). -/
def Conv.hear (c : Conv) (code : Nat) : Conv := if c.injEv = code then { c with heard := c.heard + 1 } else c

/-- The clocks of the timers and of the strobe engines (R353). -/
def State.tmrClock (s : State) : Bool := s.pllaOut 3
def State.stbClock (s : State) : Bool := s.pllaOut 4

/-- A timer takes no count steps: its clock stands, or debug freezes it (R356, R376). -/
def State.tmrHeld (s : State) (x : Timer) : Bool := !s.tmrClock || (x.frz && s.dbg.cpHalted)

/-- An event occurs (R372): it arrives at every timer and converter that selects it. -/
def State.event (s : State) (code : Nat) : State :=
  { s with ts := { s.ts with tmr := s.ts.tmr.map fun x => x.hear (!s.tmrHeld x) code }, hk := { s.hk with conv := s.hk.conv.map fun c => c.hear code } }

/-- The edge of a STB pin that the device does not drive comes from outside, so the row that it triggers is itself the edge. -/
def State.outsideEdge (s : State) (code : Nat) : Bool := 1 ≤ code && code ≤ 0x20 && !bit (vget s.ts.route (finOf 16 (code - 1))) 8

end Sys2Proof.Machine
end

