-- ==== Sys2Proof/Machine/LineTick.lean ====
section
/-! DEFINITION. LINE_TICK: the array, the contexts and every hub slot of the line period that begins (R19–R25, R63–R84, R98–R107, R135–R139). -/

namespace Sys2Proof.Machine

/-- The TICK slot's part for one context (R90, R136, R139): a due swap takes place, or is dropped where its shadow is forbidden. -/
def State.swapCtx (s : State) (k : Nat) (c : CtxIx) (applied : Bool) (bad : CtxHalf → Bool) : State :=
  let x := vget s.ctx c
  match x.sched with
  | none => s
  | some (_, slot) =>
    if !x.dueAt k applied then s
    else if bad x.shadow then
      ((s.onCtx c fun x => { x with sched := none }).report .context).answerSched slot stBadParam 0
    else
      (s.onCtx c fun x => { x with active := x.shadow, sched := none, lockUntil := some (k + 4) }).answerSched slot stOk k

/-- A command that waited for a lock runs (R139). -/
def State.runHeld (s : State) (c : CtxIx) (slot : Slot) : State :=
  match vget s.host.waits slot with
  | some (.ctxLocked d w) =>
    if d ≠ c then s
    else match s.ctxDo slot c w with
      | (some (st, payload), s) => s.answer slot st payload
      | (none, s) => { s with host := { s.host with waits := vset s.host.waits slot (some (.ctxSchedule c)) } }
  | _ => s

/-- A lock ends at LT v + 4 (R139): the active half is copied into the shadow half, and the commands that wait run in the order they were
accepted. -/
def State.unlockCtx (s : State) (k : Nat) (c : CtxIx) : State :=
  let x := vget s.ctx c
  match x.lockUntil with
  | none => s
  | some l =>
    if k < l then s
    else x.waiters.foldl (fun s slot => s.runHeld c slot)
      (s.onCtx c fun x => { x with shadow := x.active, lockUntil := none, waiters := [] })

/-- The stall map at the LT that applies a context (R50): the shadow set swaps in where it is the one named and loaded, else the active
set stays and the rejection is recorded once. -/
def State.swapMap (s : State) (want : Fin 16) : State :=
  let x := s.sensor
  if want = x.activeSet then { s with sensor := { x with swapPending := false } }
  else if x.shadowValid && x.shadowSet = want then
    { s with sensor := { x with activeSet := want, shadowSet := x.activeSet, swapPending := false } }
  else if x.swapPending then s
  else State.report { s with sensor := { x with swapPending := true } } .context

/-- The rows with every accumulator and count cleared (R84, R101). -/
def Row.wipe (r : Row) : Row :=
  { Row.clear with settle := r.settle, refBad := r.refBad, latch := r.latch, refLatch := r.refLatch }

/-- What the thresholds of a gain are under a half (R57). -/
def State.rampUse (s : State) (h : CtxHalf) (g : Fin 2) : RampUse :=
  let t := cTable h g
  let v := match vget (vget s.sensor.tables g) t with
    | some x => x.version
    | none => 0
  { table := t, version := v, ped := cPed h g }

/-- The bank switch before an LT that applies half h (R18, R47): each yard's banks hold the table of each gain in the half's AU. When the control
plane writes the bank not in use is nothing a command can see: DESIGN CHOICE, log entry 64. -/
def State.switchBanks (s : State) (h : CtxHalf) : State :=
  let code (g : Fin 2) : BankCode := { au := cAu h, table := vget (vget s.sensor.tables g) (cTable h g) }
  { s with sensor := { s.sensor with banks := Vector.ofFn fun i => (s.sensor.banks[i]).load (code (finOf 2 i.val)) } }

/-- The settling ticks of a gain still to come at this LT, this one included (R57, R58). -/
def State.settleNow (s : State) (h : CtxHalf) (g : Fin 2) : Nat :=
  match vget s.sensor.ramp g with
  | some u => if u ≠ s.rampUse h g then 2 else vget s.sensor.settleLeft g
  | none => vget s.sensor.settleLeft g

/-- The marks of one tick on the lines in the array (R80–R84, R99, R107, R124, R132, R357): `k` is the tick's line. -/
def Marks.tick (m : Marks) (k : Nat) (void format slip pll sync : Bool) : Marks :=
  let mark (on : Bool) (old : Nat) : Nat := if on then Nat.max old (k + 1) else old
  { void := mark void m.void, format := mark format m.format, overspeed := mark slip m.overspeed, pll := mark pll m.pll,
    sync := mark sync m.sync }

/-- The flags a line carries when it is handed to the yard link (R228). -/
def Marks.flags (m : Marks) (n : Nat) (settle : Nat) : BitVec 9 :=
  let f : BitVec 9 := 0
  let f := setBit f 0 (n < m.void)
  let f := setBit f 1 (n < m.overspeed)
  let f := setBit f 2 (n < m.format)
  let f := setBit f 4 (n < m.pll)
  let f := setBit f 5 (n < m.sync)
  setBit f 7 (settle ≠ 0)

/-- What a tick applies, worked out in the TICK slot: the tick's line, that of the tick before and the instant, the context, the mode the array runs in, the event, the
rejoin, the lead half, the direction, position, clear causes and settling. -/
structure TickPlan where
  k : Nat
  last : Nat
  t : Nat
  ctx : CtxIx
  mode : Mode
  event : TickEvent
  rejoin : Bool
  half : CtxHalf
  dir : Bool
  pos : Fin 16
  reversal : Bool
  format : Bool
  slip : Bool
  pll : Bool
  frameEnd : Bool
  changed : Bool
  ramp : Vector RampOf 16

def TickPlan.entering (p : TickPlan) : Bool := match p.event with
  | .enter _ => true
  | _ => false

def TickPlan.leaving (p : TickPlan) : Bool := match p.event with
  | .leave _ => true
  | _ => false

/-- The tick is a clear tick (R80). -/
def TickPlan.clear (p : TickPlan) : Bool := p.reversal || p.format || p.pll || p.rejoin || p.frameEnd

/-- The DISCONT packets that the tick's event makes due before the first line of its new state (R101, R132, R238). -/
def TickPlan.disconts (p : TickPlan) : List (Byte × Nat × Nat) :=
  if p.rejoin then [(0x04, p.k - p.last - 1, p.last - 254)]
  else if p.entering then [(0x08, 0, 0)]
  else if p.format then [(0x03, 0, 0)]
  else []

/-- The plan of the tick `d` after the contexts have been swapped: `x` is the sensor before the tick. -/
def State.planTick (s : State) (d : DueTick) (k last t : Nat) (c : CtxIx) (m : Mode) (ev : TickEvent) (rejoin : Bool) (pos : Fin 16) : TickPlan :=
  let x := s.sensor
  let h := s.active c
  let dir := if cDirMode h = 0 then false else if cDirMode h = 1 then true else d.dir
  let entering := match ev with
    | .enter _ => true
    | _ => false
  let switching := match ev with
    | .switch _ => true
    | _ => false
  let frameEnd := match ev with
    | .leave _ => s.mode.mode = .frame
    | _ => false
  { k := k, last := last, t := t, ctx := c, mode := m, event := ev, rejoin := rejoin, half := h, dir := dir, pos := pos,
    reversal := x.anyTick && !entering && dir ≠ x.dir,
    format := !entering && x.leadHalf.elim false fun old => formatDiffers old h,
    slip := d.slip, pll := x.pllClear, frameEnd := frameEnd,
    changed := entering || switching || s.mode.nextLead.isSome || frameEnd,
    ramp := Vector.ofFn fun i => { code := x.banks[i].now, trim := x.rchar[i].trim } }

/-- The exposure window of the tick (R35–R37, R75): the shutter is that of the context serving the entry's field. -/
def State.windowOf (s : State) (p : TickPlan) : Option (Nat × Nat) :=
  let e := cEntry p.half p.pos.val
  let h := s.active (servingCtx p.ctx p.half (if timed p.half && e < 4 then e else 0))
  shutterWindow (s.sensor.shut || !s.sensor.biasedLt) (cShutMode h) (cShutNs h) s.sensor.lastTb p.t

/-- The dark charge of each yard's photosites in a window of exposure, at the yards' sampled temperatures (R33, R448). -/
def State.darkOf (s : State) (window : Option (Nat × Nat)) : Vector Nat 8 :=
  let ns := window.elim 0 fun w => w.2 - w.1
  s.chore.temps.map fun c => darkMilli c ns

/-- The work of the tick in the array (R63–R84, R106). -/
def State.tickWork (s : State) (p : TickPlan) (light : List LightTerm) : TickWork :=
  let phase := framePhase p.half (if p.entering then p.k else s.sensor.enterAt) p.k
  { half := p.half, dir := p.dir, entry := cEntry p.half p.pos.val, clear := p.clear,
    settling := fun g => s.settleNow p.half g ≠ 0, ramp := p.ramp,
    window := s.windowOf p, dark := s.darkOf (s.windowOf p), light := light, frame := p.mode = .frame, handOver := phase = 0,
    adding := cFramePer p.half - cFrameExp p.half ≤ phase }

/-- The rows after the tick: an entry clears them first (R84), and so does the end of the frame scheme (R101). -/
def State.rowsAfter (s : State) (p : TickPlan) (light : List LightTerm) : Vector Row 256 :=
  let w := s.tickWork p light
  let before := if p.entering || p.frameEnd then s.sensor.rows.map Row.wipe else s.sensor.rows
  arrayStep w s.nvm.qH s.nvm.qL before (vget s.sensor.maps s.sensor.activeSet)

/-- The row of the frame that FRAME hands on at the tick: none while the scheme hands nothing on (R106). -/
def State.frameRow (s : State) (p : TickPlan) : Option Nat :=
  let j := framePhase p.half (if p.entering then p.k else s.sensor.enterAt) p.k
  if j < cStageCount p.half then some j else none

/-- The marks after the tick. An entry marks the lines of R99, or the first frame's rows (R107); a tick that it is marks nothing else. -/
def State.marksAfter (s : State) (p : TickPlan) : Marks :=
  let m := s.sensor.marks.tick p.k (p.reversal || p.frameEnd) p.format p.slip p.pll p.rejoin
  if !p.entering then m
  else if p.mode = .frame then { m with void := Nat.max m.void (p.k + cStageCount p.half - 255) }
  else { m with void := Nat.max m.void (p.k - cStageFirst p.half) }

/-- The line that the exit row hands on (R63, R98, R106, R138): none below line 0, among the lines an exit discards, and where FRAME hands
nothing on. The line's exit LT, whose TB R28 compares, is taken to be this LT, n + 255, and not LT n + 256 of its exit LP: DESIGN CHOICE, log entry
67. -/
def State.exitLine (s : State) (p : TickPlan) (rows : Vector Row 256) (marks : Marks) (fresh : Bool) (disconts : List (Byte × Nat × Nat)) :
    Option ExitLine :=
  let frame := p.mode = .frame
  let j := if frame then s.frameRow p else none
  if p.k < 255 || p.leaving || p.k - 255 < s.sensor.dropTo || (frame && j.isNone) then none
  else
    let r := vget rows (exitRow p.dir)
    let n := p.k - 255
    let serve (f : Fin 4) : CtxIx := servingCtx p.ctx p.half f.val
    some
      { line := n, exitTick := p.k, exitTb := p.t, dir := p.dir, frameRow := j, cells := r.walk, refs := r.refs, settle := r.settle,
        refBad := r.refBad, flags := marks.flags n r.settle, lead := p.ctx,
        half := Vector.ofFn fun f => if f = 0 then p.half else s.active (serve f), serve := Vector.ofFn serve, mode := p.mode.code,
        fresh := fresh, disconts := disconts }

/-- The array's part of the tick: conversion, add, walk and hand-over, with what the next tick is compared with (R57, R63, R75, R81). -/
def State.arrayTick (s : State) (p : TickPlan) (light : List LightTerm) : State :=
  let x := s.sensor
  let rows := s.rowsAfter p light
  let marks := s.marksAfter p
  let fresh := x.freshNext || p.changed || p.format || p.rejoin
  let disconts := x.discontNext ++ p.disconts
  let out := s.exitLine p rows marks fresh disconts
  let left : Vector Nat 2 := Vector.ofFn fun g => s.settleNow p.half g - 1
  { s with
    sensor := { x with
      ticks := x.ticks + 1, lineNow := p.k, lastTb := p.t, anyTick := true, biasedLt := true, shut := false, rows := rows, exit := out,
      before := some (x.rows, x.exit), dir := p.dir, pos := p.pos, lead := p.ctx, leadHalf := some p.half,
      enterAt := if p.entering then p.k else x.enterAt, marks := marks,
      reversals := if p.reversal then satInc x.reversals else x.reversals,
      formatChanges := if p.format then satInc x.formatChanges else x.formatChanges, pllClear := false, syncClear := false,
      freshNext := fresh && out.isNone, discontNext := if out.isSome || p.leaving then [] else disconts, dropTo := if p.leaving then p.k + 1 else x.dropTo, settleLeft := left,
      ramp := Vector.ofFn fun g => some (s.rampUse p.half g) },
    mode := { s.mode with nextLead := none } }

/-- A line no valid characterisation of the last 100 ms precedes (R28). -/
def State.rampStaleAt (s : State) (t : Nat) : Bool :=
  match s.sensor.lastValid with
  | some (tb, _) => tb + 100000000 < t
  | none => true

/-- GROOM-F (R21, R28, R55, R142–R145): the line on the yard link is groomed, then it characterises the ramps; a line that exited before the array
was last biased is never valid for the device. -/
def State.groomFTick (s : State) : State :=
  match s.groom.link with
  | none => { s with groom := { s.groom with front := none } }
  | some x =>
    let g := groomFront s.groom s.sensor.rchar (s.rampStaleAt x.exitTb) x
    let (rc, valid) := characteriseLine s.nvm.qH s.nvm.qL x g.flags s.sensor.rchar
    let valid := valid && s.sensor.biasTb ≤ x.exitTb
    let sensor := { s.sensor with rchar := rc, lastValid := if valid then some (x.exitTb, x.line) else s.sensor.lastValid }
    { s with sensor := sensor, groom := { s.groom with front := some g, prev := some g } }

/-- GROOM-B (R21, R146–R153): merge, format and statistics of a line; its flags stay known to its flaw records. -/
def State.groomBTick (s : State) : State :=
  match s.groom.front with
  | none => { s with groom := { s.groom with back := none } }
  | some g =>
    let hg := vget (vget s.sensor.tables 0) (cTable (vget g.line.half 0) 0)
    let f := groomBack s.groom hg g
    let r := statLine s.groom s.ctx f s.groom.link
    { s with ctx := r.1.2,
             groom := { r.1.1 with back := some r.2, history := ((g.line.line, g.flags) :: r.1.1.history).take 64 } }

/-- The line of FEED, with its lead context's half and whether it may have jobs (R192, R195). -/
def feedOf (x : Formatted) : RingLine × CtxHalf × CtxIx × Bool :=
  ({ line := x.line.line, fields := finOf 4 (x.feed.length - 1), values := x.feed }, vget x.line.half 0, x.line.lead,
   !(bit x.flags 0 || bit x.flags 2 || bit x.flags 4 || bit x.flags 5))

/-- The DISCONT packets that precede a line become due on each enabled stream (R100, R132, R238); on a READY line, on the FLAW and STAT
streams. -/
def State.dueDiscont (s : State) (x : ExitLine) : State :=
  let ks := (List.finRange 16).filter fun k => (s.getStream k).en && (3 ≤ x.mode.toNat || (s.getStream k).kind ≠ 0)
  x.disconts.foldl (fun s c =>
    ks.foldl (fun s k => s.onStream k fun d =>
      if c.1 = 0x08 then d.startDue else if c.1 = 0x03 then d.formatDue else d.addDue c.1 c.2.1 c.2.2 0) s) s

/-- COMPOSE (R21, R241): the line's packets, the flaw path and the statistics, then the ends of streams; what no stream takes goes nowhere. -/
def State.composeTick (s : State) (x : Option Formatted) : State :=
  let s := match x with
    | some l => s.dueDiscont l.line
    | none => s
  let s := s.composeStreams x
  let s := (List.finRange 16).foldl State.endStream s
  let taken : Bool := (List.finRange 16).any fun k => s.streamOpen k && (s.getStream k).kind = 2
  { s with det := { s.det with flawOut := [] }, groom := { s.groom with stats := if taken then s.groom.stats else [] } }

/-- A line that a reset of the pipeline loses is one that no port can accept (R416): every open LINE stream that would carry it counts it. -/
def State.loseLine (s : State) (x : ExitLine) : State :=
  let s := s.dueDiscont x
  let lost := (List.finRange 16).filter fun k =>
    s.streamOpen k && (s.getStream k).kind = 0 && 3 ≤ x.mode.toNat && (s.getStream k).fld.val < cFields (vget x.half 0)
  lost.foldl (fun s k => s.notSent k x.line) s

/-- The LP in which a reset of the grooming pipeline takes effect (R416): the lines at GROOM-B and GROOM-F are lost, and stage 4 has no
previous line. -/
def State.groomCut (s : State) : State :=
  let s := match s.groom.front with
    | some g => s.loseLine g.line
    | none => s
  let s := match s.groom.link with
    | some x => s.loseLine x
    | none => s
  { s with groom := { s.groom with front := none, link := none, prev := none, resetDue := false } }

/-- A capture takes the line that exits (R275): 98,688 bytes in the column order of RAW48. -/
def State.captureTick (s : State) : State :=
  match s.cap, s.sensor.exit with
  | some c, some x =>
    if c.lines ≤ c.done_ then s
    else
      let word (z : Cell) : List Byte := bytesLe 6 z.acc.toNat
      let refs := x.refs.toList
      let bytes := (refs.take 32).flatMap word ++ (stripExpand x.cells).flatMap word ++ (refs.drop 32).flatMap word
      { s with mem := s.mem.deviceWrite (c.pa.toNat + 98688 * c.done_) bytes,
               cap := some { c with done_ := c.done_ + 1, since := s.tb } }
  | _, _ => s

/-- The drain of an exit that begins at LT s: the largest deadline of the line jobs of the lines still in the hub (R101). -/
def State.drainDeadline (s : State) : Nat :=
  let d (h : CtxHalf) : Nat := if cJobEn h then cJobDeadline h else 0
  let of (x : Option ExitLine) : Nat := x.elim 0 fun l => d (vget l.half 0)
  Nat.max (of s.groom.link) (Nat.max (of (s.groom.front.map (·.line))) (of (s.groom.back.map (·.line))))

/-- A follower's string switch has taken place (R130). -/
def State.endSwitch (s : State) : State := if s.role = 2 then s.onSync fun y => { y with switch := none } else s

/-- What the tick does to the mode (R98–R101): an entry or a switch is complete, an exit begins its drain, a drain that ends lets every stream end in
this LP's COMPOSE slot. -/
def State.modeTick (s : State) (p : TickPlan) : State :=
  match p.event with
  | .none => s
  | .drained _ => s.exitStreams []
  | .enter q | .switch q => (((s.setMode q.target q.cause q.role).setPending none).endSwitch).modeOk q p.k
  | .leave q =>
    let s := s.endSwitch
    let s := s.setPending (some { q with phase := .drain p.k (if q.force then p.k else p.k + 6 + s.drainDeadline), ctx := p.ctx })
    if q.force then s.cutHub else s

/-- The end of a drain, after that LP's packets (R101): a FORCE exit's is LT s. -/
def State.drainedTick (s : State) (k : Nat) : State :=
  match s.mode.pending with
  | none => s
  | some q => match q.phase with
    | .drain _ end_ => if end_ ≤ k then s.endDrain q else s
    | _ => s

/-- The line streamed last has passed GROOM-B in the LP after LT s (R101). -/
def State.drainTick (s : State) (k : Nat) : State :=
  match s.mode.pending with
  | some q => match q.phase with
    | .drain st _ => if k = st + 1 then s.endStreamFrames else s
    | _ => s
  | none => s

/-- A rejoin is complete (R132): the follower is LOCKED in the leader's mode. -/
def State.rejoinTick (s : State) (m : Mode) : State :=
  let s := if s.mode.mode = m then s else s.setMode m 0 0
  { s with sync := { s.sync with joinAt := none, state := .locked } }

/-- The delay of a tick, saturating (R123, R134). -/
def tickDelay (d : DueTick) : BitVec 16 := BitVec.ofNat 16 (Nat.min (d.inst - d.req) 0xFFFF)

/-- The TICK slot up to the contexts (R21, R24, R136, R139): time, the line, locks that end, the swaps of the lead context and of the
context that serves the tick's field. -/
def State.tickSlot (s : State) (k : Nat) (c : CtxIx) (applied : Bool) (m : Mode) (given : Option (Fin 16)) : Fin 16 × State :=
  let pos := s.posAt k (s.halfAt k c applied (leadBad m)) given
  let s := s.swapCtx k c applied (leadBad m)
  let h := s.active c
  let e := cEntry h pos.val
  let s := if timed h && 1 ≤ e && e ≤ 3 then s.swapCtx k (cServe h e) false ctxAloneBad else s
  let s := (List.finRange 16).foldl (fun s c => s.unlockCtx k c) s
  let inUse (x : CtxIx) : Bool := x = c || (timed h && 1 ≤ e && e ≤ 3 && x = cServe h e)
  (pos, { s with ctx := Vector.ofFn fun i => { vget s.ctx i with inUse := inUse i } })

/-- One line tick: `d` fires, and every slot of its line period runs (R21). COMPOSE takes the flaw records of the LP before; the markers of jobs
stopped at this LP's DISPATCH wait for the next (R21, R198). -/
def State.fireTick (s : State) (d : DueTick) (rest : List DueTick) (light : List LightTerm) : State :=
  let s := s.atTb d.inst
  let k := d.line.getD s.nextLine
  let join := s.rejoinAt k
  let ev := if join.isSome then .none else s.tickEvent k
  let (c, applied, m) := s.leadAt k
  let last := s.sensor.lineNow
  let s := { s with tick := { s.tick with due := rest, delayNs := tickDelay d }, sensor := { s.sensor with lineNow := k } }
  let (pos, s) := s.tickSlot k c applied m (match join with
    | some (_, _, p) => some p
    | none => d.pos)
  let s := s.switchBanks (s.active c)
  let p := s.planTick d k last s.tb c m ev join.isSome pos
  let s := s.swapMap (cMapSet p.half)
  let composed := s.groom.back
  let arriving := s.sensor.exit
  let s := s.portSlots.modeTick p
  let arriving := if p.leaving then none else arriving
  let composed := if s.groom.back.isNone then none else composed
  let held := s.det.flawOut.length
  let s := s.feedAndDispatch (composed.map feedOf)
  let late := s.det.flawOut.drop held
  let s := { s with det := { s.det with flawOut := s.det.flawOut.take held } }
  let cut := s.groom.resetDue
  let s := if cut then s.endStreamFrames else s
  let s := (s.composeTick composed).drainedTick k
  let s := { s with det := { s.det with flawOut := s.det.flawOut ++ late } }
  let s := if cut then s.groomCut else s
  let s := (s.groomBTick.groomFTick).drainTick k
  let s := { s with groom := { s.groom with link := arriving } }
  let s := ((s.arrayTick p light).captureTick).onSync fun y => y.rejoined k
  let s := if join.isSome then s.rejoinTick m else s
  let s := s.setStale 0 (s.sensor.biased && s.rampStaleAt s.tb)
  (s.strobePulse pulseLt).event evLt

/-- LINE_TICK: the first tick that is due fires; where none is due or none may fire, nothing happens (R21, R91, R122). -/
def execLineTick (light : List LightTerm) (s : State) : Host.Outcome State Fault Refusal :=
  match s.tick.due with
  | [] => .next s
  | d :: rest => if s.ticksMayFire then .next (s.fireTick d rest light) else .next s

end Sys2Proof.Machine
end

