-- ==== Sys2Proof/Machine/Chores.lean ====
section
/-! DEFINITION. The chores of R27 (R26–R30, R205, R211, R323–R330, R368, R390) and the shutter's time-out (R37). A chore's row stands for the
chore taking its unit. -/

namespace Sys2Proof.Machine

/-- Chore 1 is due at TB t (R27): 1,024 ticks or 1.28 ms after the previous sample, and as soon as the timebase runs for the first. -/
def State.tempDue (s : State) (t : Nat) : Bool :=
  match s.chore.tempTb with
  | none => true
  | some p => p + 1280000 ≤ t || s.chore.tempTick + 1024 ≤ s.sensor.ticks

/-- The level of THERM_WARN (R401). -/
def State.thermWarn (s : State) : State := s.level .thermWarn (s.flt.hubWarm || s.flt.yardWarm.toList.any id)

/-- A yard's warning follows its newest sample: 60 °C sets it, 5 °C below clears it (R401). -/
def yardWarmAfter (was : Bool) (temp : Byte) : Bool := if 60 ≤ temp.toInt then true else if temp.toInt ≤ 55 then false else was

/-- The hub's temperature in °C from code `c` of channel 8 (R387), rounded. -/
def hubDegrees (c : BitVec 12) : Int := rheDiv ((c.toNat : Int) * 625) 4096 - 250

/-- The hub reading (R401): 95 °C sets the warning and 105 °C the critical level, 5 °C below clears them. -/
def State.hubReading (s : State) (c : BitVec 12) : State :=
  let x : Int := (c.toNat : Int) * 625
  let above (d : Int) : Bool := (d + 250) * 4096 ≤ x
  let below (d : Int) : Bool := x ≤ (d + 250) * 4096
  let warm := if above 95 then true else if below 90 then false else s.flt.hubWarm
  let crit := if above 105 then true else if below 100 then false else bit s.flt.cls 6
  (State.thermWarn { s with flt := { s.flt with hubWarm := warm } }).thermCrit crit

/-- The newest hub code: HKA's, or HKB's where HKA has none. -/
def State.hubCode (s : State) : BitVec 12 :=
  let a := vget (vget s.hk.conv 0).data 8
  let b := vget (vget s.hk.conv 1).data 8
  (if bit a 31 then a else b).extractLsb' 0 12

/-- SHUTTER_TIMEOUT (R37). -/
def execShutterTimeout (t : Nat) (s : State) : Host.Outcome State Fault Refusal :=
  let s := s.atTb t
  if s.sensor.biased && s.sensor.biasedLt && s.sensor.lastTb + 65536 ≤ s.tb then .next { s with sensor := { s.sensor with shut := true } }
  else .next s

/-- MAP_SHADOW_LOAD_DONE (R50, R60): the load under way ends after `us` µs; during a reset of the HBM controller it cannot. -/
def execMapShadowLoadDone (us : BitVec 16) (s : State) : Host.Outcome State Fault Refusal :=
  if s.hubUp && s.sensor.loading && !s.hbmDown then
    .next { s with sensor := { s.sensor with loading := false, shadowValid := true, loadUs := us } }
  else .next s

/-- YARD_TEMP_SAMPLE (R27, R401): signed °C of the eight yards. -/
def execYardTempSample (t : Nat) (temps : Vector Byte 8) (s : State) : Host.Outcome State Fault Refusal :=
  let s := s.atTb t
  if s.hubUp && s.tbRun && s.tempDue s.tb then
    let warm : Vector Bool 8 := Vector.ofFn fun y => yardWarmAfter (vget s.flt.yardWarm y) (vget temps y)
    let s := { s with chore := { s.chore with temps := temps, tempTb := some s.tb, tempTick := s.sensor.ticks },
                      flt := { s.flt with yardWarm := warm } }
    .next (s.thermWarn.setStale 1 false)
  else .next s

/-- The steps of a hayloft pass of one bank: 32 MiB over 16 banks in steps of 64 bytes (R27). -/
def haySteps : Nat := 32768

/-- The passes that every bank has finished. -/
def hayPasses (pos : Vector Nat 16) : Nat := (pos.toList.map (· / haySteps)).foldl Nat.min (vget pos 0 / haySteps)

/-- HAYLOFT_SCRUB (R27, R211): one step of a bank. A correctable word is written back and told to telemetry; an uncorrectable one is
marked poisoned. A finished pass over all banks ends staleness. -/
def execHayloftScrub (t : Nat) (bank : Fin 16) (found : ScrubFind) (s : State) : Host.Outcome State Fault Refusal :=
  if !s.hubUp then .next s
  else
    let s := s.atTb t
    let pos := vmod s.chore.hayPos bank (· + 1)
    let done := hayPasses s.chore.hayPos < hayPasses pos
    let s := { s with chore := { s.chore with hayPos := pos, hayDone := if done then s.tb else s.chore.hayDone } }
    let s := if done then s.setStale 2 false else s
    match found with
    | .clean => .next s
    | .corrected a =>
      .next (State.eccEvent { s with chore := { s.chore with correctedHay := satInc s.chore.correctedHay } } 1 false a)
    | .uncorrectable a => .next ((State.report { s with mem := s.mem.mark [a / 8] } .ecc).eccEvent 1 true a)

/-- An uncorrectable word at offset `a` of MRAM (R324, R330): in a firmware bank the bank is invalid, in a rotated copy the copy is skipped, in the audit log
the entry is damaged. -/
def Mram.damage (m : Mram) (a : Nat) : Mram :=
  if a < 0x200000 then { m with banks := vmod m.banks 0 fun b => { b with invalid := true } }
  else if a < 0x400000 then { m with banks := vmod m.banks 1 fun b => { b with invalid := true } }
  else if a < 0x704000 then m
  else if a < 0x706000 then { m with sek := m.sek.damage 128 ((a - 0x704000) / 64) }
  else if a < 0x71E000 then { m with roles := m.roles.damage 64 ((a - 0x706000) / 1536) }
  else if a < 0x720000 then m
  else if a < 0x730000 then { m with auditBad := ((a - 0x720000) / 64) :: m.auditBad.filter (· ≠ (a - 0x720000) / 64) }
  else if a < 0x730800 then { m with shadow := m.shadow.damage 256 ((a - 0x730000) / 8) }
  else if a < 0x740800 then { m with journal := m.journal.damage 8192 ((a - 0x730800) / 8) }
  else m

/-- The address of the MRAM window (R204, R324). -/
def mramBase : Nat := 0x3000000000

/-- MRAM_SCRUB (R27, R330): a finding names its offset. -/
def execMramScrub (t : Nat) (found : ScrubFind) (s : State) : Host.Outcome State Fault Refusal :=
  if !s.hubUp then .next s
  else
    let s := s.atTb t
    let pos := (s.chore.mramPos + 1) % 131072
    let s := { s with chore := { s.chore with mramPos := pos, mramDone := if pos = 0 then s.tb else s.chore.mramDone } }
    let s := if pos = 0 then s.setStale 3 false else s
    match found with
    | .clean => .next s
    | .corrected a =>
      .next (State.eccEvent { s with nvm := { s.nvm with corrected := satInc s.nvm.corrected } } 3 false (mramBase + a))
    | .uncorrectable a =>
      .next ((State.report { s with nvm := { (s.nvm.damage a) with uncorr := satInc s.nvm.uncorr } } .mram).eccEvent 3 true (mramBase + a))

/-- HBM_REFRESH (R27): a forced refresh is counted; data do not change. -/
def execHbmRefresh (forced : Bool) (s : State) : Host.Outcome State Fault Refusal :=
  if s.hubUp && forced then .next { s with chore := { s.chore with forcedRefresh := satInc s.chore.forcedRefresh } } else .next s

/-- The bytes of a telemetry-ring entry up to LINK (R329). -/
def TelemEntry.head (e : TelemEntry) : List Byte :=
  bytesLe 8 e.number.toNat ++ bytesLe 8 e.tb.toNat ++ bytesLe 8 e.rtc.toNat ++ bytesLe 2 e.kind.toNat ++ e.data

/-- The 64 bytes of a telemetry-ring entry. -/
def TelemEntry.bytes (e : TelemEntry) : List Byte := e.head ++ bytesLe 16 e.link.toNat

/-- An entry joins the telemetry ring of 16,384, with its number and link (R329). -/
def Mram.pushTelem (m : Mram) (tb rtc : BitVec 64) (kind : BitVec 16) (data : List Byte) : Mram :=
  let prev := match m.telem.head? with
    | some e => e.bytes
    | none => List.replicate 64 0
  let e : TelemEntry := { number := m.telemNext, tb := tb, rtc := rtc, kind := kind, data := data, link := 0 }
  { m with telem := ({ e with link := digest16 (prev ++ e.head) } :: m.telem).take 16384, telemNext := m.telemNext + 1 }

/-- A log item is written to MRAM (R323): the audit log holds 1,024 entries. -/
def Mram.flushItem (m : Mram) (i : LogItem) : Mram :=
  match i with
  | .audit e =>
    { m with audit := (e :: m.audit).take 1024, auditNext := m.auditNext + 1, auditBad := m.auditBad.filter (· ≠ m.auditNext % 1024) }
  | .telemetry tb rtc kind data => m.pushTelem tb rtc kind data

/-- An item is an audit entry. -/
def LogItem.isAudit : LogItem → Bool
  | .audit _ => true
  | .telemetry .. => false

/-- The audit entries that MRAM may still take (R328): 2,048 in any second of TB. -/
def State.auditRoom (s : State) : Nat := 2048 - (s.chore.auditWrites.map fun w => if s.tb < w.1 + 1000000000 then w.2 else 0).sum

/-- The items of a log buffer with room for `n` audit entries, those that are written and those that stay (R328): only audit entries are limited. -/
def splitLog : List LogItem → Nat → List LogItem × List LogItem
  | [], _ => ([], [])
  | i :: is, n =>
    let rest := splitLog is (if i.isAudit then n - 1 else n)
    if i.isAudit && n = 0 then (rest.1, i :: rest.2) else (i :: rest.1, rest.2)

/-- The log buffer goes to MRAM, with an entry for what was dropped (R29, R328, R329). That entry is written at every flush after a drop, and the count
then starts again from 0: DESIGN CHOICE, log entry 108. -/
def State.flushLog (s : State) : State :=
  let (out, stay) := splitLog s.chore.log s.auditRoom
  let m := out.foldl Mram.flushItem s.nvm
  let m := if s.chore.logDropped = 0 then m
    else m.pushTelem (BitVec.ofNat 64 s.tb) s.rtcWord 3 (bytesLe 4 s.chore.logDropped.toNat ++ List.replicate 18 0)
  let writes := (s.tb, (out.filter LogItem.isAudit).length) :: s.chore.auditWrites.filter fun w => s.tb < w.1 + 1000000000
  let s := { s with nvm := m, chore := { s.chore with log := stay, logDropped := 0, logTb := s.tb, auditWrites := writes } }
  s.setStale 5 s.logFull

/-- LOG_FLUSH (R27, R29). -/
def execLogFlush (t : Nat) (s : State) : Host.Outcome State Fault Refusal := .next (if s.hubUp then (s.atTb t).flushLog else s)

/-- The 22 data bytes of a snapshot (R329). -/
def State.snapData (s : State) : List Byte :=
  s.chore.temps.toList ++ [BitVec.ofInt 8 (hubDegrees s.hubCode)] ++ bytesLe 2 s.flt.stale.toNat ++ bytesLe 4 s.flt.cls.toNat
    ++ bytesLe 4 s.chore.forcedRefresh.toNat ++ [0, 0, 0]

/-- TELEMETRY_SNAPSHOT (R27, R329): the snapshot joins the log buffer. -/
def execTelemetrySnapshot (t : Nat) (s : State) : Host.Outcome State Fault Refusal :=
  if !s.hubUp then .next s
  else
    let s := (s.atTb t).setStale 6 false
    .next (State.telemetry { s with chore := { s.chore with forcedRefresh := 0, snapTb := s.tb } } 1 s.snapData)

/-- A PLL whose latest check lies 30 s back (R27). -/
def State.bandStale (s : State) : Bool := s.chore.bandTb.toList.any fun t => t + 30000000000 < s.tb

/-- PLL_BAND_CHECK (R27, R368): a voltage outside the middle 80% of the band of a locked PLL sets MARGIN. -/
def execPllBandCheck (t : Nat) (q : PllIx) (inside : Bool) (s : State) : Host.Outcome State Fault Refusal :=
  if !s.hubUp then .next s
  else
    let s := s.atTb t
    let s := { s with chore := { s.chore with bandTb := vset s.chore.bandTb q s.tb },
                      clk := if vget s.clk.lock q && !inside then { s.clk with margin := setBit s.clk.margin q.val true } else s.clk }
    if s.bandStale then .next s else .next (s.setStale 7 false)

/-- FLAW_CREDIT_REFILL (R30): 2,048 credits per second of TB, up to 65,536. -/
def execFlawCreditRefill (t : Nat) (s : State) : Host.Outcome State Fault Refusal :=
  if !s.hubUp then .next s
  else
    let s := s.atTb t
    let credits (x : Nat) : Nat := x * 2048 / 1000000000
    let n := Nat.min 65536 (s.det.credits + (credits s.tb - credits s.det.creditTb))
    .next { s with det := { s.det with credits := n, creditTb := s.tb } }

/-- A converter's regular entry is older than twice the programmed period (R27, R390). -/
def Conv.aged (c : Conv) (tb : Nat) : Bool :=
  bit c.ctrl 16 && (List.finRange 16).any fun i => i.val ≤ field c.ctrl 20 17 && vget c.entryTb i + 2000 * field c.ctrl 15 0 < tb

/-- The age at which a chore's lack of refresh makes it stale (R27). -/
def State.choreAged (s : State) (n : Fin 9) : Bool :=
  match n with
  | 0 => s.sensor.biased && s.rampStaleAt s.tb
  | 1 => s.tbRun && (s.chore.tempTb.getD 0) + 2560000 < s.tb
  | 2 => s.chore.hayDone + 10000000000 < s.tb
  | 3 => s.chore.mramDone + 150000000000 < s.tb
  | 4 => false
  | 5 => s.logFull
  | 6 => s.chore.snapTb + 1500000000 < s.tb
  | 7 => s.bandStale
  | 8 => s.hk.conv.toList.any fun c => c.aged s.tb

/-- CHORE_AGE_LIMIT (R26, R27, R390): a chore past its limit is stale; the housekeeping converters show which of them is. -/
def execChoreAgeLimit (chore : Fin 9) (t : Nat) (s : State) : Host.Outcome State Fault Refusal :=
  let s := s.atTb t
  if s.hubUp && s.choreAged chore then
    let s := if chore = 8 then { s with hk := { s.hk with conv := s.hk.conv.map fun c => if c.aged s.tb then { c with stale := true } else c } } else s
    .next (s.setStale chore.val true)
  else .next s

end Sys2Proof.Machine
end

