-- ==== Sys2Proof/Machine/Encoders.lean ====
section
/-! DEFINITION. The rows of the encoders and of the tick sources (R111–R124, R358). -/

namespace Sys2Proof.Machine

/-- The sync messages of the previous step are gone. -/
def State.newStep (s : State) : State := { s with sync := { s.sync with sentUp := [], sentDown := [] } }

/-- The direction of a quadrature step from levels a, b (R114): rising where A leads B with INVERT 0, which the rule does not say: DESIGN CHOICE, log
entry 74. `onA` says that A changed. -/
def quadUp (onA a b : Bool) : Bool := if onA then a != b else a == b

/-- A change of A or of B counts under DECODE (R114, R134): every change for ×4, every change of A for ×2, a change of A with B low for ×1. -/
def quadCounts (decode : Nat) (onA b : Bool) : Bool := if decode = 0 then true else if decode = 1 then onA else onA && !b

/-- The generator takes a counted edge of its channel (R118, R119): a change of direction restarts the predictor, and a reversal is
accepted after REV_HYST counts. -/
def TickSource.take (x : TickSource) (e : Edge) : TickSource :=
  let edges := match x.edges with
    | [] => [e]
    | f :: fs => if f.up = e.up then (e :: f :: fs).take 129 else [e]
  let (motion, extreme) : Option Bool × Int := match x.motion with
    | none => (some e.up, e.pos)
    | some m =>
      if e.up = m then (some m, if m then max x.extreme e.pos else min x.extreme e.pos)
      else if (field x.pred 15 8 : Int) ≤ (if m then x.extreme - e.pos else e.pos - x.extreme) then (some e.up, e.pos)
      else (some m, x.extreme)
  { x with edges := edges, motion := motion, extreme := extreme }

/-- The predictor restarts as at start-up (R115, R119, R356). -/
def TickSource.restart (x : TickSource) : TickSource := { x with edges := [], request := none, perLast := none }

/-- ENCODER_EDGE (R91, R114, R115, R356): A and B take new levels at TB t and hold them for `held` ns. A change that does not persist for FILT_NS is
ignored; on the bypass clock, which samples every 10 ns, an edge closer than that to the one before is an illegal transition. -/
def execEncoderEdge (ch : EncIx) (a b : Bool) (t : Nat) (s : State) (held : Nat := 15) : Host.Outcome State Fault Refusal :=
  let s := (s.atTb t).newStep
  let x := vget s.enc ch
  let onA := x.a != a
  let onB := x.b != b
  let now := { x with a := a, b := b, changed := t }
  let mine := s.srcChannel = some ch
  let close := s.tbRun && !vget s.clk.lock 0 && t < x.changed + 10
  if !s.hubUp || held < field x.cfg 3 0 || !(onA || onB) then .next s
  else if (onA && onB) || close then
    let s := { s with enc := vset s.enc ch { now with illegal := satInc x.illegal } }
    let s := if mine then { s with tick := s.tick.restart } else s
    .next (s.report .encoder)
  else if quadCounts (field x.cfg 5 4) onA b then
    let up := quadUp onA a b != bit x.cfg 6
    let ext := if up then x.ext + 1 else x.ext - 1
    let s := { s with enc := vset s.enc ch { now with ext := ext } }
    if mine then .next ((State.runGenerator { s with tick := s.tick.take { pos := ext.toInt, t := s.tb, up := up } })) else .next s
  else .next { s with enc := vset s.enc ch now }

/-- Z_CAPTURE (R91, R117): a rising Z is an event (R372), and with ZMODE 0b01 copies ENC_POS. -/
def execZCapture (ch : EncIx) (s : State) : Host.Outcome State Fault Refusal :=
  let x := vget s.enc ch
  if !s.hubUp then .next s
  else
    let s := s.event (evZ ch)
    .next (if field x.cfg 9 8 = 1 then { s with enc := vset s.enc ch { x with zcap := x.ext.extractLsb' 0 32 } } else s)

/-- PREDICTOR_TIMEOUT (R119): 2 ms without an edge. -/
def execPredictorTimeout (ch : EncIx) (t : Nat) (s : State) : Host.Outcome State Fault Refusal :=
  let s := s.atTb t
  match s.tick.edges.head? with
  | some e => if s.srcChannel = some ch && e.t + 2000000 ≤ s.tb then .next { s with tick := s.tick.restart } else .next s
  | none => .next s

/-- TICK_REQUEST (R118, R119): the predictor is read again at TB t. -/
def execTickRequest (t : Nat) (s : State) : Host.Outcome State Fault Refusal := .next ((s.atTb t).newStep.runGenerator)

/-- TICK_COMMIT (R120, R123). -/
def execTickCommit (t : Nat) (s : State) : Host.Outcome State Fault Refusal := .next ((s.atTb t).newStep.runGenerator)

/-- INTERNAL_PERIOD (R122). -/
def execInternalPeriod (t : Nat) (s : State) : Host.Outcome State Fault Refusal :=
  let s := (s.atTb t).newStep
  if s.src = 4 then .next s.runGenerator else .next s

/-- TRIG_EDGE (R121): the edge that TRIG_EDGE selects is an event (R372), and requests a tick where the trigger path would open the gates, or on a
leader at t + LEAD_NS. Before PHASE READY and while PLL-A is unlocked TRIG_P/N is ignored (R356, R438). -/
def execTrigEdge (t : Nat) (rising : Bool) (s : State) : Host.Outcome State Fault Refusal :=
  let s := (s.atTb t).newStep
  let s := if s.mode.mode ≠ .boot && vget s.clk.lock 0 && (rising != bit s.tick.cfg 5) then s.event evTrig else s
  if s.src = 3 && s.ticksAsked && (rising != bit s.tick.cfg 5) then
    let inst := if s.isLeader then s.tb + s.leadNs else s.tb + Nat.min (Config.triggerNs s.tb) 4
    .next (s.commit { inst := inst, dir := false, boundary := none })
  else .next s

/-- TICKS_ALLOWED (R122, R358): 10 µs after PLL-A's lock. -/
def execTicksAllowed (t : Nat) (s : State) : Host.Outcome State Fault Refusal :=
  let s := s.atTb t
  if vget s.clk.lock 0 && s.tbRun && !s.clk.ticksAllowed && s.clk.lockTb + 10000 ≤ s.tb then
    let s := { s with clk := { s.clk with ticksAllowed := true } }
    .next { s with tick := { s.tick with allowed := if s.ticksMayFire then some s.tb else s.tick.allowed } }
  else .next s

end Sys2Proof.Machine
end

