-- ==== Sys2Proof/Machine/Belif.lean ====
section
/-! DEFINITION. The mailboxes: posting a command, the checks of R266, the roles and modes of R271, waiting, answering and auditing (R260, R264–R267,
R284, R286, R293, R297). -/

namespace Sys2Proof.Machine

/-- A command as the host posts it: slot, opcode, chosen header fields, payload and bulk data. -/
structure Cmd where
  slot : Slot
  op : BitVec 16
  h : CmdHeader
  payload : List Byte
  bulk : List Byte

/-- What a command is open to (R271, R284, R286, R297): `role` 0 any, 1–3 that role or a higher one, 4 any live session; `modes` the modes that allow it;
`exempt` from BUSY_MAINT; `audited`; `fail` 1 served in PHASE FAIL, 2 there for a maker session. -/
structure Gate where
  role : Nat
  modes : Mode → Bool
  exempt : Bool
  audited : Bool
  fail : Nat

/-- The modes of the command tables (R271). -/
def allModes : Mode → Bool := fun m => m ≠ .boot
def modesSR : Mode → Bool := fun m => m = .standby || m = .ready
def modesSRM : Mode → Bool := fun m => m = .standby || m = .ready || m = .maint
def modesM : Mode → Bool := fun m => m = .maint

/-- A command for any caller, and for operators, installers and the maker, in all modes; those above operator are audited (R297). -/
def gateAny : Gate := { role := 0, modes := allModes, exempt := false, audited := false, fail := 0 }
def gateO : Gate := { role := 1, modes := allModes, exempt := false, audited := false, fail := 0 }
def gateI : Gate := { role := 2, modes := allModes, exempt := false, audited := true, fail := 0 }
def gateM : Gate := { role := 3, modes := modesM, exempt := false, audited := true, fail := 0 }

/-- How a command ends its run: answered, answered with a failure that has its effects (AUTH_RESPONSE), waiting for an event, or answered with
something that follows the answer. -/
inductive Result where
  | done (status : Byte) (payload bulk : List Byte) (s : State)
  | failed (status : Byte) (s : State)
  | wait (w : Wait) (s : State)
  | thenDo (payload : List Byte) (s : State) (after : State → State)

/-- What a command does once steps 1–6 of R266 have passed, under the session it came with. -/
abbrev Run := Option Session → State → Result

/-- A command that needs a cryptographic service waits for the end of a pause of R305, in the order of acceptance. -/
def State.awaitTack (s : State) (slot : Slot) (ses : Option Session) : Result :=
  .wait (.paused ses) { s with tack := { s.tack with waiting := s.tack.waiting ++ [slot] } }

/-- An answer with a failure has no payload; nothing changes. -/
def fail (status : Byte) (s : State) : Result := .done status [] [] s

/-- HW_FAULT, which the fault summary records (R270). Where no rule names the class: DESIGN CHOICE, log entry 101. -/
def hwFault (k : FltClass) (s : State) : Result := .done stHwFault [] [] (s.report k)

/-- An answer of OK. -/
def ok (payload : List Byte) (s : State) : Result := .done stOk payload [] s

/-- The header's 32 bytes (R265). -/
def Cmd.header (c : Cmd) : List Byte :=
  bytesBe 2 c.op.toNat ++ bytesBe 2 c.h.tag.toNat ++ bytesBe 2 c.payload.length ++ bytesBe 2 c.h.flags.toNat ++ bytesBe 4 c.h.session.toNat
    ++ [c.h.status] ++ bytesBe 3 (c.h.reserved.extractLsb' 80 24).toNat ++ bytesBe 2 c.bulk.length
    ++ bytesBe 2 (c.h.reserved.extractLsb' 64 16).toNat ++ bytesBe 4 c.h.elapsed.toNat ++ bytesBe 8 (c.h.reserved.extractLsb' 0 64).toNat

/-- The command's bytes in its slot and sub-window, and the doorbell rung: RING set, DONE cleared (R263, R264). -/
def HostPort.post (p : HostPort) (c : Cmd) : HostPort :=
  let b := hostPuts p.bytes (slotAddr c.slot) (c.header ++ c.payload.take 224)
  { p with bytes := hostPuts b (bulkAddr c.slot) (c.bulk.take 4096) }

/-- The doorbell of a slot rings at TB `tb`. -/
def HostPort.rung (p : HostPort) (slot : Slot) (tb : Nat) : HostPort :=
  { p with ring := setBit p.ring slot.val true, done := setBit p.done slot.val false, rungTb := vset p.rungTb slot tb }

/-- `n` writes are ignored and counted (R262). -/
def State.ignoredWrites (s : State) (n : Nat) : State := { s with host := { s.host with ignored := satAdd s.host.ignored n } }

/-- The writes by which a command reaches its slot and its sub-window: DESIGN CHOICE, one each, and none for a sub-window without data (log entry 39). -/
def Cmd.writes (c : Cmd) : Nat := if c.bulk.isEmpty then 1 else 2

/-- TIMEOUT_S of a role (R294). -/
def sessionTimeout (role : BitVec 2) : Nat := if role = 1 then 3600 else if role = 2 then 900 else 600

/-- A session has gone TIMEOUT_S without an accepted command (R294, R296). -/
def Session.idle (x : Session) (periods : Nat) : Bool := !x.held && x.since + 32768 * sessionTimeout x.role ≤ periods

/-- The live session of a slot under the number a command names (R266, step 3): none for 0, an error for any other. -/
def State.sessionOf (s : State) (slot : Slot) (n : Word) : Option (Option Session) :=
  if n = 0 then some none
  else match vget s.tack.sessions slot with
    | some x => if x.id = n && !x.idle s.tack.periods then some (some x) else none
    | none => none

/-- A session's idle timer restarts, and is held, as its command passes step 3 (R294). -/
def Session.restart (x : Session) (periods : Nat) : Session := { x with since := periods, held := true }

/-- MAINT is owned by another session (R95, step 4). -/
def State.busyMaint (s : State) (slot : Slot) (ses : Option Session) : Bool :=
  s.mode.mode = .maint && (match s.mode.owner with
    | some o => !(o = slot && ses.isSome)
    | none => false)

/-- A session may issue a command (R293, R297, step 5). -/
def roleOk (g : Gate) (ses : Option Session) : Bool :=
  if g.role = 0 then true
  else match ses with
    | none => false
    | some x => g.role = 4 || g.role ≤ x.role.toNat

/-- Step 2 of R266: the reserved header bits, STATUS and ELAPSED_US, and the two lengths. -/
def Cmd.headerOk (c : Cmd) : Bool :=
  c.h.reserved = 0 && c.h.flags.toNat < 2 && c.h.status = 0 && c.h.elapsed = 0 && c.payload.length ≤ 224 && c.bulk.length ≤ 4096

/-- Steps 2–4 of R266: the session, or the first failure. -/
def State.admission (s : State) (c : Cmd) (g : Gate) : Except Byte (Option Session) :=
  if !c.headerOk then .error stBadParam
  else match s.sessionOf c.slot c.h.session with
    | none => .error stSessionExpired
    | some ses => if s.busyMaint c.slot ses && !g.exempt then .error stBusyMaint else .ok ses

/-- What the audit entry of a command says (R307). -/
def Cmd.auditInfo (c : Cmd) (ses : Option Session) : AuditInfo :=
  { session := c.h.session, opcode := c.op, param := digest16 (c.payload ++ c.bulk),
    role := match ses with
      | some x => x.role.setWidth 8
      | none => 0,
    index := match ses with
      | some x => x.index
      | none => 0 }

/-- A failure at step 5, 6 or 7, which comes before the audit log is asked for room (R266). -/
def earlyStatus (st : Byte) : Bool := st = stDeniedRole || st = stWrongMode || st = stBadParam

/-- The end of a run: the answer, the wait, or NO_RESOURCE where the audit log has no room for the entry (R29). -/
def Result.finish (r : Result) (slot : Slot) (before : State) (full : Bool) : State :=
  let refuse : State := { before with host := { before.host with audits := vset before.host.audits slot none } }
  match r with
  | .done st payload bulk s => if full && !earlyStatus st then refuse.answer slot stNoResource [] else s.answerBulk slot st payload bulk
  | .failed st s => if full then refuse.answer slot stNoResource [] else s.answer slot st []
  | .wait w s =>
    if full then refuse.answer slot stNoResource []
    else { s with host := { s.host with waits := vset s.host.waits slot (some w) } }
  | .thenDo payload s after => if full then refuse.answer slot stNoResource [] else after (s.answer slot stOk payload)

/-- Steps 5–8 and the run. -/
def State.perform (s : State) (c : Cmd) (g : Gate) (ses : Option Session) (anyMode : Bool) (run : Run) : State :=
  let s := if g.audited then { s with host := { s.host with audits := vset s.host.audits c.slot (some (c.auditInfo ses)) } } else s
  if !roleOk g ses then s.answer c.slot stDeniedRole []
  else if !anyMode && !g.modes s.mode.mode then s.answer c.slot stWrongMode []
  else (run ses s).finish c.slot s (g.audited && s.logFull)

/-- A command that passes steps 2 and 3 under a session restarts its idle timer (R266, R294). -/
def State.passStep3 (s : State) (c : Cmd) : State :=
  match s.sessionOf c.slot c.h.session with
  | some (some x) =>
    if c.headerOk then { s with tack := { s.tack with sessions := vset s.tack.sessions c.slot (some (x.restart s.tack.periods)) } } else s
  | _ => s

/-- A rung doorbell is served (R260, R266, R286): BUSY_BOOT before PHASE READY, in PHASE FAIL the recovery commands alone. -/
def State.accept (s : State) (c : Cmd) (g : Gate) (run : Run) : State :=
  let ready := s.host.phase = 5
  let maker := match s.sessionOf c.slot c.h.session with
    | some (some x) => x.role = 3
    | _ => false
  let recovery := s.host.phase = 7 && (g.fail = 1 || (g.fail = 2 && maker))
  if !ready && !recovery then s.answer c.slot stBusyBoot []
  else match s.admission c g with
    | .error st => (s.passStep3 c).answer c.slot st []
    | .ok ses => (s.passStep3 c).perform c g ses recovery run

/-- A Belif row: the host writes slot and sub-window and rings the doorbell, and the firmware serves it (R264). In PHASE OFF nothing reaches the port, before
VERIFY every write is ignored and counted, the doorbell's too; on a slot that the device owns the writes are ignored and counted and the doorbell has no
effect. While the control processor is halted by debug, doorbells
wait (R423). -/
def State.command (s : State) (c : Cmd) (g : Gate) (run : Run) : Host.Outcome State Fault Refusal :=
  let s := s.newStep
  if s.host.phase = 0 then .next s
  else if s.host.phase = 1 || s.host.phase = 2 then .next (s.ignoredWrites (c.writes + 1))
  else if bit s.host.ring c.slot.val then .next (s.ignoredWrites c.writes)
  else if s.dbg.cpHalted then .next { s with host := { ((s.host.post c).rung c.slot s.tb) with order := s.host.order ++ [c.slot] } }
  else .next (State.accept { s with host := (s.host.post c).rung c.slot s.tb } c g run)

end Sys2Proof.Machine
end

