-- ==== Sys2Proof/Machine/ModeAsk.lean ====
section
/-! DEFINITION. The request for a transition between modes (R94–R101, R109, R130, R273). -/

namespace Sys2Proof.Machine

/-- The kinds of transition of R96 and R273. -/
inductive Move where
  | now | timed | toStandby | toMaint | enter | switch | leave
  deriving DecidableEq, Repr

/-- The move takes place at a line tick (R98, R100, R101), not from its acceptance on (R96). -/
def Move.atLine : Move → Bool
  | .enter | .switch | .leave => true
  | .now | .timed | .toStandby | .toMaint => false

/-- The move from the present mode to a target (R96, R273): none where R96 lists none. `same` says that the present lead context is named. DEEP STANDBY is
reached from MAINT only through STANDBY. -/
def moveOf (cur : Mode) (deepNow same : Bool) (m : Mode) (deep : Bool) : Option Move :=
  match cur, m with
  | .standby, .standby => if deep = deepNow then some .now else some .timed
  | .standby, .ready => some .timed
  | .standby, .maint => some .timed
  | .ready, .ready => if same then some .now else some .switch
  | .ready, .standby => some .toStandby
  | .ready, .maint => some .toMaint
  | .ready, .line | .ready, .field | .ready, .split | .ready, .frame => some .enter
  | .line, .line | .field, .field | .split, .split => if same then some .now else some .switch
  | .frame, .frame => if same then some .now else none
  | .line, .field | .line, .split | .field, .line | .field, .split | .split, .line | .split, .field => some .switch
  | .line, .ready | .field, .ready | .split, .ready | .frame, .ready => some .leave
  | .line, .standby | .field, .standby | .split, .standby | .frame, .standby => some .leave
  | .maint, .standby => if deep then none else some .timed
  | .maint, .ready => some .timed
  | .maint, .maint => some .now
  | _, _ => none

/-- The lead context that a move applies passes the rules of the target mode and of R36–R52 (R98). -/
def State.leadHalfBad (s : State) (m : Mode) (ctx : CtxIx) : Bool :=
  let h := s.comingHalf ctx
  leadBad m h || s.applyBad h

/-- The move applies the context that its command names (R94, R98, R100): an entry, a switch, and READY from STANDBY or MAINT. -/
def appliesCtx (mv : Move) (m : Mode) : Bool := mv = .enter || mv = .switch || (mv = .timed && m = .ready)

/-- The lines from the present one to the first that a move may name (R50, R97, R100, R130). The minimum of two holds for a change of the lead context
within READY too: DESIGN CHOICE, log entry 98. -/
def State.lineGap (s : State) (mv : Move) (newMap : Bool) : Nat :=
  if newMap then 256 else if s.isLeader then 64 else if mv = .switch then 2 else 1

/-- The start line that a move takes: as named, or the next possible one (R97, R100). -/
def State.startLine (s : State) (mv : Move) (newMap : Bool) (start : Nat) : Nat :=
  if start ≠ 0 then start
  else if s.isLeader then s.sensor.lineNow + s.lineGap mv newMap
  else if mv = .switch && s.sensor.anyTick then s.sensor.lineNow + s.lineGap mv newMap
  else 0

/-- The move breaks a rule of its parameters or of the context it applies (R97, R98, R100, R273). -/
def State.moveParamBad (s : State) (mv : Move) (m : Mode) (ctx : Nat) (deep force : Bool) (start : Nat) : Bool :=
  let c : CtxIx := finOf 16 ctx
  let newMap := (mv = .enter || mv = .switch) && s.needsLoad (cMapSet (s.comingHalf c))
  16 ≤ ctx || (deep && m ≠ .standby) || ((m = .standby || m = .maint) && (ctx ≠ 0 || start ≠ 0)) || (force && mv ≠ .leave)
    || (start ≠ 0 && s.tooSoon start (if mv = .now then 1 else s.lineGap mv newMap))
    || (appliesCtx mv m && s.leadHalfBad m c)

/-- The newest results of a rail's channel, each with whether it lies within `lo` to `hi` mV through a divider (R387). -/
def State.railReads (s : State) (ch : Fin 16) (lo hi div : Nat) : List Bool :=
  (s.hk.conv.toList.filter fun c => bit (vget c.data ch) 31).map fun c =>
    let v := field (vget c.data ch) 11 0 * 1250 * div
    decide (lo * 4096 ≤ v) && decide (v ≤ hi * 4096)

/-- The results of VDDA_PIX and of VDDA_CMP (R387, R433): 2.91–3.09 V through a quarter, 1.164–1.236 V through a half. -/
def State.railPix (s : State) : List Bool := s.railReads 14 2910 3090 4
def State.railCmp (s : State) : List Bool := s.railReads 13 1164 1236 2

/-- A rail of the array has been read outside its limits (R437). -/
def State.railsBad (s : State) : Bool := (s.railPix ++ s.railCmp).any fun x => !x

/-- Both rails of the array have been read, within their limits (R437). -/
def State.railsGood (s : State) : Bool := !s.railPix.isEmpty && !s.railCmp.isEmpty && !s.railsBad

/-- What keeps a move from beginning after its parameters (R50, R358, R437): the shadow set in use, PLL-A never locked, or a rail of the array out of
limits; a unit that has failed is recorded under its class (R270; which class is DESIGN CHOICE, log entry 72). -/
def State.moveHeld (s : State) (mv : Move) (m : Mode) (ctx : CtxIx) : Option (Byte × Option FltClass) :=
  if appliesCtx mv m && s.shadowHeld (cMapSet (s.comingHalf ctx)) then some (stNoResource, none)
  else if m ≠ .standby && m ≠ .maint && !s.clk.lockedOnce then some (stHwFault, some .clkA)
  else if m = .ready && s.railsBad then some (stHwFault, some .hkPlaus)
  else none

/-- A request for MAINT begins as one for STANDBY does, and the bays halt with their deep jobs saved (R94, R96). -/
def State.beginMaint (s : State) (p : Pending) : State :=
  (State.stopPorts { s with mode := { s.mode with stopTicks := true }, tick := { s.tick with request := none } }).holdBays.setPending (some p)

/-- PLL-A is started again to leave DEEP STANDBY (R92, R96); once it has locked the timebase is reconciled, where RTC_VALID is 1 (R340). -/
def State.wakePll (s : State) : State :=
  { s with clk := { s.clk with trying := vset s.clk.trying 0 true }, mode := { s.mode with reconcile := s.bkp.rtcValid } }

/-- The move begins (R96–R101). PLL-A is started again where DEEP STANDBY is left (R92). A start line named with READY from STANDBY or MAINT is not
waited for: the transition ends in its time and the context applies at the first tick (DESIGN CHOICE, log entry 80). On the leader of a string every move goes
to all devices; one that needs no tick begins with the message (DESIGN CHOICE, log entry 77). -/
def State.beginMove (s : State) (mv : Move) (m : Mode) (ctx : CtxIx) (deep force : Bool) (start : Nat) (slot : Option Slot) (role : BitVec 2) : State :=
  let newMap := (mv = .enter || mv = .switch) && s.needsLoad (cMapSet (s.comingHalf ctx))
  let line := s.startLine mv newMap start
  let p : Pending :=
    { target := if mv = .leave then .ready else m, ctx := ctx, deep := deep, force := force, slot := slot, role := role, cause := 0, since := s.tb,
      phase := .timed, thenStandby := decide (mv = .leave) && decide (m = .standby), fullyDone := none }
  match mv with
  | .now => s
  | .timed =>
    let s := if s.mode.deep && !(m = .standby && deep) then s.wakePll else s
    let s := if appliesCtx mv m then s.loadMap (cMapSet (s.comingHalf ctx)) else s
    (if m = .maint then s.beginMaint p else s.beginTimed p).sendSwitch line ctx m slot
  | .toStandby => (s.beginStandby p).sendSwitch line ctx m slot
  | .toMaint => (s.beginMaint p).sendSwitch line ctx m slot
  | .enter => (((s.loadMap (cMapSet (s.comingHalf ctx))).setPending (some { p with phase := .enter line }))).sendSwitch line ctx m slot
  | .switch => (((s.loadMap (cMapSet (s.comingHalf ctx))).setPending (some { p with phase := .switch line }))).sendSwitch line ctx m slot
  | .leave => (s.setPending (some { p with phase := .exit_ line })).sendSwitch line ctx .ready slot

/-- The role that a request needs (R96, R297): the owning session out of MAINT, an installer into it. -/
def State.moveRole (s : State) (toMaint : Bool) (slot : Slot) (ses : Option Session) : Bool :=
  match ses with
  | none => false
  | some x =>
    if s.mode.mode = .maint && !toMaint then s.mode.owner = some slot
    else if toMaint then 2 ≤ x.role.toNat
    else 1 ≤ x.role.toNat

/-- The move that a request names: none where its mode is reserved or R96 lists no such transition. -/
def State.moveNamed (s : State) (mode ctx opts : Byte) : Option (Mode × Move) :=
  match modeOf mode.toNat with
  | none => none
  | some m => (moveOf s.mode.mode s.mode.deep (decide (ctx.toNat = s.leadCtx.val)) m (bit opts 0)).map fun mv => (m, mv)

/-- Steps 5 and 6 of R266 for a mode request: its role; no transition pending and the device no locked follower (R97, R129); and a transition that R96
lists. BOOT and the reserved codes are parameters out of range (R109). -/
def State.modeEarly (s : State) (slot : Slot) (mode ctx opts : Byte) (ses : Option Session) : Option Byte :=
  let named := 1 ≤ mode.toNat && mode.toNat < 8
  if !s.moveRole (mode = 7) slot ses then some stDeniedRole
  else if s.mode.pending.isSome || s.lockedFollower then some stWrongMode
  else if named && (s.moveNamed mode ctx opts).isNone then some stWrongMode
  else none

/-- MODE_SET once admitted (R273): its role, mode, parameters, the shadow set, and PLL-A and the rails. -/
def modeSetRun (slot : Slot) (h : CmdHeader) (mode ctx opts : Byte) (start : BitVec 48) : Run := fun ses s =>
  match s.modeEarly slot mode ctx opts ses with
  | some st => fail st s
  | none => match s.moveNamed mode ctx opts with
    | none => fail stBadParam s
    | some (m, mv) =>
      let c : CtxIx := finOf 16 ctx.toNat
      let deep := bit opts 0
      let force := bit h.flags 0
      if 2 ≤ opts.toNat || s.moveParamBad mv m ctx.toNat deep force start.toNat then fail stBadParam s
      else if mv = .now then ok (bytesBe 6 0) s
      else match s.moveHeld mv m c with
        | some (st, none) => fail st s
        | some (st, some k) => .failed st (s.report k)
        | none =>
          let role : BitVec 2 := match ses with
            | some x => x.role
            | none => 0
          .wait .modeSet (s.beginMove mv m c deep force start.toNat (some slot) role)

/-- MODE_SET is audited into and out of MAINT (R297). -/
def State.modeGate (s : State) (mode : Byte) : Gate :=
  { gateAny with role := 4, audited := mode = 7 || s.mode.mode = .maint }

/-- MODE_SET (R273). -/
def execModeSet (slot : Slot) (h : CmdHeader) (mode ctx opts : Byte) (start : BitVec 48) (s : State) : Host.Outcome State Fault Refusal :=
  s.command { slot := slot, op := 0x0200, h := h, payload := [mode, ctx, opts] ++ bytesBe 6 start.toNat, bulk := [] } (s.modeGate mode)
    (modeSetRun slot h mode ctx opts start)

end Sys2Proof.Machine
end

