-- ==== Sys2Proof/Machine/CtxCmds.lean ====
section
/-! DEFINITION. The context, tick-source and capture commands (R111, R118, R122, R134–R139, R273–R275), and the MRAM write budget (R328). -/

namespace Sys2Proof.Machine

/-- NVM_DEFERRED_WRITE (R328): the interval of an item ends: a held commit is written and opens the next interval. -/
def execNvmDeferredWrite (item : NvItem) (s : State) : Host.Outcome State Fault Refusal :=
  if s.nvm.dirty.contains item then
    let s := s.nvWrite item
    .next { s with nvm := { s.nvm with dirty := s.nvm.dirty.filter (· ≠ item) } }
  else .next { s with nvm := { s.nvm with recent := s.nvm.recent.filter (· ≠ item) } }

/-- A context command runs, or waits for the end of a lock (R139). -/
def ctxRun (slot : Slot) (c : CtxIx) (w : CtxWork) (s : State) : Result :=
  if (vget s.ctx c).lockUntil.isSome then
    .wait (.ctxLocked c w) (s.onCtx c fun x => { x with waiters := x.waiters.filter (· ≠ slot) ++ [slot] })
  else match s.ctxDo slot c w with
    | (some (st, payload), s) => .done st payload [] s
    | (none, s) => .wait (.ctxSchedule c) s

/-- CTX_SET (R273, R274). -/
def ctxSetRun (slot : Slot) (ctx : Byte) (mask : BitVec 16) (values : Vector Word 12) : Run := fun _ s =>
  if 16 ≤ ctx.toNat || 4096 ≤ mask.toNat || (List.finRange 12).any (fun i => !bit mask i.val && vget values i ≠ 0) then fail stBadParam s
  else ctxRun slot (finOf 16 ctx.toNat) (.write mask values) s

def execCtxSet (slot : Slot) (h : CmdHeader) (ctx : Byte) (mask : BitVec 16) (values : Vector Word 12) (s : State) :
    Host.Outcome State Fault Refusal :=
  s.command { slot := slot, op := 0x0201, h := h, payload := [ctx] ++ bytesBe 2 mask.toNat ++ valuesBytes values, bulk := [] } gateI
    (ctxSetRun slot ctx mask values)

/-- CTX_GET (R273): HALF 0 the shadow, 1 the active half. -/
def ctxGetRun (slot : Slot) (ctx half : Byte) : Run := fun _ s =>
  if 16 ≤ ctx.toNat || 2 ≤ half.toNat then fail stBadParam s else ctxRun slot (finOf 16 ctx.toNat) (.get (half = 1)) s

def execCtxGet (slot : Slot) (h : CmdHeader) (ctx half : Byte) (s : State) : Host.Outcome State Fault Refusal :=
  s.command { slot := slot, op := 0x0202, h := h, payload := [ctx, half], bulk := [] } { gateO with exempt := true } (ctxGetRun slot ctx half)

/-- CTX_SCHEDULE (R136, R137, R273). -/
def ctxScheduleRun (slot : Slot) (ctx : Byte) (line : BitVec 48) : Run := fun _ s =>
  if 16 ≤ ctx.toNat then fail stBadParam s else ctxRun slot (finOf 16 ctx.toNat) (.schedule line.toNat) s

def execCtxSchedule (slot : Slot) (h : CmdHeader) (ctx : Byte) (line : BitVec 48) (s : State) : Host.Outcome State Fault Refusal :=
  s.command { slot := slot, op := 0x0203, h := h, payload := [ctx] ++ bytesBe 6 line.toNat, bulk := [] } gateO (ctxScheduleRun slot ctx line)

/-- CTX_CANCEL (R137, R273). -/
def ctxCancelRun (slot : Slot) (ctx : Byte) : Run := fun _ s =>
  if 16 ≤ ctx.toNat then fail stBadParam s else ctxRun slot (finOf 16 ctx.toNat) .cancel s

def execCtxCancel (slot : Slot) (h : CmdHeader) (ctx : Byte) (s : State) : Host.Outcome State Fault Refusal :=
  s.command { slot := slot, op := 0x0204, h := h, payload := [ctx], bulk := [] } gateO (ctxCancelRun slot ctx)

/-- CTX_LOCK_TIMEOUT (R139): a lock has outlasted 1 ms from the acceptance of the command that waits on `slot`. -/
def execCtxLockTimeout (slot : Slot) (s : State) : Host.Outcome State Fault Refusal :=
  match vget s.host.waits slot with
  | some (.ctxLocked ..) => .next (s.answer slot stNoResource [])
  | _ => .next s

/-- CTX_STORE (R273, R328): the shadow half goes to a stored context. -/
def ctxStoreRun (slot : Slot) (ctx store : Byte) : Run := fun _ s =>
  if 16 ≤ ctx.toNat || 64 ≤ store.toNat then fail stBadParam s else ctxRun slot (finOf 16 ctx.toNat) (.store (finOf 64 store.toNat)) s

def execCtxStore (slot : Slot) (h : CmdHeader) (ctx store : Byte) (s : State) : Host.Outcome State Fault Refusal :=
  s.command { slot := slot, op := 0x0205, h := h, payload := [ctx, store], bulk := [] } gateI (ctxStoreRun slot ctx store)

/-- CTX_LOAD (R137, R139, R273): a stored context goes to a shadow half. -/
def ctxLoadRun (slot : Slot) (store ctx : Byte) : Run := fun _ s =>
  if 16 ≤ ctx.toNat || 64 ≤ store.toNat then fail stBadParam s
  else match vget s.nvm.stored (finOf 64 store.toNat) with
    | none => fail stBadParam s
    | some v => ctxRun slot (finOf 16 ctx.toNat) (.write 0x0FFF v) s

def execCtxLoad (slot : Slot) (h : CmdHeader) (store ctx : Byte) (s : State) : Host.Outcome State Fault Refusal :=
  s.command { slot := slot, op := 0x0206, h := h, payload := [store, ctx], bulk := [] } gateO (ctxLoadRun slot store ctx)

/-- The parameters of TICK_SET are in range (R111, R122, R134). -/
def State.tickSetBad (s : State) (src policy lag edge : Byte) (per : Word) (win : Byte) : Bool :=
  6 ≤ src.toNat || 2 ≤ policy.toNat || lag = 0 || 64 < lag.toNat || 2 ≤ edge.toNat || 7 ≤ win.toNat || (src = 4 && per.toNat < s.minLp)

/-- A source is selected (R118, R122): P₀ is the extended position, the predictor starts, ticks already committed stay. -/
def State.selectSource (s : State) : State :=
  let pos : Int := match s.srcChannel with
    | some ch => (vget s.enc ch).ext.toInt
    | none => 0
  { s with tick := { s.tick with p0 := pos * 65536, last := none, asked := none, motion := none, extreme := pos, edges := [], since := s.tb,
                                 request := none, stopped := false, perLast := none } }

/-- TICK_SET (R273). -/
def tickSetRun (src policy lag edge : Byte) (per : Word) (win hyst : Byte) (acc : BitVec 16) : Run := fun _ s =>
  if s.tickSetBad src policy lag edge per win then fail stBadParam s
  else
    let cfg := lag.toNat * 256 + edge.toNat * 32 + policy.toNat * 16 + src.toNat
    let pred := acc.toNat * 65536 + hyst.toNat * 256 + win.toNat
    ok [] (State.selectSource { s with tick := { s.tick with cfg := BitVec.ofNat 32 cfg, per := per, pred := BitVec.ofNat 32 pred } })

def execTickSet (slot : Slot) (h : CmdHeader) (src policy lagLimit trigEdge : Byte) (perNs : Word) (velWin revHyst : Byte) (accMax : BitVec 16)
    (s : State) : Host.Outcome State Fault Refusal :=
  s.command { slot := slot, op := 0x0207, h := h, bulk := [],
              payload := [src, policy, lagLimit, trigEdge] ++ bytesBe 4 perNs.toNat ++ [velWin, revHyst] ++ bytesBe 2 accMax.toNat }
    { gateI with modes := modesSR } (tickSetRun src policy lagLimit trigEdge perNs velWin revHyst accMax)

/-- The generator re-anchors at a new RATIO (R118): at the boundary of the last tick committed, or where it was. -/
def TickSource.reanchor (x : TickSource) (ratio : Word) : TickSource :=
  { x with ratio := ratio, p0 := (x.last.map (·.1)).getD x.p0, asked := x.last, request := none }

/-- RATIO_SET (R111, R118, R273). -/
def ratioSetRun (ratio : Word) : Run := fun _ s =>
  if ratio.toNat < 0x1000 then fail stBadParam s else ok [] (State.refreshRequest { s with tick := s.tick.reanchor ratio })

def execRatioSet (slot : Slot) (h : CmdHeader) (ratio : Word) (s : State) : Host.Outcome State Fault Refusal :=
  s.command { slot := slot, op := 0x0208, h := h, payload := bytesBe 4 ratio.toNat, bulk := [] } gateI (ratioSetRun ratio)

/-- ENC_SET (R114, R134, R273). -/
def encSetRun (ch filt decode invert zmode : Byte) : Run := fun _ s =>
  if 2 ≤ ch.toNat || 16 ≤ filt.toNat || 3 ≤ decode.toNat || 2 ≤ invert.toNat || 2 ≤ zmode.toNat then fail stBadParam s
  else
    let cfg := zmode.toNat * 256 + invert.toNat * 64 + decode.toNat * 16 + filt.toNat
    ok [] { s with enc := vmod s.enc (finOf 2 ch.toNat) fun x => { x with cfg := BitVec.ofNat 32 cfg } }

def execEncSet (slot : Slot) (h : CmdHeader) (ch filtNs decode invert zmode : Byte) (s : State) : Host.Outcome State Fault Refusal :=
  s.command { slot := slot, op := 0x0209, h := h, payload := [ch, filtNs, decode, invert, zmode], bulk := [] } { gateI with modes := modesSR }
    (encSetRun ch filtNs decode invert zmode)

/-- CAL_CAPTURE (R275): the lines that exit from now on go to HBM. -/
def calCaptureRun (slot : Slot) (lines : Word) (pa : BitVec 40) : Run := fun _ s =>
  if lines = 0 || 65536 < lines.toNat || pa.toNat % 64 ≠ 0 || hbmEnd < pa.toNat + 98688 * lines.toNat then fail stBadParam s
  else if s.cap.isSome then fail stNoResource s
  else
    let s := { s with cap := some { slot := slot, lines := lines.toNat, done_ := 0, pa := pa, since := s.tb } }
    let s := if s.mode.mode = .maint && s.clk.ticksAllowed then { s with tick := { s.tick with allowed := some s.tb } } else s
    .wait .calCapture s

def execCalCapture (slot : Slot) (h : CmdHeader) (lines : Word) (pa : BitVec 40) (s : State) : Host.Outcome State Fault Refusal :=
  s.command { slot := slot, op := 0x0301, h := h, payload := bytesBe 4 lines.toNat ++ bytesBe 5 pa.toNat, bulk := [] }
    { gateI with modes := fun m => m = .ready || m = .maint } (calCaptureRun slot lines pa)

/-- The capture ends: its command answers with LINES_DONE, where it still waits (R275, R286). -/
def State.endCapture (s : State) (c : Capture) (st : Byte) : State :=
  let s := { s with cap := none }
  if vget s.host.waits c.slot = some .calCapture then s.answer c.slot st (bytesBe 4 c.done_) else s

/-- CAL_CAPTURE_DONE: every line has been written. -/
def execCalCaptureDone (s : State) : Host.Outcome State Fault Refusal :=
  match s.cap with
  | some c => if c.lines ≤ c.done_ then .next (s.endCapture c stOk) else .next s
  | none => .next s

/-- CAL_CAPTURE_TIMEOUT (R275): 10 s without a tick. The lines captured stay. -/
def execCalCaptureTimeout (t : Nat) (s : State) : Host.Outcome State Fault Refusal :=
  let s := s.atTb t
  match s.cap with
  | some c => if c.done_ < c.lines && Nat.max c.since s.sensor.lastTb + 10000000000 ≤ s.tb then .next (s.endCapture c stTimeout) else .next s
  | none => .next s

/-- RCHAR_OFS and RCHAR_GAIN of a yard and gain (R62): OFFSET rounded half to even from 1/4,096 e⁻, which the rule does not say: DESIGN CHOICE, log
entry 65. -/
def State.rcharOfs (s : State) (i : Fin 16) : Word :=
  let r := vget s.sensor.rchar i
  let age := if r.known then Nat.min 255 ((s.tb - r.tb) / 1000000) else 0
  let ofs := (BitVec.ofInt 16 (rhe r.offset 2)).toNat
  BitVec.ofNat 32 ((if r.validH then 2 ^ 25 else 0) + (if r.validL then 2 ^ 24 else 0) + age * 65536 + ofs)

def State.rcharGain (s : State) (i : Fin 16) : Word :=
  let r := vget s.sensor.rchar i
  let g := (BitVec.ofInt 16 (clampInt (-32768) 32767 r.gainPpm)).toNat
  BitVec.ofNat 32 (g * 65536 + (BitVec.ofInt 16 r.trim).toNat)

/-- CAL_STATUS (R275). -/
def calStatusRun (yard : Byte) : Run := fun _ s =>
  if 8 ≤ yard.toNat then fail stBadParam s
  else
    let i (g : Nat) : Fin 16 := finOf 16 (2 * yard.toNat + g)
    ok ([s.rcharOfs (i 0), s.rcharGain (i 0), s.rcharOfs (i 1), s.rcharGain (i 1)].flatMap fun w => bytesBe 4 w.toNat) s

def execCalStatus (slot : Slot) (h : CmdHeader) (yard : Byte) (s : State) : Host.Outcome State Fault Refusal :=
  s.command { slot := slot, op := 0x0302, h := h, payload := [yard], bulk := [] } { gateO with exempt := true } (calStatusRun yard)

end Sys2Proof.Machine
end

