-- ==== Sys2Proof/Machine/Timers.lean ====
section
/-! DEFINITION. The timers (R370–R377, R384). -/

namespace Sys2Proof.Machine

/-- The cart that a timer gates, where it gates one. -/
def Timer.cart (x : Timer) : Option CartIx := if bit x.route 31 then some (finOf 32 (field x.route 28 24)) else none

/-- A timer changed. -/
def State.onTmr (s : State) (t : TmrIx) (f : Timer → Timer) : State := { s with ts := { s.ts with tmr := vmod s.ts.tmr t f } }

/-- What one count step does: the new count, and whether the timer overflows (R370). -/
def Timer.next (x : Timer) : Word × Bool := if x.reload ≤ x.cnt then (0, true) else (x.cnt + 1, false)

/-- The routed event of a timer reaches its cart (R374): it releases the head descriptor of an idle cart, or is missed. -/
def State.cartEvent (s : State) (t : TmrIx) (q : CartIx) : State :=
  let c := vget s.det.carts q
  if c.state = .idle && !c.queue.isEmpty && !c.freed then
    { s with det := { s.det with carts := vset s.det.carts q { c with freed := true } } }
  else s.onTmr t fun x => { x with cartMiss := satInc x.cartMiss }

/-- The events of a count step go to the strobe engines, to whatever selects them and to the routed cart (R371, R372, R374, R379). -/
def State.tmrEvents (s : State) (t : TmrIx) (x : Timer) (cnt : Word) (wrap : Bool) : State :=
  let m (c : Fin 2) : Bool := vget x.cmp c = cnt
  let s := if m 0 then (s.strobePulse (pulseMatch t 0)).event (evMatch t 0) else s
  let s := if m 1 then (s.strobePulse (pulseMatch t 1)).event (evMatch t 1) else s
  let s := if wrap then (s.strobePulse (pulseOverflow t)).event (evOverflow t) else s
  let ev := field x.route 30 29
  match x.cart with
  | some q => if (ev = 0 && m 0) || (ev = 1 && m 1) || (ev = 2 && wrap) then s.cartEvent t q else s
  | none => s

/-- The start of a timer (R373): from its present count. -/
def Timer.start (x : Timer) : Timer := { x with run := true, heard := false }

/-- The EV_SEL event of a timer is there to be taken (R372). -/
def State.evThere (s : State) (x : Timer) : Bool := x.heard || s.outsideEdge x.evSel

/-- TIMER_COUNT_STEP (R370, R371, R376): in MODE 0b10 where an EV_SEL event has arrived. -/
def execTimerCountStep (t : TmrIx) (s : State) : Host.Outcome State Fault Refusal :=
  let x := vget s.ts.tmr t
  if x.run && !s.tmrHeld x && (x.mode ≠ 2 || s.evThere x) then
    let (cnt, wrap) := x.next
    .next ((s.onTmr t fun x => { x with cnt := cnt, run := !(wrap && x.oneshot), heard := false }).tmrEvents t x cnt wrap)
  else .next s

/-- TMR_GO (R373): every timer named starts. One whose clock stands holds its count until the clock is back (R376). -/
def execTmrGo (mask : BitVec 16) (s : State) : Host.Outcome State Fault Refusal :=
  let tmr : Vector Timer 16 := Vector.ofFn fun t => if bit mask t.val then (vget s.ts.tmr t).start else vget s.ts.tmr t
  .next { s with ts := { s.ts with tmr := tmr } }

/-- TMR_STOP (R373): STOP is written; the count is kept. -/
def execTmrStop (tmr : TmrIx) (s : State) : Host.Outcome State Fault Refusal := .next (s.onTmr tmr fun x => { x with run := false })

/-- TIMER_EVENT_START (R373): the event that EV_SEL names, which has arrived, starts a timer of MODE 0b01. -/
def execTimerEventStart (tmr : TmrIx) (s : State) : Host.Outcome State Fault Refusal :=
  let x := vget s.ts.tmr tmr
  if x.mode = 1 && s.evThere x then .next (s.onTmr tmr Timer.start) else .next s

/-- A timer captures its count (R375): the capture joins the queue, or sets OVF on a full one. -/
def Timer.capture (x : Timer) : Timer :=
  let x := { x with capHeard := x.capHeard - 1 }
  if 4 ≤ x.cap.length then { x with ovf := true } else { x with cap := x.cap ++ [x.cnt] }

/-- TIMER_CAPTURE (R375): the CAP_SEL event that has arrived pushes the count. -/
def execTimerCapture (tmr : TmrIx) (s : State) : Host.Outcome State Fault Refusal :=
  let x := vget s.ts.tmr tmr
  if 0 < x.capHeard || s.outsideEdge x.capSel then .next (s.onTmr tmr Timer.capture) else .next s

/-- The read of TMR_CAP (R375): the oldest capture, removed; 0 from an empty queue. -/
def State.readCapture (s : State) (tmr : TmrIx) : Word × State :=
  match (vget s.ts.tmr tmr).cap with
  | [] => (0, s)
  | c :: cs => (c, s.onTmr tmr fun x => { x with cap := cs })

/-- TMR_CAP_READ. -/
def execTmrCapRead (tmr : TmrIx) (s : State) : Host.Outcome State Fault Refusal :=
  let (v, s) := s.readCapture tmr
  .next { s with host := { s.host with busRead := v.setWidth 64 } }

end Sys2Proof.Machine
end

