-- ==== Sys2Proof/Machine/Strobes.lean ====
section
/-! DEFINITION. The strobe engines and the STB pins (R378–R383, R385). -/

namespace Sys2Proof.Machine

/-- An engine changed. -/
def State.onEng (s : State) (e : EngIx) (f : Engine → Engine) : State := { s with ts := { s.ts with eng := vmod s.ts.eng e f } }

/-- STB_INACT of the protection shadow (R314, R382). -/
def State.stbInact (s : State) : BitVec 16 := (vget s.fuse.shadow 1).extractLsb' 0 16

/-- Pin i is driven at its active level (R382): output bit i mod 8 of a named engine is 1. -/
def State.pinActive (s : State) (i : Fin 16) : Bool :=
  let r := vget s.ts.route i
  (List.finRange 8).any fun e => bit r e.val && bit (vget s.ts.eng e).out (i.val % 8)

/-- Pin i reads at its active level: as driven, or as the level `pins` from outside where it is an input (R379, R382). -/
def State.stbRead (s : State) (pins : BitVec 16) (i : Fin 16) : Bool :=
  if bit (vget s.ts.route i) 8 then s.pinActive i else bit pins i.val != bit s.stbInact i.val

/-- The level on a STB pin that the device drives (R382). -/
def State.pinHigh (s : State) (i : Fin 16) : Bool := s.pinActive i != bit s.stbInact i.val

/-- The edges of the pins that the device drives, from state `s` to state `t` (R372). -/
def State.pinEdges (s t : State) : State :=
  (List.finRange 16).foldl (fun u i =>
    if bit (vget t.ts.route i) 8 && s.pinHigh i != t.pinHigh i then u.event (if t.pinHigh i then evRise i else evFall i) else u) t

/-- A level source of an engine's input (R379). -/
def State.stbLevel (s : State) (e : Engine) (pins : BitVec 16) (code : Nat) : Bool :=
  if code = 0 then false
  else if code ≤ 0x10 then s.stbRead pins (finOf 16 (code - 1))
  else if 0x13 ≤ code && code ≤ 0x15 then s.nextEntry.1.testBit (code - 0x13)
  else if 0x16 ≤ code && code ≤ 0x19 then s.nextEntry.2.testBit (code - 0x16)
  else if code = 0x4A then e.tx.isEmpty
  else if code = 0x4B then e.rx.length = 32
  else if 0x4C ≤ code && code ≤ 0x53 then bit s.ts.swf (code - 0x4C)
  else false

/-- Input i of an engine at a step: a pulse source reads its latch. -/
def State.stbInput (s : State) (e : Engine) (pins : BitVec 16) (i : Fin 6) : Bool :=
  let c := e.inCode i
  if isPulse c then bit e.latch i.val else s.stbLevel e pins c

/-- The LUT entry of an index: entries that are 0 are not listed. -/
def Engine.entry (e : Engine) (ix : Nat) : BitVec 24 := (e.lut.lookup ix).getD 0

/-- Fields of a LUT entry (R380). -/
def entryNext (x : BitVec 24) : BitVec 5 := x.extractLsb' 0 5
def entryOut (x : BitVec 24) : Byte := x.extractLsb' 5 8
def entryHold (x : BitVec 24) : Bool := bit x 13
def entryShiftOut (x : BitVec 24) : Bool := bit x 14
def entryShiftIn (x : BitVec 24) : Bool := bit x 15
def entryWidth (x : BitVec 24) : Nat := 2 ^ field x 17 16
def entryIrq (x : BitVec 24) : Bool := bit x 18

/-- The TX shift register takes the next FIFO word where its 32 bits are spent (R381). -/
def Engine.load (e : Engine) : Engine :=
  if e.txLeft ≠ 0 then e
  else match e.tx with
    | [] => e
    | w :: ws => { e with txShift := w, txLeft := 32, tx := ws }

/-- Shift out w bits over the outputs `base` (R381): UNDERRUN where no data is there. -/
def Engine.shiftOut (e : Engine) (w : Nat) (base : Byte) : Engine :=
  let e := e.load
  if e.txLeft = 0 then { e with underrun := true, out := base }
  else
    { e with out := setField base 0 w (e.txShift.toNat % 2 ^ w), txShift := e.txShift >>> w, txLeft := e.txLeft - w }

/-- Shift in w bits, the first from bit 0 of `x` (R381): a full word goes to the RX FIFO, or is discarded with OVERRUN. -/
def Engine.shiftIn (e : Engine) (w : Nat) (x : Nat) : Engine :=
  let all := e.rxShift.toNat + (x % 2 ^ w) * 2 ^ e.rxHave
  let have_ := e.rxHave + w
  if have_ < 32 then { e with rxShift := BitVec.ofNat 32 all, rxHave := have_ }
  else
    let e := { e with rxShift := BitVec.ofNat 32 (all / 2 ^ 32), rxHave := have_ - 32 }
    if 32 ≤ e.rx.length then { e with overrun := true } else { e with rx := e.rx ++ [BitVec.ofNat 32 all] }

/-- The bits an engine shifts in: pins 8·GROUP upward at their active level. -/
def State.stbBits (s : State) (e : Engine) (pins : BitVec 16) : Nat :=
  let g := if bit e.ctrl 15 then 8 else 0
  (List.range 8).foldl (fun a i => if s.stbRead pins (finOf 16 (g + i)) then a + 2 ^ i else a) 0

/-- The effect of entry `x` on an engine (R378, R380, R381). -/
def Engine.apply (e : Engine) (x : BitVec 24) (bits : Nat) : Engine :=
  let base := if entryHold x then e.out else entryOut x
  let w := entryWidth x
  let e := if entryShiftOut x then e.shiftOut w base else { e with out := base }
  let e := if entryShiftIn x then e.shiftIn w bits else e
  { e with state := entryNext x, irq := e.irq || entryIrq x, latch := 0 }

/-- STROBE_STEP (R378): one step of a running engine; `pins` are the levels applied to the pins from outside. -/
def execStrobeStep (e : EngIx) (pins : BitVec 16) (s : State) : Host.Outcome State Fault Refusal :=
  let x := vget s.ts.eng e
  if x.run && s.stbClock then
    let ins := (List.finRange 6).foldl (fun a i => if s.stbInput x pins i then a + 2 ^ i.val else a) 0
    let en := x.entry (x.state.toNat * 64 + ins)
    let t := s.pinEdges (s.onEng e fun y => y.apply en (s.stbBits x pins))
    if entryIrq en then
      let t := { t with hk := { t.hk with cpIrq := setBit t.hk.cpIrq e.val true } }
      .next ((t.strobePulse (pulseIrq e)).event (evIrq e))
    else .next t
  else .next s

/-- STB_GO (R378): every engine named starts in START_STATE with its outputs at 0. -/
def execStbGo (mask : Byte) (s : State) : Host.Outcome State Fault Refusal :=
  if s.stbClock then
    let start (x : Engine) : Engine := { x with run := true, state := x.ctrl.extractLsb' 8 5, out := 0 }
    let eng : Vector Engine 8 := Vector.ofFn fun e => if bit mask e.val then start (vget s.ts.eng e) else vget s.ts.eng e
    .next (s.pinEdges { s with ts := { s.ts with eng := eng } })
  else .next s

/-- An engine stops (R383): outputs at 0, its state kept. -/
def Engine.stop (e : Engine) : Engine := { e with run := false, out := 0 }

/-- STB_STOP. -/
def execStbStop (e : EngIx) (s : State) : Host.Outcome State Fault Refusal := .next (s.pinEdges (s.onEng e Engine.stop))

/-- STB_TX (R381): a word joins the TX FIFO, or sets WRFULL. -/
def Engine.push (e : Engine) (w : Word) : Engine := if 32 ≤ e.tx.length then { e with wrfull := true } else { e with tx := e.tx ++ [w] }

/-- STB_TX_WRITE. -/
def execStbTxWrite (e : EngIx) (word : Word) (s : State) : Host.Outcome State Fault Refusal :=
  .next (if s.hubUp then s.onEng e fun x => x.push word else s)

/-- The read of STB_RX (R385): the oldest word, removed; 0 when empty. -/
def State.readRx (s : State) (e : EngIx) : Word × State :=
  match (vget s.ts.eng e).rx with
  | [] => (0, s)
  | w :: ws => (w, s.onEng e fun x => { x with rx := ws })

/-- STB_RX_READ. -/
def execStbRxRead (e : EngIx) (s : State) : Host.Outcome State Fault Refusal :=
  let (v, s) := s.readRx e
  .next { s with host := { s.host with busRead := v.setWidth 64 } }

/-- The first tick whose PRE_LT has not fired has it now. -/
def donePre : List DueTick → List DueTick
  | [] => []
  | d :: ds => if d.pre then d :: donePre ds else { d with pre := true } :: ds

/-- PRE_LT (R379): PRE_NS before the next tick instant that is final, or as soon as it is final, then with PRE_LATE. Never with
SRC = TRIG. -/
def execPreLt (t : Nat) (s : State) : Host.Outcome State Fault Refusal :=
  let s := s.atTb t
  match s.tick.due.find? fun d => !d.pre with
  | none => .next s
  | some d =>
    let at_ := d.inst - s.ts.preNs.toNat
    if field s.tick.cfg 2 0 = 3 || s.tb < at_ || !s.tbRun then .next s
    else .next (State.strobePulse { s with tick := { s.tick with due := donePre s.tick.due }, ts := { s.ts with preLate := s.ts.preLate || at_ < s.tb } } pulsePreLt)

end Sys2Proof.Machine
end

