-- ==== Sys2Proof/Machine/Objects.lean ====
section
/-! DEFINITION. Object transfers: the commands that begin, carry, end and discard them, and what each object's end commits (R140, R268, R269, R275, R276,
R279, R281). -/

namespace Sys2Proof.Machine

/-- The numbers of `n` bytes that a byte string holds, little-endian. -/
def chunksLe (n : Nat) : (fuel : Nat) → List Byte → List Nat
  | 0, _ => []
  | fuel + 1, bs => if bs.isEmpty then [] else natLe (bs.take n) :: chunksLe n fuel (bs.drop n)

/-- All of them. -/
def numsLe (n : Nat) (bs : List Byte) : List Nat := chunksLe n (bs.length / n) bs

/-- A 16-bit number, signed. -/
def signed16 (x : Nat) : Int := if x < 32768 then x else (x : Int) - 65536

/-- Every entry is at least the one before it (R43). -/
def nonDecreasing : List Nat → Bool
  | [] => true
  | [_] => true
  | a :: b :: rest => a ≤ b && nonDecreasing (b :: rest)

/-- A table named by either half of any context (R140). -/
def State.tableNamed (s : State) (p : CtxHalf → Bool) : Bool := s.ctx.toList.any fun x => p x.active || p x.shadow

/-- The object may not be replaced now (R269, R276, R281). -/
def State.objBusy (s : State) (k : ObjKind) : Bool :=
  match k with
  | .codeTable .. => false
  | .stallMap i => s.sensor.activeSet = i || s.sensor.shadowSet = i
  | .columnTable i => s.tableNamed fun h => cColtab h = i || cColtabB h = i
  | .defectTable i => s.tableNamed fun h => cDeftab h = i
  | .lookupTable i => s.tableNamed fun h => cLut h = i
  | .kernel i _ _ =>
    s.tableNamed (fun h => cJobEn h && cJobKslot h = i)
      || s.det.bays.toList.any fun b => b.slots.toList.any fun d => d.state ≠ .empty && d.kslot = i
  | .strobe e => (vget s.ts.eng e).run
  | .firmware _ => false

/-- A range that a firmware command may write or read: HBM or the general hayloft (R276). -/
def memRangeOk (a n : Nat) : Bool := a + n ≤ hbmEnd || (0x1000200000 ≤ a && a + n ≤ 0x1002000000)

/-- The size of an object is exact (R269). -/
def totalOk (k : ObjKind) (total : Nat) : Bool :=
  match k with
  | .codeTable .. => total = 512
  | .stallMap _ => total = 4194304
  | .columnTable _ => total = 65536
  | .defectTable _ => total = 2048
  | .lookupTable _ => total = 4096
  | .kernel _ pa _ => 4 ≤ total && total ≤ 1048576 && total % 4 = 0 && memRangeOk pa.toNat total
  | .strobe _ => total = 6144
  | .firmware _ => 1 ≤ total && total ≤ 2097152

/-- A begin opens the transfer of the slot's session (R268). -/
def beginRun (slot : Slot) (k : ObjKind) (total crc : Word) : Run := fun _ s =>
  if !totalOk k total.toNat then fail stBadParam s
  else if (vget s.host.transfers slot).isSome || s.objBusy k then fail stNoResource s
  else
    let t : Transfer := { kind := k, total := total.toNat, crc := crc, bytes := [] }
    ok [] { s with host := { s.host with transfers := vset s.host.transfers slot (some t) } }

/-- The object that CAL_BEGIN names (R269). -/
def calKind (type index arg : Byte) : Option ObjKind :=
  let i := index.toNat
  if type = 1 then
    if 1 ≤ i && i < 8 && arg.toNat < 8 then some (.codeTable (finOf 2 arg.toNat) (finOf 8 i) (finOf 4 (arg.toNat / 2))) else none
  else if arg ≠ 0 || i = 0 then none
  else if type = 2 then if i < 16 then some (.stallMap (finOf 16 i)) else none
  else if type = 3 then if i < 32 then some (.columnTable (finOf 32 i)) else none
  else if type = 4 then if i < 32 then some (.defectTable (finOf 32 i)) else none
  else if type = 5 then if i < 16 then some (.lookupTable (finOf 16 i)) else none
  else none

/-- CAL_BEGIN (R275). -/
def calBeginRun (slot : Slot) (type index arg : Byte) (total crc : Word) : Run := fun ses s =>
  match calKind type index arg with
  | none => fail stBadParam s
  | some k => beginRun slot k total crc ses s

def execCalBegin (slot : Slot) (h : CmdHeader) (type index arg : Byte) (total crc : Word) (s : State) : Host.Outcome State Fault Refusal :=
  s.command { slot := slot, op := 0x0300, h := h, payload := [type, index, arg] ++ bytesBe 4 total.toNat ++ bytesBe 4 crc.toNat, bulk := [] } gateI
    (calBeginRun slot type index arg total crc)

/-- KERN_BEGIN (R276). -/
def kernBeginRun (slot : Slot) (kslot : Byte) (pa entry : BitVec 40) (total crc : Word) : Run := fun ses s =>
  if 16 ≤ kslot.toNat then fail stBadParam s else beginRun slot (.kernel (finOf 16 kslot.toNat) pa entry) total crc ses s

def execKernBegin (slot : Slot) (h : CmdHeader) (kslot : Byte) (pa entry : BitVec 40) (total crc : Word) (s : State) :
    Host.Outcome State Fault Refusal :=
  s.command { slot := slot, op := 0x0500, h := h, bulk := [],
              payload := [kslot] ++ bytesBe 5 pa.toNat ++ bytesBe 5 entry.toNat ++ bytesBe 4 total.toNat ++ bytesBe 4 crc.toNat } gateI
    (kernBeginRun slot kslot pa entry total crc)

/-- STROBE_BEGIN (R281). -/
def strobeBeginRun (slot : Slot) (engine : Byte) (total crc : Word) : Run := fun ses s =>
  if 8 ≤ engine.toNat then fail stBadParam s else beginRun slot (.strobe (finOf 8 engine.toNat)) total crc ses s

def execStrobeBegin (slot : Slot) (h : CmdHeader) (engine : Byte) (total crc : Word) (s : State) : Host.Outcome State Fault Refusal :=
  s.command { slot := slot, op := 0x0A03, h := h, payload := [engine] ++ bytesBe 4 total.toNat ++ bytesBe 4 crc.toNat, bulk := [] } gateI
    (strobeBeginRun slot engine total crc)

/-- FW_BEGIN (R279): never into the running bank. -/
def fwBeginRun (slot : Slot) (bank : Byte) (total crc : Word) : Run := fun ses s =>
  if 2 ≤ bank.toNat || (s.host.phase ≠ 7 && finOf 2 bank.toNat = s.host.bank) then fail stBadParam s
  else beginRun slot (.firmware (finOf 2 bank.toNat)) total crc ses s

def execFwBegin (slot : Slot) (h : CmdHeader) (bank : Byte) (total crc : Word) (s : State) : Host.Outcome State Fault Refusal :=
  s.command { slot := slot, op := 0x0800, h := h, payload := [bank] ++ bytesBe 4 total.toNat ++ bytesBe 4 crc.toNat, bulk := [] }
    { gateM with fail := 2 } (fwBeginRun slot bank total crc)

/-- The rights of OBJ_CHUNK, OBJ_END and OBJ_ABORT: those of the begin command (R297). -/
def State.objGate (s : State) (slot : Slot) (audited : Bool) : Gate :=
  match vget s.host.transfers slot with
  | none => { gateAny with role := 4, fail := 2 }
  | some t => match t.kind with
    | .firmware _ => { gateM with audited := audited, fail := 2 }
    | _ => { gateI with audited := audited, fail := 2 }

/-- OBJ_CHUNK (R268, R272). -/
def objChunkRun (slot : Slot) (offset : Word) (bulk : List Byte) : Run := fun _ s =>
  match vget s.host.transfers slot with
  | none => fail stBadParam s
  | some t =>
    if bulk.isEmpty || offset.toNat ≠ t.bytes.length || t.total < t.bytes.length + bulk.length then fail stBadParam s
    else ok [] { s with host := { s.host with transfers := vset s.host.transfers slot (some { t with bytes := t.bytes ++ bulk }) } }

def execObjChunk (slot : Slot) (h : CmdHeader) (offset : Word) (bulk : List Byte) (s : State) : Host.Outcome State Fault Refusal :=
  s.command { slot := slot, op := 0x0110, h := h, payload := bytesBe 4 offset.toNat, bulk := bulk } (s.objGate slot false)
    (objChunkRun slot offset bulk)

/-- A stall-map set from its bytes, or none where one breaks the layout. -/
def parseMap (bs : List Byte) : Option (Vector (Strip Nat) 256) :=
  if bs.any fun b => 8 ≤ b.toNat then none
  else some (Vector.ofFn fun r => stripOf (((bs.drop (16384 * r.val)).take 16384).map (·.toNat)))

/-- The bits of a byte, lowest first. -/
def bitsOf (b : Byte) : List Bool := (List.range 8).map fun i => bit b i

/-- The first poisoned word that a block write covers only in part (R211). -/
def Memory.edgePoison (m : Memory) (a n : Nat) : Option Nat :=
  if a % 8 ≠ 0 && m.poisoned (a / 8) then some (a / 8)
  else if (a + n) % 8 ≠ 0 && m.poisoned ((a + n) / 8) then some ((a + n) / 8)
  else none

/-- A write of the firmware to memory: none where the HBM controller is in reset or a poisoned word is written in part (R211, R219). -/
def State.fwWrite (s : State) (a : Nat) (bs : List Byte) : Option State :=
  if (a < hbmEnd && s.hbmDown) || (s.mem.edgePoison a bs.length).isSome then none
  else
    let z := s.correct ((if a % 8 ≠ 0 then [a / 8] else []) ++ if (a + bs.length) % 8 ≠ 0 then [(a + bs.length) / 8] else [])
    some { z with mem := z.mem.deviceWrite a bs }

/-- What the firmware reports when such a write fails (R211, R270): the poisoned word, or the HBM controller in reset (log entry 101). -/
def State.fwWriteFault (s : State) (a n : Nat) : State :=
  if a < hbmEnd && s.hbmDown then s.report .config else s.eccFound (s.mem.edgePoison a n)

/-- The layout of a firmware image (R269, R325): LENGTH names the code, the SVN is in its range and the bytes that are 0 are 0. FORMAT, the digest and the
signature are the matter of its verification. DEDUCED (log entry 89). -/
def imageLaid (bs : List Byte) : Bool :=
  256 ≤ bs.length && natLe ((bs.drop 12).take 4) + 256 = bs.length && natLe ((bs.drop 4).take 4) ≤ 128
    && ((bs.drop 0x14).take 44).all (· = 0) && ((bs.drop 0xD0).take 48).all (· = 0)

/-- A code table joins the store (R43). -/
def State.putCode (s : State) (g : Fin 2) (i : Fin 8) (au : Fin 4) (bs : List Byte) : State :=
  let es := numsLe 2 bs
  let t : CodeTable := { au := au, entries := Vector.ofFn fun k => es.getD k.val 0, version := s.sensor.tableVersions + 1 }
  State.nvCommit { s with sensor := { s.sensor with
    tableVersions := s.sensor.tableVersions + 1, tables := vmod s.sensor.tables g fun v => vset v i (some t) } } (.codeTable g i)

/-- A column table joins the store; tables 1–24 persist (R140, R324). -/
def State.putColumns (s : State) (i : Fin 32) (bs : List Byte) : State :=
  let es := stripOf ((numsLe 4 bs).map fun x => (signed16 (x % 65536), x / 65536))
  let s := { s with groom := { s.groom with columns := vset s.groom.columns i (some es) } }
  if i.val ≤ 24 then s.nvCommit (.columnTable i) else s

/-- A kernel's words go to memory; its entry is set and every instruction cache is invalidated (R269). -/
def State.putKernel (s : State) (k : Fin 16) (pa entry : BitVec 40) (bs : List Byte) : Option State :=
  (s.fwWrite pa.toNat bs).map fun s =>
    { s with det := { s.det with kernEntry := vset s.det.kernEntry k ((entry &&& 0xFFFFFFFFFC#40).setWidth 64),
                                 bays := s.det.bays.map fun b => { b with code := [] } } }

/-- The content of an object is committed in one step, or its layout is broken (R269). -/
def State.commitObj (s : State) (k : ObjKind) (bs : List Byte) : Except Byte State :=
  match k with
  | .codeTable g i au => if nonDecreasing (numsLe 2 bs) then .ok (s.putCode g i au bs) else .error stBadParam
  | .stallMap i => match parseMap bs with
    | some m => .ok { s with sensor := { s.sensor with maps := vset s.sensor.maps i (some m) } }
    | none => .error stBadParam
  | .columnTable i => .ok (s.putColumns i bs)
  | .defectTable i =>
    .ok (State.nvCommit { s with groom := { s.groom with defects := vset s.groom.defects i (some (stripOf (bs.flatMap bitsOf))) } } (.defectTable i))
  | .lookupTable i =>
    .ok (State.nvCommit { s with groom := { s.groom with luts := vset s.groom.luts i (some (stripOf (bs.map (·.toNat)))) } } (.lookupTable i))
  | .kernel i pa entry => match s.putKernel i pa entry bs with
    | some s => .ok s
    | none => .error stHwFault
  | .strobe e =>
    let es := numsLe 3 bs
    if es.any fun x => 2 ^ 19 ≤ x then .error stBadParam
    else
      let lut := (es.zipIdx.filter fun x => x.1 ≠ 0).map fun x => (x.2, BitVec.ofNat 24 x.1)
      .ok (s.onEng e fun y => { y with lut := lut })
  | .firmware b => if !imageLaid bs then .error stBadParam else .ok { s with nvm := { s.nvm with banks := vset s.nvm.banks b { factory := none, image := bs, invalid := false } } }

/-- OBJ_END (R268, R269): the length, the CRC, then the object's own rules. -/
def objEndRun (slot : Slot) : Run := fun _ s =>
  match vget s.host.transfers slot with
  | none => fail stBadParam s
  | some t =>
    if t.bytes.length ≠ t.total then fail stBadParam s
    else if crc32c t.bytes ≠ t.crc then fail stIntegrity s
    else
      let busy := s.objBusy t.kind
      match s.commitObj t.kind t.bytes with
      | .error st =>
        if st = stBadParam then fail st s
        else if busy then fail stNoResource s
        else match t.kind with
          | .kernel _ pa _ => .done st [] [] (s.fwWriteFault pa.toNat t.bytes.length)
          | _ => fail st s
      | .ok s' =>
        if busy then fail stNoResource s
        else ok [] { s' with host := { s'.host with transfers := vset s'.host.transfers slot none } }

def execObjEnd (slot : Slot) (h : CmdHeader) (s : State) : Host.Outcome State Fault Refusal :=
  s.command { slot := slot, op := 0x0111, h := h, payload := [], bulk := [] } (s.objGate slot true) (objEndRun slot)

/-- OBJ_ABORT (R268, R272): in all modes. -/
def objAbortRun (slot : Slot) : Run := fun _ s => ok [] { s with host := { s.host with transfers := vset s.host.transfers slot none } }

def execObjAbort (slot : Slot) (h : CmdHeader) (s : State) : Host.Outcome State Fault Refusal :=
  s.command { slot := slot, op := 0x0112, h := h, payload := [], bulk := [] } { s.objGate slot false with modes := allModes } (objAbortRun slot)

end Sys2Proof.Machine
end

