-- ==== Sys2Proof/Machine/CartOps.lean ====
section
/-! DEFINITION. The carts: descriptors, their faults, RESUME and ABORT, and the bytes that a chunk moves in memory (R211, R213–R219). -/

namespace Sys2Proof.Machine

/-- A cart changed. -/
def State.onCart (s : State) (q : CartIx) (f : Cart → Cart) : State := { s with det := { s.det with carts := vmod s.det.carts q f } }

def State.getCart (s : State) (q : CartIx) : Cart := vget s.det.carts q

/-- A descriptor as R214 lays it out. -/
structure DescView where
  src : BitVec 40
  sstride : BitVec 24
  dst : BitVec 40
  dstride : BitVec 24
  rowBytes : Nat
  rows : Nat
  chain : Bool
  done_ : Nat
  flag : Fin 16
  progress : Nat
  reserved : Bool

/-- The fields of a descriptor's 32 bytes (R214). -/
def descView (raw : BitVec 256) : DescView :=
  { src := raw.extractLsb' 0 40, sstride := raw.extractLsb' 40 24, dst := raw.extractLsb' 64 40, dstride := raw.extractLsb' 104 24,
    rowBytes := field raw 144 128, rows := field raw 175 160, chain := bit raw 192, done_ := field raw 194 193,
    flag := finOf 16 (field raw 199 196), progress := field raw 255 224,
    reserved := field raw 159 145 ≠ 0 || field raw 191 176 ≠ 0 || bit raw 195 || field raw 223 200 ≠ 0 }

/-- The bytes of a whole transfer. -/
def DescView.total (d : DescView) : Nat := d.rows * d.rowBytes

/-- What R214 makes a descriptor fault. -/
def DescView.bad (d : DescView) (who : Poster) : Bool :=
  d.reserved || d.rowBytes = 0 || 65536 < d.rowBytes || d.rows = 0 || d.done_ = 3 || (who = .firmware && d.done_ = 2)
    || d.total ≤ d.progress

/-- The source and destination addresses of byte i of a transfer (R215). -/
def DescView.srcOf (d : DescView) (i : Nat) : BitVec 40 :=
  d.src + BitVec.ofInt 40 (d.sstride.toInt * (i / d.rowBytes : Nat)) + BitVec.ofNat 40 (i % d.rowBytes)

def DescView.dstOf (d : DescView) (i : Nat) : BitVec 40 :=
  d.dst + BitVec.ofInt 40 (d.dstride.toInt * (i / d.rowBytes : Nat)) + BitVec.ofNat 40 (i % d.rowBytes)

/-- The bytes of the chunk that begins at byte i (R215): those of one row in one 64-byte-aligned destination granule. -/
def DescView.chunk (d : DescView) (i : Nat) : Nat :=
  Nat.min (d.rowBytes - i % d.rowBytes) (64 - field (d.dstOf i) 5 0)

/-- A timer holds the cart's head descriptor for its event (R374). -/
def State.cartRouted (s : State) (q : CartIx) : Bool := s.ts.tmr.toList.any fun x => x.cart = some q

/-- The bay of the job that posted a descriptor. -/
def Poster.bay : Poster → Option BayIx
  | .firmware => none
  | .line b _ _ => some b
  | .deep b _ _ => some b

/-- Who makes a cart's accesses (R204, R209). -/
def State.cartRequester (s : State) (q : CartIx) (d : CartDesc) : Requester :=
  { tlb := 128 + q.val / 8, asid := d.asid, cycle := s.tb, ownLoft := d.poster.bay, deepJob := none }

def State.cartTlb (s : State) (q : CartIx) : List TlbEntry := vget s.det.cartTlb (finOf 4 (q.val / 8))

def State.setCartTlb (s : State) (q : CartIx) (t : List TlbEntry) : State :=
  { s with det := { s.det with cartTlb := vset s.det.cartTlb (finOf 4 (q.val / 8)) t } }

/-- A deep slot's job is held FAULTED, wherever it stands (R216): on its bay its state is saved first. -/
def State.faultSlot (s : State) (b : BayIx) (j : Fin 4) : State :=
  let y := s.getBay b
  let held (y : Bay) : Bay := y.onSlot j fun d => { d with state := .faulted }
  if y.work = .deep j then s.onBay b fun y => { held y with work := .saving j .fault }
  else if y.work = .saving j .preempt || y.work = .saving j .yield then s.onBay b fun y => { held y with work := .saving j .fault }
  else if y.work = .restoring j then (s.onBay b fun y => { held y with work := .idle }).startNext b
  else
    match (y.getSlot j).state with
    | .ready | .saved | .running => s.onBay b held
    | .empty | .faulted | .lost | .done => s

/-- The job that posted a descriptor ends with the cart's fault, where it has not ended (R216). -/
def State.endPoster (s : State) (who : Poster) : State :=
  match who with
  | .firmware => s
  | .line b line seg =>
    match (s.getBay b).work with
    | .line j => if j.line = line && j.seg = seg then (s.endLineJob b j).startNext b else s
    | _ => s
  | .deep b j fills => if ((s.getBay b).getSlot j).fills = fills then s.faultSlot b j else s

/-- The line a poster's job was dispatched on, and whether it is a deep job (R217). -/
def Poster.line_ : Poster → Nat
  | .line _ n _ => n
  | .firmware | .deep .. => 0

def Poster.isDeep : Poster → Bool
  | .deep .. => true
  | _ => false

/-- The record of a cart's fault (R217). -/
def cartRec (q : CartIx) (d : CartDesc) (prog : Word) (point : Byte) (f : AccFault) : FaultRec :=
  { cls := f.cls, point := point, source := BitVec.ofNat 8 (0x80 + q.val), asid := d.asid, deep := d.poster.isDeep, walk := f.walk,
    loft := f.loft, page := f.page, pc := d.va, word := prog, va := f.va, line := d.poster.line_ }

/-- A descriptor faults (R216, R217): the cart is STOPPED with its progress, the record is written and the poster's job ends. -/
def State.cartFault (s : State) (q : CartIx) (d : CartDesc) (prog : Word) (begun : Bool) (point : Byte) (f : AccFault) : State :=
  let s := s.eccFound f.found
  let s := s.faultRecord (cartRec q d prog point f)
  (s.onCart q fun c => { c with state := .stopped, begun := begun, prog := prog, dva := d.va }).endPoster d.poster

/-- The 32 bytes of a chained descriptor, read as a cart reads (R208, R211, R214), and the state after it. -/
def State.fetchDesc (s : State) (q : CartIx) (d : CartDesc) : Except AccFault (BitVec 256 × State) :=
  let vas := [0, 8, 16, 24].map fun k => d.va + BitVec.ofNat 40 k
  match s.accessAll (s.cartRequester q d) .cartRead (s.cartTlb q) vas with
  | .error f => .error f
  | .ok (as, t) =>
    match (vas.zip as).find? fun x => s.mem.poisoned (x.2 / 8) with
    | some x => .error { AccFault.of .ecc x.1 with found := some (x.2 / 8) }
    | none =>
      .ok (BitVec.ofNat 256 (natLe (as.flatMap fun a => s.mem.gets a 8)),
        (s.met (s.cartRequester q d) (s.cartTlb q) vas (as.map (· / 8))).setCartTlb q t)

/-- A cart may start the descriptor at its head (R213, R374): it is idle and no timer holds the descriptor, or it goes on to a chained
or a resumed one. -/
def State.cartReady (s : State) (q : CartIx) : Bool :=
  let c := s.getCart q
  !c.queue.isEmpty && ((c.state = .idle && (!s.cartRouted q || c.freed)) || (c.state = .running && !c.begun))

/-- The head descriptor starts: a chained one is fetched; the rules of R214 are checked before any byte moves. A breach is recorded with the
descriptor's own PROGRESS (R216), and every fault of a chained one with 0 (R217, R219); its faulting VA is the descriptor's own: DESIGN CHOICE, log
entry 106. -/
def State.startDesc (s : State) (q : CartIx) : State :=
  match (s.getCart q).queue with
  | [] => s
  | d :: rest =>
    let got : Except AccFault (BitVec 256 × State) := match d.raw with
      | some raw => .ok (raw, s)
      | none => s.fetchDesc q d
    match got with
    | .error f => s.cartFault q d 0 false 4 f
    | .ok (raw, s) =>
      let s := s.onCart q fun c => { c with queue := { d with raw := some raw } :: rest, freed := false }
      let v := descView raw
      if v.bad d.poster then s.cartFault q d (if d.chained then 0 else BitVec.ofNat 32 v.progress) false 4 (.of .descriptor d.va)
      else s.onCart q fun c => { c with state := .running, begun := true, prog := BitVec.ofNat 32 v.progress, dva := d.va }

/-- The DONE action of a completed descriptor (R214, R215). -/
def State.doneAction (s : State) (q : CartIx) (d : CartDesc) (v : DescView) : State :=
  if v.done_ = 1 then { s with det := { s.det with cartIrq := setBit s.det.cartIrq q.val true } }
  else if v.done_ = 2 then s.setFlag d.poster v.flag
  else s

/-- A descriptor is complete: its action, then the chained descriptor, or the next in the queue (R214, R215, R374). -/
def State.descDone (s : State) (q : CartIx) (d : CartDesc) (v : DescView) (rest : List CartDesc) : State :=
  let s := s.doneAction q d v
  let routed := s.cartRouted q
  if v.chain then
    let next : CartDesc := { d with raw := none, va := d.va + 32, chained := true }
    s.onCart q fun c => { c with queue := next :: rest, begun := false, prog := 0, dva := next.va, state := if routed then .idle else .running }
  else s.onCart q fun c => { c with queue := rest, begun := false, state := .idle }

/-- RESUME (R216): a stopped cart goes on from its progress. -/
def State.cartResume (s : State) (q : CartIx) : State :=
  if (s.getCart q).state = .stopped then s.onCart q fun c => { c with state := .running } else s

/-- ABORT (R216): a stopped cart discards the descriptor and its queue. -/
def State.cartAbort (s : State) (q : CartIx) : State :=
  if (s.getCart q).state = .stopped then s.onCart q fun c => { c with state := .idle, queue := [], begun := false, freed := false } else s

/-- The bytes that a chunk moves within memory, each with its source (R211, R215): every byte of the chunk is read before any is written, so source and
destination may overlap in it: DESIGN CHOICE, log entry 105. A destination word that receives a byte of a poisoned
word is poisoned; a whole word written from clean words is clean; a poisoned word written in part stays poisoned. -/
def Memory.move (m : Memory) (xs : List (Nat × Nat)) : Memory × Nat :=
  let cells : List Host.Cell := xs.map fun x => (x.2, m.get x.1)
  let bad := ((xs.filter fun x => m.poisoned (x.1 / 8)).map fun x => x.2 / 8).dedup
  let kept := (wordsOf cells).filter fun w => m.poisoned w && !covers cells w
  (((m.puts cells).unmark ((wordsOf cells).filter (covers cells))).mark (bad ++ kept), bad.length)

end Sys2Proof.Machine
end

