-- ==== Sys2Proof/Machine/BayCmds.lean ====
section
/-! DEFINITION. The bays and kernels commands (R199, R209, R276) and the events of the save frames and of the TLBs (R201, R209). -/

namespace Sys2Proof.Machine

/-- AS_SET (R276): ASID 1–15, the level-1 table and EN. -/
def asSetRun (asid : Byte) (l1 : BitVec 40) (en : Byte) : Run := fun _ s =>
  if asid = 0 || 16 ≤ asid.toNat || 2 ≤ en.toNat then fail stBadParam s
  else
    let w : BitVec 64 := setBit ((l1 &&& 0xFFFFFFE000#40).setWidth 64) 0 (en = 1)
    ok [] { s with det := { s.det with asBase := vset s.det.asBase (finOf 16 asid.toNat) w } }

def execAsSet (slot : Slot) (h : CmdHeader) (asid : Byte) (l1 : BitVec 40) (en : Byte) (s : State) : Host.Outcome State Fault Refusal :=
  s.command { slot := slot, op := 0x0501, h := h, payload := [asid] ++ bytesBe 5 l1.toNat ++ [en], bulk := [] } gateI (asSetRun asid l1 en)

/-- MEM_WRITE (R276). -/
def memWriteRun (pa : BitVec 40) (bulk : List Byte) : Run := fun _ s =>
  if bulk.isEmpty || !memRangeOk pa.toNat bulk.length then fail stBadParam s
  else match s.fwWrite pa.toNat bulk with
    | some s => ok [] s
    | none => .done stHwFault [] [] (s.fwWriteFault pa.toNat bulk.length)

def execMemWrite (slot : Slot) (h : CmdHeader) (pa : BitVec 40) (bulk : List Byte) (s : State) : Host.Outcome State Fault Refusal :=
  s.command { slot := slot, op := 0x0502, h := h, payload := bytesBe 5 pa.toNat, bulk := bulk } gateI (memWriteRun pa bulk)

/-- How many of `n` bytes come before the first poisoned word (R276). -/
def Memory.cleanFor (m : Memory) (a n : Nat) : Nat := ((List.range n).find? fun i => m.poisoned ((a + i) / 8)).getD n

/-- MEM_READ (R276): HW_FAULT at a poisoned word, with the bytes before it. -/
def memReadRun (pa : BitVec 40) (len : BitVec 16) : Run := fun _ s =>
  let a := pa.toNat
  if len = 0 || 4096 < len.toNat || !memRangeOk a len.toNat then fail stBadParam s
  else if a < hbmEnd && s.hbmDown then hwFault .config s
  else
    let n := s.mem.cleanFor a len.toNat
    let z := s.correct ((List.range n).map fun i => (a + i) / 8)
    if n = len.toNat then .done stOk [] (s.mem.gets a n) z
    else .done stHwFault [] (s.mem.gets a n) (z.eccFound (some ((a + n) / 8)))

def execMemRead (slot : Slot) (h : CmdHeader) (pa : BitVec 40) (len : BitVec 16) (s : State) : Host.Outcome State Fault Refusal :=
  s.command { slot := slot, op := 0x0503, h := h, payload := bytesBe 5 pa.toNat ++ bytesBe 2 len.toNat, bulk := [] } gateI (memReadRun pa len)

/-- A write of TLB_INV (R209, R220): the fields are stored, GO starts the invalidation unless one runs, and a reserved SCOPE with GO is a
configuration fault. -/
def State.tlbInvWrite (s : State) (v : Word) : State :=
  let s := { s with det := { s.det with tlbInv := v &&& 0xFC#32 } }
  if !bit v 0 then s
  else if field v 3 2 = 3 then s.report .config
  else if s.det.tlbBusy.isSome then s
  else { s with det := { s.det with tlbBusy := some (v.extractLsb' 4 4, v.extractLsb' 2 2, s.det.tlbInvVa.extractLsb' 16 24) } }

/-- TLB_INV_GO (R209). -/
def execTlbInvGo (value : Word) (s : State) : Host.Outcome State Fault Refusal :=
  .next (if s.hubUp then s.tlbInvWrite (setBit value 0 true) else s)

/-- TLB_INV_DONE (R209): no TLB holds an entry that the invalidation covers. -/
def execTlbInvDone (s : State) : Host.Outcome State Fault Refusal :=
  match s.det.tlbBusy with
  | none => .next s
  | some inv =>
    let keep (t : List TlbEntry) : List TlbEntry := t.filter fun e => !e.covered inv
    .next { s with det := { s.det with
      tlbBusy := none, bays := s.det.bays.map fun y => { y with tlb := keep y.tlb }, cartTlb := s.det.cartTlb.map keep } }

/-- TLB_INV, the command (R276): refused while an invalidation runs. -/
def tlbInvRun (asid scope : Byte) (va : BitVec 40) : Run := fun _ s =>
  if 16 ≤ asid.toNat || 3 ≤ scope.toNat then fail stBadParam s
  else if s.det.tlbBusy.isSome then fail stNoResource s
  else
    let s := { s with det := { s.det with tlbInvVa := (va &&& 0xFFFFFF0000#40).setWidth 64 } }
    ok [] (s.tlbInvWrite (BitVec.ofNat 32 (16 * asid.toNat + 4 * scope.toNat + 1)))

def execTlbInv (slot : Slot) (h : CmdHeader) (asid scope : Byte) (va : BitVec 40) (s : State) : Host.Outcome State Fault Refusal :=
  s.command { slot := slot, op := 0x0504, h := h, payload := [asid, scope] ++ bytesBe 5 va.toNat, bulk := [] } gateI (tlbInvRun asid scope va)

/-- JOB_SET (R276). -/
def jobSetRun (loftSplit : Byte) : Run := fun _ s =>
  if 64 ≤ loftSplit.toNat then fail stBadParam s else ok [] { s with det := { s.det with jobCfg := loftSplit.setWidth 32 } }

def execJobSet (slot : Slot) (h : CmdHeader) (loftSplit : Byte) (s : State) : Host.Outcome State Fault Refusal :=
  s.command { slot := slot, op := 0x0505, h := h, payload := [loftSplit], bulk := [] } { gateI with modes := modesSRM } (jobSetRun loftSplit)

/-- A deep slot holds a new job, which may run from its entry (R199). -/
def DeepSlot.fill (d : DeepSlot) (kslot : Fin 16) (asid : BitVec 4) : DeepSlot :=
  { d with state := .ready, kslot := kslot, asid := asid, fills := d.fills + 1, fresh := true }

/-- The bay no longer counts a slot as the one it last pre-empted. -/
def Bay.forget (y : Bay) (j : Fin 4) : Bay := { y with preempted := y.preempted.filter (· ≠ j) }

/-- DJ_FILL (R199, R276). -/
def djFillRun (bay djSlot kslot asid : Byte) : Run := fun _ s =>
  if 128 ≤ bay.toNat || 4 ≤ djSlot.toNat || 16 ≤ kslot.toNat || asid = 0 || 16 ≤ asid.toNat then fail stBadParam s
  else
    let b : BayIx := finOf 128 bay.toNat
    let j : Fin 4 := finOf 4 djSlot.toNat
    let st := ((s.getBay b).getSlot j).state
    if !s.hasBay b || !(st = .empty || st = .done) then fail stNoResource s
    else
      let s := s.onBay b fun y => (y.onSlot j fun d => d.fill (finOf 16 kslot.toNat) (asid.extractLsb' 0 4)).forget j
      ok [] (s.startNext b)

def execDjFill (slot : Slot) (h : CmdHeader) (bay djSlot kslot asid : Byte) (s : State) : Host.Outcome State Fault Refusal :=
  s.command { slot := slot, op := 0x0506, h := h, payload := [bay, djSlot, kslot, asid], bulk := [] } gateI (djFillRun bay djSlot kslot asid)

/-- DJ_CTRL (R276): the slot named, or the status that refuses it. -/
def State.djSlot (s : State) (bay djSlot : Byte) : Except Byte (BayIx × Fin 4) :=
  if 128 ≤ bay.toNat || 4 ≤ djSlot.toNat then .error stBadParam
  else
    let b : BayIx := finOf 128 bay.toNat
    let j : Fin 4 := finOf 4 djSlot.toNat
    if !s.hasBay b || ((s.getBay b).getSlot j).state = .running then .error stNoResource else .ok (b, j)

/-- DJ_CTRL with ACTION 0: a FAULTED slot may run again, from its frame (R199). -/
def djResumeRun (bay djSlot : Byte) : Run := fun _ s =>
  match s.djSlot bay djSlot with
  | .error st => fail st s
  | .ok (b, j) =>
    if ((s.getBay b).getSlot j).state ≠ .faulted then fail stNoResource s
    else ok [] ((s.onBay b fun y => y.onSlot j fun d => { d with state := .ready, fresh := false }).startNext b)

def execDjResume (slot : Slot) (h : CmdHeader) (bay djSlot : Byte) (s : State) : Host.Outcome State Fault Refusal :=
  s.command { slot := slot, op := 0x0507, h := h, payload := [bay, djSlot, 0], bulk := [] } gateO (djResumeRun bay djSlot)

/-- DJ_CTRL with ACTION 1: the slot is EMPTY; a restore of it is abandoned. -/
def djDiscardRun (bay djSlot : Byte) : Run := fun _ s =>
  match s.djSlot bay djSlot with
  | .error st => fail st s
  | .ok (b, j) =>
    let s := s.onBay b fun y =>
      let y := (y.onSlot j fun d => { d with state := .empty }).forget j
      if y.work = .restoring j then { y with work := .idle } else y
    ok [] (s.startNext b)

def execDjDiscard (slot : Slot) (h : CmdHeader) (bay djSlot : Byte) (s : State) : Host.Outcome State Fault Refusal :=
  s.command { slot := slot, op := 0x0507, h := h, payload := [bay, djSlot, 1], bulk := [] } gateO (djDiscardRun bay djSlot)

/-- CART_SET (R276). -/
def cartSetRun (cart owner : Byte) : Run := fun _ s =>
  if 32 ≤ cart.toNat || 16 ≤ owner.toNat then fail stBadParam s
  else
    let q : CartIx := finOf 32 cart.toNat
    if (s.getCart q).state ≠ .idle then fail stNoResource s else ok [] (s.onCart q fun c => { c with owner := owner.extractLsb' 0 4 })

def execCartSet (slot : Slot) (h : CmdHeader) (cart owner : Byte) (s : State) : Host.Outcome State Fault Refusal :=
  s.command { slot := slot, op := 0x0508, h := h, payload := [cart, owner], bulk := [] } gateI (cartSetRun cart owner)

/-- CART_CTRL (R276): RESUME and ABORT of a cart that is STOPPED. -/
def cartCtrlRun (cart : Byte) (act : State → CartIx → State) : Run := fun _ s =>
  if 32 ≤ cart.toNat then fail stBadParam s
  else
    let q : CartIx := finOf 32 cart.toNat
    if (s.getCart q).state ≠ .stopped then fail stNoResource s else ok [] (act s q)

def execCartCtrlResume (slot : Slot) (h : CmdHeader) (cart : Byte) (s : State) : Host.Outcome State Fault Refusal :=
  s.command { slot := slot, op := 0x0509, h := h, payload := [cart, 0], bulk := [] } gateO (cartCtrlRun cart State.cartResume)

def execCartCtrlAbort (slot : Slot) (h : CmdHeader) (cart : Byte) (s : State) : Host.Outcome State Fault Refusal :=
  s.command { slot := slot, op := 0x0509, h := h, payload := [cart, 1], bulk := [] } gateO (cartCtrlRun cart State.cartAbort)

/-- The unread records of the fault ring, at most `max` (R218). -/
def State.unreadFaults (s : State) (max : Nat) : Nat := Nat.min max (s.det.fltHead - s.det.fltTail).toNat

/-- FAULT_READ (R276): the oldest unread records; TAIL advances past them. -/
def faultReadRun (max : Byte) : Run := fun _ s =>
  if max = 0 || 6 < max.toNat then fail stBadParam s
  else
    let n := s.unreadFaults max.toNat
    let recs := (List.range n).flatMap fun i => s.mem.gets (faultRing + 32 * (s.det.fltTail + BitVec.ofNat 8 i).toNat) 32
    ok ([BitVec.ofNat 8 n] ++ recs) { s with det := { s.det with fltTail := s.det.fltTail + BitVec.ofNat 8 n } }

def execFaultRead (slot : Slot) (h : CmdHeader) (max : Byte) (s : State) : Host.Outcome State Fault Refusal :=
  s.command { slot := slot, op := 0x050A, h := h, payload := [max], bulk := [] } gateO (faultReadRun max)

/-- SAVE_FRAME_WRITTEN (R201, R202, R219): a frame is complete, or fails at word `failed` with a bus or an ECC fault. -/
def execSaveFrameWritten (b : BayIx) (s : State) (failed : Option (Fin 288) := none) (bus : Bool := false) : Host.Outcome State Fault Refusal :=
  .next (s.saveDone b failed bus)

/-- FRAME_RESTORE_DONE (R201, R202, R219). -/
def execFrameRestoreDone (b : BayIx) (s : State) : Host.Outcome State Fault Refusal := .next (s.restoreDone b)

end Sys2Proof.Machine
end

