-- ==== Sys2Proof/Machine/PortRows.lean ====
section
/-! DEFINITION. The ports and streams commands (R277), the writes of PORT_CFG (R244) and the events of the ports (R225, R236, R237, R241–R248). -/

namespace Sys2Proof.Machine

/-- The port a command names: outside 0–3 BAD_PARAM, absent on the RKZ-1625-S NO_RESOURCE (R14, R277). -/
def State.portNamed (s : State) (port : Byte) : Except Byte PortIx :=
  if 4 ≤ port.toNat then .error stBadParam
  else if !s.hasPort (finOf 4 port.toNat) then .error stNoResource
  else .ok (finOf 4 port.toNat)

/-- PORT_SET (R221, R251, R277). -/
def portSetRun (port rate sealEn : Byte) (sealN : BitVec 16) : Run := fun _ s =>
  if 5 ≤ rate.toNat || 2 ≤ sealEn.toNat || sealN.toNat < 16 || 1024 < sealN.toNat then fail stBadParam s
  else match s.portNamed port with
    | .error st => fail st s
    | .ok p =>
      if (s.getPort p).state ≠ .stopped then fail stBadParam s
      else ok [] (s.onPort p fun q =>
        { q with cfg := setField q.cfg 28 3 rate.toNat, sealCfg := setField (setBit q.sealCfg 31 (sealEn = 1)) 0 11 sealN.toNat })

def execPortSet (slot : Slot) (h : CmdHeader) (port rate sealEn : Byte) (sealN : BitVec 16) (s : State) : Host.Outcome State Fault Refusal :=
  s.command { slot := slot, op := 0x0600, h := h, payload := [port, rate, sealEn] ++ bytesBe 2 sealN.toNat, bulk := [] } gateI
    (portSetRun port rate sealEn sealN)

/-- PORT_START (R244, R277): answered once the port runs. -/
def portStartRun (port : Byte) : Run := fun _ s =>
  match s.portNamed port with
  | .error st => fail st s
  | .ok p =>
    if (s.getPort p).state = .running then ok [] s
    else if !(s.waiting (· = .portStart p)).isEmpty then fail stNoResource s
    else .wait (.portStart p) (s.askStart p)

def execPortStart (slot : Slot) (h : CmdHeader) (port : Byte) (s : State) : Host.Outcome State Fault Refusal :=
  s.command { slot := slot, op := 0x0601, h := h, payload := [port], bulk := [] }
    { gateO with modes := fun m => m = .ready || m.streaming } (portStartRun port)

/-- PORT_STOP (R244, R277): answered in electrical idle. A second one finds the port held by the slot that waits (R267); a start and a stop may wait for
one port together (R244). -/
def portStopRun (port : Byte) : Run := fun _ s =>
  match s.portNamed port with
  | .error st => fail st s
  | .ok p =>
    let q := s.getPort p
    if q.state = .stopped && !(s.portInReset p && bit q.cfg 31) then ok [] s
    else if !(s.waiting (· = .portStop p)).isEmpty then fail stNoResource s
    else .wait (.portStop p) (s.askStop p)

def execPortStop (slot : Slot) (h : CmdHeader) (port : Byte) (s : State) : Host.Outcome State Fault Refusal :=
  s.command { slot := slot, op := 0x0602, h := h, payload := [port], bulk := [] } gateO (portStopRun port)

/-- A lane setting keeps R222 and R251. -/
def laneOk (pre post swing zdiff pol : Nat) : Bool :=
  pre < 8 && post < 16 && pre + post ≤ 20 && swing ≤ 10 && zdiff < 2 && pol < 2

/-- LANE_SET (R222, R277). -/
def laneSetRun (lane pre post swing zdiff pol : Byte) : Run := fun _ s =>
  if 32 ≤ lane.toNat || !laneOk pre.toNat post.toNat swing.toNat zdiff.toNat pol.toNat then fail stBadParam s
  else if s.isSmall && 16 ≤ lane.toNat then fail stNoResource s
  else
    let w := BitVec.ofNat 32 (512 * post.toNat + 64 * pre.toNat + 4 * swing.toNat + 2 * zdiff.toNat + pol.toNat)
    ok [] { s with port := { s.port with lane := vset s.port.lane (finOf 32 lane.toNat) w } }

def execLaneSet (slot : Slot) (h : CmdHeader) (lane pre post swing zdiff pol : Byte) (s : State) : Host.Outcome State Fault Refusal :=
  s.command { slot := slot, op := 0x0603, h := h, payload := [lane, pre, post, swing, zdiff, pol], bulk := [] } gateI
    (laneSetRun lane pre post swing zdiff pol)

/-- The word of STREAM_CFG (R251). -/
def streamWord (en : Bool) (kind port fld : Nat) : Word :=
  setBit (BitVec.ofNat 32 (2 ^ 29 * kind + 2 ^ 27 * port + 2 ^ 25 * fld)) 31 en

/-- STREAM_SET (R239, R277): of a disabled stream. -/
def streamSetRun (stream kind port field : Byte) : Run := fun _ s =>
  if 16 ≤ stream.toNat || 3 ≤ kind.toNat || 4 ≤ field.toNat then fail stBadParam s
  else
    let k : StreamIx := finOf 16 stream.toNat
    if (s.getStream k).en then fail stBadParam s
    else match s.portNamed port with
      | .error st => fail st s
      | .ok p => ok [] (s.onStream k fun d => { d with cfg := streamWord false kind.toNat p.val field.toNat })

def execStreamSet (slot : Slot) (h : CmdHeader) (stream kind port field : Byte) (s : State) : Host.Outcome State Fault Refusal :=
  s.command { slot := slot, op := 0x0604, h := h, payload := [stream, kind, port, field], bulk := [] } gateI (streamSetRun stream kind port field)

/-- Two enabled streams that R239 does not allow together. -/
def DataStream.clash (a b : DataStream) : Bool := a.kind = b.kind && (a.kind ≠ 0 || a.fld = b.fld)

/-- A stream may be enabled beside the enabled ones (R239). -/
def State.mayEnable (s : State) (k : StreamIx) : Bool :=
  (List.finRange 16).all fun j => j = k || !(s.getStream j).en || !(s.getStream k).clash (s.getStream j)

/-- A stream is enabled or disabled; an enable makes a STREAM_START due (R238). -/
def State.setEnable (s : State) (k : StreamIx) (on : Bool) : State :=
  if (s.getStream k).en = on then s
  else s.onStream k fun d =>
    let d := { d with cfg := setBit d.cfg 31 on }
    if on then d.startDue else d

/-- STREAM_ENABLE (R239, R277). -/
def streamEnableRun (stream en : Byte) : Run := fun _ s =>
  if 16 ≤ stream.toNat || 2 ≤ en.toNat then fail stBadParam s
  else
    let k : StreamIx := finOf 16 stream.toNat
    if en = 1 && !s.mayEnable k then fail stBadParam s else ok [] (s.setEnable k (en = 1))

def execStreamEnable (slot : Slot) (h : CmdHeader) (stream en : Byte) (s : State) : Host.Outcome State Fault Refusal :=
  s.command { slot := slot, op := 0x0605, h := h, payload := [stream, en], bulk := [] } gateO (streamEnableRun stream en)

/-- STATE of PORT_STAT (R251). -/
def PortState.code : PortState → Nat
  | .stopped => 0 | .starting => 1 | .running => 2 | .stopping => 3

/-- The SESSION of a port, 0 when none (R251). -/
def Port.sessionWord (q : Port) : Word := match q.session with
  | some k => k.session
  | none => 0

/-- PORT_STATUS (R277). -/
def portStatusRun (port : Byte) : Run := fun _ s =>
  match s.portNamed port with
  | .error st => fail st s
  | .ok p =>
    let q := s.getPort p
    ok ([BitVec.ofNat 8 q.state.code, BitVec.ofNat 8 (field q.cfg 30 28)] ++ bytesBe 2 q.fillKib ++ bytesBe 4 q.sessionWord.toNat) s

def execPortStatus (slot : Slot) (h : CmdHeader) (port : Byte) (s : State) : Host.Outcome State Fault Refusal :=
  s.command { slot := slot, op := 0x0606, h := h, payload := [port], bulk := [] } { gateO with exempt := true } (portStatusRun port)

/-- PORT_CFG_START (R244): START = 1 is written. A port starts only in READY and the streaming modes, at a rate that is not reserved (R94, R221). -/
def execPortCfgStart (p : PortIx) (s : State) : Host.Outcome State Fault Refusal :=
  let allowed := s.mode.mode = .ready || s.mode.mode.streaming
  if s.hasPort p && allowed && field (s.getPort p).cfg 30 28 ≤ 4 then .next (s.askStart p) else .next s

/-- PORT_CFG_STOP (R244): START = 0 is written. -/
def execPortCfgStop (p : PortIx) (s : State) : Host.Outcome State Fault Refusal := .next (if s.hasPort p then s.askStop p else s)

/-- PORT_START_DONE (R244, R363): the 100 µs of Idle blocks and markers end on a starting port whose PLL has locked, so that its lanes have left electrical
idle. -/
def execPortStartDone (p : PortIx) (t : Nat) (s : State) : Host.Outcome State Fault Refusal :=
  let s := s.atTb t
  if (s.getPort p).state = .starting && (s.getPort p).lit then .next (s.startDone p) else .next s

/-- PORT_STOP_DONE (R244): the 1 ms of Idle blocks ends. -/
def execPortStopDone (p : PortIx) (s : State) : Host.Outcome State Fault Refusal :=
  if (s.getPort p).state = .stopping then .next (s.stopDone p) else .next s

/-- No tick has fired for 100 µs (R242). -/
def State.ticksQuiet (s : State) : Bool := !s.sensor.anyTick || s.sensor.lastTb + 100000 ≤ s.tb

/-- PORT_PERIOD (R242): the SEAL, STRIPE and LANES slots of every port that sends. -/
def execPortPeriod (t : Nat) (s : State) : Host.Outcome State Fault Refusal :=
  let s := s.atTb t
  if s.tbRun && s.ticksQuiet then .next s.portSlots else .next s

/-- ALIGNMENT_MARKER (R225): the markers of a port whose lanes have sent 16,383 blocks each. Where the LANES slot has more blocks to send it has sent the
markers already. -/
def execAlignmentMarker (p : PortIx) (s : State) : Host.Outcome State Fault Refusal :=
  if (s.getPort p).sends && (s.getPort p).markersDue then .next (s.onPort p fun q => q.markers p (s.polarity p)) else .next s

/-- A port runs and may compose. -/
def State.running (s : State) (p : PortIx) : Bool := (s.getPort p).state = .running

/-- STATUS_DUE (R236). -/
def execStatusDue (p : PortIx) (t : Nat) (s : State) : Host.Outcome State Fault Refusal :=
  let s := s.atTb t
  if s.running p then .next (s.composeStatus p) else .next s

/-- TIME_DUE (R237). -/
def execTimeDue (p : PortIx) (t rtc : Nat) (s : State) : Host.Outcome State Fault Refusal :=
  let s := (s.atTb t).atRtc rtc
  if s.running p then .next (s.composeTime p) else .next s

/-- The first 80 bytes of a SEAL_SIG (R248). -/
def State.sealSigBody (s : State) (k : SealSession) : List Byte :=
  bytesBe 48 k.chain.toNat ++ bytesLe 8 (BitVec.ofInt 64 ((k.number : Int) - 1)).toNat ++ bytesLe 8 s.bkp.mono.toNat
    ++ bytesLe 8 s.rtcWord.toNat ++ bytesLe 4 k.session.toNat ++ [if s.bkp.trusted then 1 else 0, 0, 0, 0]

/-- A SEAL_SIG of a running port with a session (R248): what is composed passes the seal engine first, so that the chain it signs stands at the
packet's place. -/
def State.composeSig (s : State) (p : PortIx) : State :=
  if !s.running p || !s.sealing then s
  else
    let s := s.onPort p fun q => q.sealSlot p s.lineCnt.toNat
    match (s.getPort p).session with
    | none => s
    | some k =>
      if !k.opened then s
      else
        let body := s.sealSigBody k
        let (sig, s) := s.sign body
        s.composePort p 0x8 0 (body ++ bytesBe 96 sig.toNat ++ zeros 16)

/-- SEAL_SIG_DUE (R248): at once, or after the pause of R305 (R309). -/
def execSealSigDue (p : PortIx) (rtc : Nat) (s : State) : Host.Outcome State Fault Refusal :=
  let s := s.atRtc rtc
  if s.tack.paused then .next (s.onPort p fun q => { q with sigDue := q.state = .running && q.session.isSome }) else .next (s.composeSig p)

/-- SEAL_BLOCK_TIMEOUT (R246): 10 ms of TB since the first packet of the open block. -/
def execSealBlockTimeout (p : PortIx) (t : Nat) (s : State) : Host.Outcome State Fault Refusal :=
  let s := s.atTb t
  match (s.getPort p).session with
  | none => .next s
  | some k =>
    if k.block ≠ [] && k.blockTb + 10000000 ≤ s.tb then .next (s.onPort p fun q => q.closeBlock p s.lineCnt.toNat) else .next s

/-- IDLE_DUE (R241): a running port has composed nothing for 100 µs. -/
def execIdleDue (p : PortIx) (t : Nat) (s : State) : Host.Outcome State Fault Refusal :=
  let s := s.atTb t
  if s.running p && (s.getPort p).quietTb + 100000 ≤ s.tb then .next (s.composePort p 0xA 0 (bytesLe 8 s.tb ++ zeros 24)) else .next s

end Sys2Proof.Machine
end

