-- ==== Sys2Proof/Machine/Tack.lean ====
section
/-! DEFINITION. The tack room: sessions and their ends, seal sessions anew, zeroization, the tamper response and the retention failure (R288–R311,
R337, R347). -/

namespace Sys2Proof.Machine

/-- SERIAL (R314), as IDENTIFY returns it. -/
def State.serial (s : State) : BitVec 64 := vget s.fuse.shadow 3 ++ vget s.fuse.shadow 2

/-- The protection block is sealed (R316). -/
def State.sealed_ (s : State) : Bool := vget s.fuse.shadow 0x17 ≠ 0

/-- MAKER_KEY_HASH (R314): digest byte i is byte i mod 4 of word 4 + i / 4. -/
def State.makerHash (s : State) : List Byte := (List.finRange 12).flatMap fun i => bytesLe 4 (vget s.fuse.shadow (finOf 32 (4 + i.val))).toNat

/-- MPK passes its check before use (R290, R316). -/
def State.mpkOk (s : State) : Bool := !s.sealed_ || sha384 (keyBytes s.nvm.mpk) = s.makerHash

/-- The tack room offers cryptographic services (R301, R302). -/
def State.tackUp (s : State) : Bool := s.tack.state = .operational

/-- The HMAC of a role-table entry under SKEK (R290): over its role, index and key. DESIGN CHOICE (log entry 90). -/
@[irreducible] def roleMac (skek : BitVec 256) (role index : Nat) (key : BitVec 776) : BitVec 384 :=
  BitVec.ofNat 384 (natBe (hmac384 (bytesBe 32 skek.toNat) (BitVec.ofNat 8 role :: BitVec.ofNat 8 index :: keyBytes key)))

/-- The role table as read (R323): the newest copy that checks. -/
def State.roleTable (s : State) : RoleTable := s.nvm.roles.newest.getD RoleTable.empty

/-- The entry of a role and index, before its HMAC is checked. -/
def State.roleEntry (s : State) (role : BitVec 2) (index : Nat) : Option RoleEntry :=
  if role = 2 then vget s.roleTable.ipk (finOf 4 index) else if role = 1 then vget s.roleTable.opk (finOf 8 index) else none

/-- The HMAC of an entry matches under SKEK. -/
def State.macOk (s : State) (role : BitVec 2) (index : Nat) (e : RoleEntry) : Bool :=
  match s.skek with
  | some k => roleMac k role.toNat index e.key = e.mac
  | none => false

/-- The public key of a role and index, where it is enrolled (R290, R304): a killed device cannot check the role table. -/
def State.keyOf (s : State) (role : BitVec 2) (index : Nat) : Option (BitVec 776) :=
  if role = 3 then (if s.mpkOk then some s.nvm.mpk else none)
  else match s.roleEntry role index with
    | some e => if s.macOk role index e then some e.key else none
    | none => none

/-- An entry read whose HMAC fails is a security fault (R290). -/
def State.noteMac (s : State) (role : BitVec 2) (index : Nat) : State :=
  match s.roleEntry role index with
  | some e => if s.skek.isSome && !s.macOk role index e then s.report .security else s
  | none => s

/-- A session ends (R268, R294, R421): its transfer is discarded, its unlock ends, and a device in its MAINT goes to STANDBY. -/
def State.endSession (s : State) (k : Slot) : State :=
  if (vget s.tack.sessions k).isNone then s
  else
    let asked : Bool := match s.mode.pending with
      | some p => p.target = .maint && p.slot = some k
      | none => false
    let s := if s.mode.owner = some k || asked then s.ownerGone else s
    { s with
      tack := { s.tack with sessions := vset s.tack.sessions k none },
      host := { s.host with transfers := vset s.host.transfers k none },
      dbg := { s.dbg with unlocked := if s.dbg.unlocked = some k then none else s.dbg.unlocked } }

/-- The sessions that hold a key end (R294, R298). -/
def State.endKey (s : State) (role : BitVec 2) (index : Nat) : State :=
  (List.finRange 16).foldl (fun s k => match vget s.tack.sessions k with
    | some x => if x.role = role && x.index.toNat = index then s.endSession k else s
    | none => s) s

/-- Every session ends. -/
def State.endSessions (s : State) : State := (List.finRange 16).foldl (fun s k => s.endSession k) s

/-- Every seal session ends without a closing SEAL, and new ones open on the running ports in ascending order (R245, R303, R310, R337). -/
def State.rekey (s : State) : State :=
  let s := (List.finRange 4).foldl (fun s p => s.onPort p Port.endSeal) s
  (List.finRange 4).foldl (fun s p => if s.running p then s.openSeal p else s) s

/-- Steps 1–5 of zeroization (R303, R327): every copy of SEK and of the role table is overwritten, and the DRBG instantiated anew. Its whole time passes in one
command, so that STATE never shows ZEROIZING. DESIGN CHOICE (log entry 92). -/
def State.zeroize (s : State) : State :=
  let s := s.endSessions
  let s := { s with
    bkp := { s.bkp with bbk := none },
    nvm := { s.nvm with sek := s.nvm.sek.erase, roles := s.nvm.roles.erase },
    tack := { s.tack with challenges := Vector.replicate 16 none, drbg := DrbgState.zero } }
  s.seedDrbg.rekey

/-- An entry of the tamper log (R347, R348). -/
def tampEntry (rtc : Nat) (detector : BitVec 4) (response main : Bool) : BitVec 128 :=
  BitVec.ofNat 128 (rtc % 2 ^ 63 + 2 ^ 63 + 2 ^ 64 * detector.toNat + (if response then 2 ^ 68 else 0) + if main then 2 ^ 69 else 0)

/-- A detector's event joins the tamper log (R347). -/
def State.tampLog (s : State) (detector : BitVec 4) (response : Bool) : State :=
  let b := s.bkp
  { s with bkp := { b with
    tampLog := vset b.tampLog b.tampNext (tampEntry b.rtc detector response b.vaonGood), tampNext := b.tampNext + 1,
    tampPending := b.tampPending || response } }

/-- The zeroization of a tamper response, with its event in the fault summary and the audit log (R306, R308). -/
def State.tampHandle (s : State) (detail : Byte) : State :=
  let s := s.zeroize
  let s := { s with bkp := { s.bkp with trusted := false, tampPending := false } }
  (s.report .tamper).auditEvent 0xFF04 detail

/-- The tamper response (R306): at once while the tack room runs, else BBK is erased and the rest waits for the next boot. -/
def State.tampRespond (s : State) (detail : Byte) : State :=
  if s.bkp.vaonGood && s.tack.state ≠ .selftest then s.tampHandle detail
  else { s with bkp := { s.bkp with bbk := none } }

/-- The detail of a pending response (R308): the detector of the newest entry that caused one. -/
def State.tampDetail (s : State) : Byte :=
  let newest := (List.range 32).map fun i => vget s.bkp.tampLog (finOf 32 (s.bkp.tampNext.val + 31 - i))
  match newest.find? fun e => bit e 63 && bit e 68 with
  | some e => if field e 67 64 = 7 then 2 else 1
  | none => 1

/-- The retention canary (R332). -/
def canaryPattern : BitVec 64 := 0x96C3A55A3C69F00F#64

def State.canaryOk (s : State) : Bool := s.bkp.canary = canaryPattern

/-- The counters that the audit log shows in MRAM: a damaged entry shows none (R330). -/
def Mram.counters (m : Mram) : List Nat :=
  (m.audit.zipIdx.filter fun e => !m.auditBad.contains ((m.auditNext + 1023 - e.2) % 1024)).map (·.1.counter.toNat)

/-- The highest COUNTER in the audit log (R337). -/
def State.maxCounter (s : State) : Nat :=
  (s.nvm.counters ++ s.chore.log.filterMap fun i => match i with
    | .audit e => some e.counter.toNat
    | .telemetry .. => none).foldl Nat.max 0

/-- A retention failure (R337), its steps in order. -/
def State.retention (s : State) : State :=
  let mono : BitVec 64 := BitVec.ofNat 64 (2 ^ 20 + Nat.max (s.nvm.shadow.newest.getD 0).toNat s.maxCounter)
  let (key, s) := s.draw 256
  let s := { s with
    bkp := { s.bkp with
      rtc := 0, rtcValid := false, trusted := false, mono := mono, bbk := some key, tampLog := Vector.replicate 32 0, tampNext := 0,
      tampPending := false, tampLost := true, canary := canaryPattern, retFail := true },
    nvm := { s.nvm with shadow := s.nvm.shadow.write 256 mono } }
  (s.auditEvent 0xFF07 0).rekey

/-- The canary is checked (R336): one that does not match is a retention failure. -/
def State.checkCanary (s : State) : State := if s.canaryOk then s else s.retention

/-- The boot's self-tests are over (R301, R336): the tack room offers its services, and verification begins (R260). -/
def State.testsOver (s : State) : State :=
  let s := State.checkCanary { s with tack := { s.tack with state := .operational } }
  { s with host := { s.host with phase := 3, bank := s.nvm.active } }

/-- The tack room enters ERROR (R302): every seal session ends at once. -/
def State.tackError (s : State) (test : BitVec 4) : State :=
  let s := (List.finRange 4).foldl (fun s p => s.onPort p Port.endSeal) s
  let s := { s with tack := { s.tack with state := .error, failTest := test } }
  (s.report .security).auditEvent 0xFF05 (test.setWidth 8)

end Sys2Proof.Machine
end

