-- ==== Sys2Proof/Machine/Security.lean ====
section
/-! DEFINITION. The roles and security commands (R278, R291–R298, R303, R421) and the events of sessions, challenges, lockouts and detectors
(R292–R296, R302, R305). -/

namespace Sys2Proof.Machine

/-- ROLE and INDEX name a key (R292). -/
def keyNamed (role index : Byte) : Bool :=
  (role = 1 && index.toNat < 8) || (role = 2 && index.toNat < 4) || (role = 3 && index = 0)

/-- AUTH_CHALLENGE (R292). -/
def authChallengeRun (slot : Slot) (role index : Byte) : Run := fun ses s =>
  if !keyNamed role index then fail stBadParam s
  else if (vget s.tack.sessions slot).isSome then fail stNoResource s
  else if !s.tackUp then hwFault .security s
  else if s.tack.paused then s.awaitTack slot ses
  else
    let (n, s) := s.draw 384
    let c : Challenge := { nonce := n, role := role.extractLsb' 0 2, index := index, since := s.tack.periods }
    ok (bytesBe 48 n.toNat) { s with tack := { s.tack with challenges := vset s.tack.challenges slot (some c) } }

def execAuthChallenge (slot : Slot) (h : CmdHeader) (role index : Byte) (s : State) : Host.Outcome State Fault Refusal :=
  s.command { slot := slot, op := 0x0700, h := h, payload := [role, index], bulk := [] } { gateAny with fail := 1 } (authChallengeRun slot role index)

/-- The signed message of an authentication (R292). -/
def State.authMsg (s : State) (slot : Slot) (c : Challenge) : List Byte :=
  bytesBe 48 c.nonce.toNat ++ bytesBe 8 s.serial.toNat ++ [BitVec.ofNat 8 slot.val, c.role.setWidth 8, c.index]

/-- The lockout record of a key as the tack room holds it, with the period count at which its remaining time was counted. -/
def State.live (s : State) (role : Fin 4) (index : Fin 8) : LiveLock := vget (vget s.tack.locks role) index

def State.lockRec (s : State) (role : BitVec 2) (index : Byte) : LockRec := (s.live role.toFin (finOf 8 index.toNat)).lock

/-- A record changes and is written to the next word of the journal (R295, R324). -/
def State.putLock (s : State) (role : Fin 4) (index : Fin 8) (r : LockRec) (since : Nat) : State :=
  { s with tack := { s.tack with locks := vmod s.tack.locks role fun v => vset v index { lock := r, since := since } },
           nvm := { s.nvm with journal := s.nvm.journal.write 8192 { role := role, index := index, lock := r } } }

def State.setLockRec (s : State) (role : BitVec 2) (index : Byte) (r : LockRec) : State :=
  s.putLock role.toFin (finOf 8 index.toNat) r s.tack.periods

/-- A lockout has run its time (R295). -/
def LiveLock.over (l : LiveLock) (periods : Nat) : Bool := l.since + 32768 * l.lock.remaining ≤ periods

/-- A key is under lockout (R295). -/
def State.lockedOut (s : State) (role : BitVec 2) (index : Byte) : Bool :=
  let l := s.live role.toFin (finOf 8 index.toNat)
  l.lock.locked && !l.over s.tack.periods

/-- The length in seconds of a lockout that follows `n` others (R295). -/
def lockoutSeconds (n : Nat) : Nat := Nat.min 3600 (60 * 2 ^ Nat.min n 6)

/-- A failed response (R295): the fifth in a row starts a lockout, which is audited; one during a lockout is not counted again. -/
def State.authFailed (s : State) (role : BitVec 2) (index : Byte) : State :=
  let r := s.lockRec role index
  if s.lockedOut role index then s
  else if r.fails + 1 < 5 then s.setLockRec role index { r with fails := r.fails + 1, remaining := 0, locked := false }
  else
    let d := lockoutSeconds r.lockouts
    let s := s.setLockRec role index { fails := 0, lockouts := r.lockouts + 1, remaining := d, locked := true }
    s.auditEvent 0xFF02 (BitVec.ofNat 8 (Nat.min 60 (d / 60)))

/-- A response that is denied. -/
def State.countAuthFail (s : State) : State := { s with tack := { s.tack with authFail := satInc s.tack.authFail } }

/-- The ids of the live sessions (R293). -/
def State.liveIds (s : State) : List Word := s.tack.sessions.toList.filterMap fun x => x.map (·.id)

/-- The challenge of a slot while it is valid (R292): 30 s. -/
def State.challengeOf (s : State) (slot : Slot) : Option Challenge :=
  (vget s.tack.challenges slot).filter fun c => s.tack.periods < c.since + 30 * 32768

/-- AUTH_RESPONSE (R290, R292, R293, R295). -/
def authResponseRun (slot : Slot) (sig : BitVec 768) : Run := fun ses s =>
  if !s.tackUp then hwFault .security s
  else if s.tack.paused then s.awaitTack slot ses
  else match s.challengeOf slot with
    | none => .failed stDeniedRole s.countAuthFail
    | some c =>
      let s := { s with tack := { s.tack with challenges := vset s.tack.challenges slot none } }
      let good := match s.keyOf c.role c.index.toNat with
        | some k => ecdsaVerify k (s.authMsg slot c) sig
        | none => false
      let s := s.noteMac c.role c.index.toNat
      if !good || s.lockedOut c.role c.index then .failed stDeniedRole (s.authFailed c.role c.index).countAuthFail
      else
        let s := s.setLockRec c.role c.index LockRec.clear
        let (x, s) := s.draw 32
        let id := freshId s.liveIds 20 x
        let ses : Session := { id := id, role := c.role, index := c.index, nonce := c.nonce, since := s.tack.periods, held := false }
        ok (bytesBe 4 id.toNat ++ bytesBe 2 (sessionTimeout c.role))
          { s with tack := { s.tack with sessions := vset s.tack.sessions slot (some ses) } }

def execAuthResponse (slot : Slot) (h : CmdHeader) (sig : BitVec 768) (s : State) : Host.Outcome State Fault Refusal :=
  s.command { slot := slot, op := 0x0701, h := h, payload := bytesBe 96 sig.toNat, bulk := [] } { gateAny with audited := true, fail := 1 }
    (authResponseRun slot sig)

/-- SESSION_END (R294). -/
def sessionEndRun (slot : Slot) : Run := fun _ s => ok [] (s.endSession slot)

def execSessionEnd (slot : Slot) (h : CmdHeader) (s : State) : Host.Outcome State Fault Refusal :=
  s.command { slot := slot, op := 0x0702, h := h, payload := [], bulk := [] } { gateAny with role := 4, audited := true, fail := 1 } (sessionEndRun slot)

/-- The rights of ENROL and REVOKE (R278, R297): the maker for installers. -/
def gateKeys (role : Byte) : Gate := { gateI with role := if role = 2 then 3 else 2, modes := modesSRM }

/-- A service that needs a key derived from HUK: out of ERROR, and not on a killed device (R302, R304). -/
def State.tableUp (s : State) : Bool := s.tackUp && s.skek.isSome

/-- An entry of the role table, with its HMAC (R290). -/
def State.newEntry (s : State) (role index : Byte) (key : BitVec 776) : RoleEntry :=
  { key := key, mac := roleMac (s.skek.getD 0) role.toNat index.toNat key }

/-- The next copy of the role table, with an entry changed (R290, R323). -/
def State.setKey (s : State) (role : Byte) (index : Byte) (e : Option RoleEntry) : State :=
  let t := s.roleTable
  let t := if role = 2 then { t with ipk := vset t.ipk (finOf 4 index.toNat) e } else { t with opk := vset t.opk (finOf 8 index.toNat) e }
  { s with nvm := { s.nvm with roles := s.nvm.roles.write 64 t } }

/-- ENROL (R298): the sessions of the key that is replaced end. -/
def enrolRun (slot : Slot) (role index : Byte) (key : BitVec 776) : Run := fun ses s =>
  if role = 3 || !keyNamed role index then fail stBadParam s
  else if !s.tableUp then hwFault .security s
  else if !validPoint key then fail stBadParam s
  else if s.tack.paused then s.awaitTack slot ses
  else ok [] ((s.endKey (role.extractLsb' 0 2) index.toNat).setKey role index (some (s.newEntry role index key)))

def execEnrol (slot : Slot) (h : CmdHeader) (role index : Byte) (key : BitVec 776) (s : State) : Host.Outcome State Fault Refusal :=
  s.command { slot := slot, op := 0x0703, h := h, payload := [role, index] ++ keyBytes key, bulk := [] } (gateKeys role) (enrolRun slot role index key)

/-- REVOKE (R278). -/
def revokeRun (slot : Slot) (role index : Byte) : Run := fun ses s =>
  if role = 3 || !keyNamed role index then fail stBadParam s
  else if !s.tableUp then hwFault .security s
  else if s.tack.paused then s.awaitTack slot ses
  else ok [] ((s.endKey (role.extractLsb' 0 2) index.toNat).setKey role index none)

def execRevoke (slot : Slot) (h : CmdHeader) (role index : Byte) (s : State) : Host.Outcome State Fault Refusal :=
  s.command { slot := slot, op := 0x0704, h := h, payload := [role, index], bulk := [] } (gateKeys role) (revokeRun slot role index)

/-- The signed message of TIME_SET (R298). -/
def State.timeMsg (s : State) (rtc : BitVec 64) (ses : Session) : List Byte :=
  bytesBe 8 rtc.toNat ++ bytesBe 8 s.serial.toNat ++ bytesBe 48 ses.nonce.toNat

/-- TIME_SET (R298, R338): the timebase does not change. -/
def timeSetRun (slot : Slot) (rtc : BitVec 64) (sig : BitVec 768) : Run := fun ses s =>
  if bit rtc 63 || (s.bkp.trusted && rtc.toNat < s.bkp.rtc) then fail stBadParam s
  else if !s.tackUp then hwFault .security s
  else if s.tack.paused then s.awaitTack slot ses
  else
    let good := match ses with
      | some x => match s.keyOf x.role x.index.toNat with
        | some k => ecdsaVerify k (s.timeMsg rtc x) sig
        | none => false
      | none => false
    let s := match ses with
      | some x => s.noteMac x.role x.index.toNat
      | none => s
    if !good then .failed stIntegrity s
    else ok [] { s with bkp := { s.bkp with rtc := rtc.toNat, rtcValid := true, trusted := true } }

def execTimeSet (slot : Slot) (h : CmdHeader) (rtc : BitVec 64) (sig : BitVec 768) (s : State) : Host.Outcome State Fault Refusal :=
  s.command { slot := slot, op := 0x0705, h := h, payload := bytesBe 8 rtc.toNat ++ bytesBe 96 sig.toNat, bulk := [] } gateI (timeSetRun slot rtc sig)

/-- The SEK in an object of R291, under the one-step KDF over the ECDH shared secret of E and DKAK with "RKZ-SEK" and SERIAL; none where the tag fails. -/
@[irreducible] def unwrapSek (dkak : BitVec 384) (serial : BitVec 64) (object : List Byte) : Option (BitVec 256) :=
  let info : List Byte := [0x52, 0x4B, 0x5A, 0x2D, 0x53, 0x45, 0x4B] ++ bytesBe 8 serial.toNat
  let key := ecdhKey dkak (BitVec.ofNat 776 (natBe (object.take 97))) info
  (gcmOpen key ((object.drop 97).take 12) [] ((object.drop 109).take 32) (object.drop 141)).map fun k => BitVec.ofNat 256 (natBe k)

/-- A device whose BBK is erased draws a new one. -/
def State.keepBbk (s : State) : State :=
  match s.bkp.bbk with
  | some _ => s
  | none => let (b, s) := s.draw 256; { s with bkp := { s.bkp with bbk := some b } }

/-- The next copy of SEK, under SSK (R290, R323). -/
def State.setSek (s : State) (k : BitVec 256) : State :=
  { s with nvm := { s.nvm with sek := s.nvm.sek.write 128 { under := s.ssk.getD 0, value := k } } }

/-- SEAL_EXPORT_SET (R291): a device whose BBK is erased draws a new one first. -/
def sealExportRun (slot : Slot) (bulk : List Byte) : Run := fun ses s =>
  if bulk.length ≠ 157 then fail stBadParam s
  else match s.tackUp, s.dkakKey with
    | true, some d =>
      let e : BitVec 776 := BitVec.ofNat 776 (natBe (bulk.take 97))
      if !validPoint e then fail stIntegrity s
      else if s.tack.paused then s.awaitTack slot ses
      else match unwrapSek d s.serial bulk with
        | none => fail stIntegrity s
        | some k => ok [] (s.keepBbk.setSek k)
    | _, _ => hwFault .security s

def execSealExportSet (slot : Slot) (h : CmdHeader) (bulk : List Byte) (s : State) : Host.Outcome State Fault Refusal :=
  s.command { slot := slot, op := 0x0706, h := h, payload := [], bulk := bulk } { gateI with modes := modesSR } (sealExportRun slot bulk)

/-- ZEROIZE (R303): its audit entry is that of the command. -/
def zeroizeRun (slot : Slot) : Run := fun ses s => if s.tack.paused then s.awaitTack slot ses else ok [] s.zeroize

def execZeroize (slot : Slot) (h : CmdHeader) (s : State) : Host.Outcome State Fault Refusal :=
  s.command { slot := slot, op := 0x0707, h := h, payload := [], bulk := [] } gateI (zeroizeRun slot)

/-- The debug policy (R315): 0 OPEN, 1 AUTH, 2 CLOSED. An unsealed device is OPEN (R316). -/
def State.debugPolicy (s : State) : Nat :=
  let r := vget s.fuse.shadow 0x18
  if !s.sealed_ then 0 else if bit r 1 then 2 else if bit r 0 then 1 else 0

/-- DEBUG_UNLOCK (R278, R421). -/
def debugUnlockRun (slot : Slot) : Run := fun _ s =>
  if s.debugPolicy = 2 then fail stDeniedRole s else ok [] { s with dbg := { s.dbg with unlocked := some slot } }

def execDebugUnlock (slot : Slot) (h : CmdHeader) (s : State) : Host.Outcome State Fault Refusal :=
  s.command { slot := slot, op := 0x0708, h := h, payload := [], bulk := [] } gateM (debugUnlockRun slot)

/-- SESSION_EXPIRY (R294): TIMEOUT_S of the idle timer, which is held while a command of the session is outstanding. -/
def execSessionExpiry (slot : Slot) (rtc : Nat) (s : State) : Host.Outcome State Fault Refusal :=
  let s := s.atRtc rtc
  match vget s.tack.sessions slot with
  | some x => if x.idle s.tack.periods then .next ((s.auditEvent 0xFF01 0).endSession slot) else .next s
  | none => .next s

/-- CHALLENGE_EXPIRY (R292): a challenge of 30 s goes. -/
def execChallengeExpiry (slot : Slot) (rtc : Nat) (s : State) : Host.Outcome State Fault Refusal :=
  let s := s.atRtc rtc
  .next { s with tack := { s.tack with challenges := vset s.tack.challenges slot (s.challengeOf slot) } }

/-- LOCKOUT_END (R295): the lockout has run its time with main power present. -/
def execLockoutEnd (role : Fin 4) (index : Fin 8) (rtc : Nat) (s : State) : Host.Outcome State Fault Refusal :=
  let s := s.atRtc rtc
  let l := s.live role index
  if s.hubUp && l.lock.locked && l.over s.tack.periods then .next (s.putLock role index { l.lock with locked := false, remaining := 0 } s.tack.periods) else .next s

/-- LOCKOUT_JOURNAL_WRITE (R295): 60 s more of a running lockout have passed. -/
def execLockoutJournalWrite (role : Fin 4) (index : Fin 8) (rtc : Nat) (s : State) : Host.Outcome State Fault Refusal :=
  let s := s.atRtc rtc
  let l := s.live role index
  let next := l.since + 60 * 32768
  if s.hubUp && l.lock.locked && next ≤ s.tack.periods then .next (s.putLock role index { l.lock with remaining := l.lock.remaining - 60 } next) else .next s

/-- ENTROPY_HEALTH_FAIL (R302): tests 10, 11 and 12 fail in service. -/
def execEntropyHealthFail (test : BitVec 4) (s : State) : Host.Outcome State Fault Refusal :=
  if s.tackUp && (test = 10 || test = 11 || test = 12) then .next (s.tackError test) else .next s

/-- Cryptographic services pause (R305, R311), from the power-up on. -/
def State.pauseTack (s : State) : State :=
  if !s.hubUp then s
  else { s with tack := { s.tack with paused := true, pauses := satInc s.tack.pauses } }

/-- 60 s of the RTC (R305). -/
def tampWindow : Nat := 60 * 32768

/-- A voltage or clock event (R305): logged, with a pause; the sixteenth within 60 s is a detector event of its own and brings the response. -/
def State.voltClock (s : State) (detector : BitVec 4) : State :=
  let s := s.tampLog detector false
  let recent := (s.bkp.rtc :: s.bkp.events).filter fun t => s.bkp.rtc < t + tampWindow
  let s := s.pauseTack
  if recent.length < 16 then { s with bkp := { s.bkp with events := recent } }
  else State.tampRespond ({ s with bkp := { s.bkp with events := [] } }.tampLog 8 true) 1

/-- TAMPER_VOLTAGE (R305): detectors 1 VDD_HUB, 2 VAON, 3 VBAT. -/
def execTamperVoltage (detector : BitVec 4) (rtc : Nat) (s : State) : Host.Outcome State Fault Refusal :=
  let s := s.atRtc rtc
  if s.bkp.powered && 1 ≤ detector.toNat && detector.toNat ≤ 3 then .next (s.voltClock detector) else .next s

/-- TAMPER_CLOCK (R305): detectors 4 REFCLK, 5 the 32.768 kHz oscillator. -/
def execTamperClock (detector : BitVec 4) (rtc : Nat) (s : State) : Host.Outcome State Fault Refusal :=
  let s := s.atRtc rtc
  if s.bkp.powered && (detector = 4 || detector = 5) then .next (s.voltClock detector) else .next s

/-- TAMPER_TEMPERATURE (R305): logged. -/
def execTamperTemperature (rtc : Nat) (s : State) : Host.Outcome State Fault Refusal :=
  let s := s.atRtc rtc
  if s.bkp.powered then .next (s.tampLog 6 false) else .next s

/-- LID_LIGHT (R305, R306). -/
def execLidLight (rtc : Nat) (s : State) : Host.Outcome State Fault Refusal :=
  let s := s.atRtc rtc
  if s.bkp.powered then .next ((s.tampLog 7 true).tampRespond 2) else .next s

/-- The seals that a pause held back (R305, R309): openings of seal sessions, and SEAL_SIG packets. -/
def State.sealsAfterPause (s : State) : State :=
  let s := (List.finRange 4).foldl (fun s p => if s.running p then s.openSeal p else s) s
  (List.finRange 4).foldl (fun s p => if (s.getPort p).sigDue then (s.onPort p fun q => { q with sigDue := false }).composeSig p else s) s

end Sys2Proof.Machine
end

