-- ==== Sys2Proof/Machine/Restart.lean ====
section
/-! DEFINITION. Firmware images and their verification (R299, R325), and the restart of the control processor (R5, R102, R137, R285, R286, R302,
R411, R412, R424). -/

namespace Sys2Proof.Machine

/-- T (R299): the index of the highest programmed thermometer bit plus 1, as the shadow shows it. -/
def State.rollbackT (s : State) : Nat :=
  match (List.range 128).reverse.find? fun i => bit (vget s.fuse.shadow (finOf 32 (0x1C + i / 32))) (i % 32) with
  | some i => i + 1
  | none => 0

/-- The SVN and version that a bank's image names (R325). -/
def Bank.svn (b : Bank) : Nat := match b.factory with
  | some f => f.1.toNat
  | none => natLe ((b.image.drop 4).take 4)

def Bank.version (b : Bank) : Word := match b.factory with
  | some f => f.2
  | none => BitVec.ofNat 32 (natLe ((b.image.drop 8).take 4))

/-- A bank holds an image. -/
def Bank.present (b : Bank) : Bool := b.factory.isSome || b.image ≠ []

/-- The layout and the digest of an image (R325). -/
def imageSound (bs : List Byte) : Bool :=
  256 ≤ bs.length && natLe (bs.take 4) = 1 && natLe ((bs.drop 4).take 4) ≤ 128 && natLe ((bs.drop 12).take 4) + 256 = bs.length
    && sha384 (bs.drop 256) = (bs.drop 0x40).take 48

/-- How an image stands (R299). -/
inductive BankCheck where
  | good | failed | rollback
  deriving DecidableEq, Repr

/-- A bank is checked (R299): MPK, digest and signature, then SVN against T. The image placed at manufacture carries a good signature. -/
def State.checkBank (s : State) (k : Fin 2) : BankCheck :=
  let b := vget s.nvm.banks k
  let signed := match b.factory with
    | some _ => true
    | none => imageSound b.image && s.mpkOk
        && ecdsaVerify s.nvm.mpk (b.image.take 0x70) (BitVec.ofNat 768 (natBe ((b.image.drop 0x70).take 96)))
  if b.invalid || !signed then .failed else if b.svn < s.rollbackT then .rollback else .good

/-- The bank that the boot ROM runs, with the FAILCODE (R261, R325): the active bank first, then the other; none where both fail. -/
def State.bootBank (s : State) : Option (Fin 2 × Byte) :=
  let a := s.nvm.active
  match s.checkBank a with
  | .good => some (a, 0)
  | c =>
    if s.checkBank (a + 1) = .good then some (a + 1, if c = .rollback then 4 else if a = 0 then 1 else 2) else none

/-- PHASE FAIL with its FAILCODE (R260, R261). -/
def State.phaseFail (s : State) (code : Byte) : State := { s with host := { s.host with phase := 7, failcode := code } }

/-- The watchdog restarts with its reset values (R411); the evidence stays. -/
def State.wdtRestart (s : State) : State :=
  let w := Watchdog.reset
  let w := { w with serviceLine := s.lineCnt, serviceRtc := BitVec.ofNat 63 s.bkp.rtc, evidPc := s.wdt.evidPc }
  let w := { w with evidLine := s.wdt.evidLine, evidRtc := s.wdt.evidRtc, evidValid := s.wdt.evidValid, evidCause := s.wdt.evidCause }
  { s with wdt := w }

/-- A command that waits is past its commit point when its effect goes on through a restart (R286, R297): the fuse pulse, the capture, the formation, the
I²C transfer. DEDUCED (log entry 88). -/
def Wait.committed : Wait → Bool
  | .fuse | .calCapture | .stringForm | .i2c => true
  | .modeSet | .ctxSchedule _ | .ctxLocked .. | .portStart _ | .portStop _ | .fuseRead _ | .paused _ => false

/-- The opcode in a slot (R265). -/
def HostPort.opcodeOf (h : HostPort) (k : Slot) : Nat := natBe (hostGets h.bytes (slotAddr k) 2)

/-- An OBJ_END of a firmware image that is aborted leaves its bank marked invalid (R286). -/
def State.spoilBank (s : State) (k : Slot) : State :=
  match vget s.host.transfers k with
  | some t => match t.kind with
    | .firmware b =>
      if bit s.host.ring k.val && s.host.opcodeOf k = 0x0111 then
        { s with nvm := { s.nvm with banks := vmod s.nvm.banks b fun x => { x with invalid := true } } }
      else s
    | _ => s
  | none => s

/-- Every outstanding slot is answered ABORTED_BY_RESET (R285); an audited command past its commit point has its entry, with that STATUS (R297). The
idle timer of a session whose command is aborted runs on (R294). -/
def State.abortSlots (s : State) : State :=
  let s := (List.finRange 16).foldl State.spoilBank s
  let s := (s.waiting Wait.committed).foldl (fun s k => s.auditSlot k stAborted) s
  let host := (List.finRange 16).foldl (fun h k => if bit h.ring k.val then h.answer k stAborted [] [] s.tb else h) s.host
  let host := { host with order := [], held := [], waits := Vector.replicate 16 none }
  let host := { host with transfers := Vector.replicate 16 none, audits := Vector.replicate 16 none }
  (List.finRange 16).foldl State.releaseIdle { s with host := host, tack := { s.tack with waiting := [] } }

/-- A follower's rejoin that waits for its J is dropped with the ticks received for it (R5, R102): it stays LOST. -/
def State.dropJoin (s : State) : State :=
  if s.sync.joinAt.isSome then
    { s with sync := { s.sync with joinAt := none, lastLine := none }, tick := s.tick.clear }
  else s

/-- Every scheduled swap is cancelled, and a pending transition whose LT has not fired; a drain goes on in hardware, up to READY (R102, R137). No
context change takes effect before the firmware runs again (R5). -/
def State.cancelPending (s : State) : State :=
  let s := { s with ctx := s.ctx.map (fun x : Ctx => { x with sched := none }) }
  let s := s.cancelSwitch.dropJoin
  match s.mode.pending with
  | none => s
  | some p => match p.phase with
    | .drain .. => s.setPending (some { p with slot := none, thenStandby := false })
    | .timed | .enter _ | .switch _ | .exit_ _ => s.dropMove

/-- The boot ROM's handling of a restart (R259, R285, R286): it verifies the active bank first. Firmware that runs for the first time after PHASE FAIL
reconciles the timebase while it initialises (R340). -/
def State.bootRom (s : State) : State :=
  let s := s.abortSlots.leaveMaint 4
  let s := if s.sync.forming then
      { s with sync := { s.sync with forming := false, state := if s.sync.downLock then .trained else .down } } else s
  { s with
    host := { s.host with phase := 6, irqRestart := true, bank := s.nvm.active },
    mode := if s.mode.mode = .boot then { s.mode with reconcile := s.bkp.rtcValid } else s.mode,
    hk := { s.hk with i2cSlot := none },
    fuse := { s.fuse with pulse := s.fuse.pulse.map fun p => { p with user := .orphan } } }

/-- The registers of the control processor as they are found when it halts or has stepped: its instruction set is not given (R429). -/
def Debug.freshCp (d : Debug) : Debug :=
  { d with cpRegs := Vector.ofFn fun i => Config.cpStep d.cpRegs.toList (34 * d.cpSteps + i.val), cpSteps := d.cpSteps + 1 }

/-- A restart of the control processor (R412, R424): recorded and counted; the watchdog starts again; a debug halt ends, or with
HALT_ON_RESTART begins before the boot ROM runs. -/
def State.restart (s : State) (cause : Byte) : State :=
  let rerun : Bool := cause = 5 || cause = 6
  let s := { s with flt := { s.flt with lastCause := cause, restarts := satInc s.flt.restarts },
                    tack := { s.tack with restartHold := true, retest := rerun } }
  let s := s.wdtRestart.cancelPending
  let hold := s.dbg.haltOnRestart
  let s := { s with dbg := { s.dbg with cpHalted := hold, cpWhy := if hold then .restart else .none, restartHeld := hold } }
  let s := { s with dbg := s.dbg.freshCp }
  if hold then s else s.bootRom

/-- A report of an edge class with every fixed response of R401: the restarts too. -/
def State.raiseRestart (s : State) (k : FltClass) (cause : Byte) : State := (s.report k).restart cause

/-- LOCKSTEP_FAULT (R401, R412): while the control processor runs. -/
def execLockstepFault (s : State) : Host.Outcome State Fault Refusal :=
  if s.host.phase = 0 then .next s else .next (s.raiseRestart .lockstep 8)

end Sys2Proof.Machine
end

