-- ==== Sys2Proof/Machine/Fuses.lean ====
section
/-! DEFINITION. The fuses: reads, the rules of programming, the pulses and the thermometer advance (R299, R300, R312–R322). -/

namespace Sys2Proof.Machine

/-- A word of the array: a bit reads 1 when either cell is programmed (R312). -/
def Fuses.word (f : Fuses) (w : Byte) : Word := vget f.cell0 w.toFin ||| vget f.cell1 w.toFin

/-- What FUSE_READ returns (R313). -/
def State.fuseRead (s : State) (w : Byte) : Word :=
  let n := w.toNat
  if 0x19 ≤ n && n ≤ 0x1B then 0
  else if n < 0x20 then vget s.fuse.shadow (finOf 32 n)
  else if n < 0x28 || 0x60 ≤ n then 0
  else s.fuse.word w

/-- The words as bytes, for a CRC (R313). -/
def wordsBytes (ws : List Word) : List Byte := ws.flatMap fun w => bytesLe 4 w.toNat

/-- The words `lo` to `lo + n - 1` of the array. -/
def Fuses.words (f : Fuses) (lo n : Nat) : List Word := (List.range n).map fun i => f.word (BitVec.ofNat 8 (lo + i))

/-- The fixed part breaks R314. -/
def fixedBad (w : Nat → Word) : Bool :=
  field (w 0) 7 0 ≠ 1 || field (w 0) 9 8 = 0 || field (w 0) 9 8 = 3 || field (w 0) 12 11 = 3 || field (w 0) 31 13 ≠ 0
    || field (w 1) 31 16 ≠ 0 || (List.range 6).any fun i => w (0x10 + i) ≠ 0

/-- The protection block passes (R316, R318): unsealed, or its CRC matches and R314 holds. -/
def Fuses.blockOk (f : Fuses) : Bool :=
  let w (i : Nat) : Word := f.word (BitVec.ofNat 8 i)
  w 0x17 = 0 || (crc32c (wordsBytes (f.words 0 0x17)) = w 0x17 && !fixedBad w)

/-- The trim block passes (R313, R318). -/
def Fuses.trimGood (f : Fuses) : Bool := crc32c (wordsBytes (f.words 0x28 0x17)) = f.word 0x3F

/-- The shadow as the fuse controller reads it (R318). -/
def Fuses.readShadow (f : Fuses) : Vector Word 32 := Vector.ofFn fun i => f.word (BitVec.ofNat 8 i.val)

/-- The block is closed to FUSE_PROGRAM (R316): it was sealed at the fuse load, or its CRC word has been programmed since. DEDUCED: the word is
programmed bit by bit, so it counts as programmed once it holds the block's CRC (log entry 84). -/
def State.blockClosed (s : State) : Bool :=
  s.sealed_ || (s.fuse.word 0x17 ≠ 0 && crc32c (wordsBytes (s.fuse.words 0 0x17)) = s.fuse.word 0x17)

/-- FUSE_PROGRAM may program a bit of a word (R313, R315–R317). -/
def State.fuseAllowed (s : State) (w : Nat) (b : Nat) : Bool :=
  if w ≤ 0x17 then !s.blockClosed
  else if w = 0x18 then b ≤ 4
  else if 0x1C ≤ w && w ≤ 0x1F then true
  else if 0x28 ≤ w && w ≤ 0x3E then s.fuse.word 0x3F = 0
  else if w = 0x3F then !(s.fuse.trimOk || s.fuse.trimGood)
  else false

/-- The source of a pulse (R321): 1 external, 2 the pump, none where VPP_OTP allows neither. -/
def Fuses.vppSource (f : Fuses) : Option (BitVec 2) :=
  match f.vppMv with
  | none => some 2
  | some v => if v < 300 then some 2 else if 2300 ≤ v && v ≤ 2700 then some 1 else none

/-- The hub reads outside 0 to 85 °C (R321); a sensor not read yet counts as within. -/
def State.hubOutside (s : State) : Bool :=
  let a := vget (vget s.hk.conv 0).data 8
  let b := vget (vget s.hk.conv 1).data 8
  let x := s.hubCode.toNat * 625
  (bit a 31 || bit b 31) && (x < 250 * 4096 || 335 * 4096 < x)

/-- A pulse may be given (R321). -/
def State.canPulse (s : State) : Bool := s.fuse.vppSource.isSome && !s.hubOutside

/-- A cell of a bit. -/
def Fuses.cellOf (f : Fuses) (second : Bool) (w : Byte) (b : Fin 32) : Bool :=
  bit (vget (if second then f.cell1 else f.cell0) w.toFin) b.val

/-- A cell is programmed (R312). -/
def Fuses.setCell (f : Fuses) (second : Bool) (w : Byte) (b : Fin 32) : Fuses :=
  if second then { f with cell1 := vmod f.cell1 w.toFin fun x => setBit x b.val true }
  else { f with cell0 := vmod f.cell0 w.toFin fun x => setBit x b.val true }

/-- The pulses of a bit begin at its first unprogrammed cell (R322); none where both are programmed. -/
def State.beginBit (s : State) (user : FuseUser) (w : Byte) (b : Fin 32) : State :=
  let f := s.fuse
  let p (second : Bool) : Option Pulse := some { user := user, word := w, bit := b, cell := second, retry := false, failed := false }
  let pulse := if !f.cellOf false w b then p false else if !f.cellOf true w b then p true else none
  { s with fuse := { f with pulse := pulse, source := if pulse.isSome then f.vppSource.getD 0 else f.source } }

/-- The next step of a thermometer advance up to T = `upTo` (R300), or its end with an audit entry. -/
def State.thermoNext (s : State) (upTo : Nat) : State :=
  let t := s.rollbackT
  if t < upTo then s.beginBit (.thermometer upTo) (BitVec.ofNat 8 (0x1C + t / 32)) (finOf 32 t)
  else s.auditEvent 0xFF06 (BitVec.ofNat 8 t)

/-- The running image's SVN exceeds T: the advance begins, where a pulse may be given (R300, R321). -/
def State.thermoAdvance (s : State) : State :=
  let svn := (vget s.nvm.banks s.host.bank).svn
  if s.rollbackT < svn && s.canPulse && s.fuse.pulse.isNone then s.thermoNext svn else s

/-- The shadow after a bit of words 0x18–0x1F is done (R320, R322); CLOSED ends an unlock (R315). -/
def State.shadowBit (s : State) (w : Byte) : State :=
  if 0x18 ≤ w.toNat && w.toNat ≤ 0x1F then
    let s := { s with fuse := { s.fuse with shadow := vset s.fuse.shadow (finOf 32 w.toNat) (s.fuse.word w) } }
    if s.debugPolicy = 2 then { s with dbg := { s.dbg with unlocked := none } } else s
  else s

/-- MAINT is left once its session has ended and no bit is being programmed (R95). -/
def State.leaveDue (s : State) : State := if s.mode.leaving && s.fuse.pulse.isNone then s.leaveMaint 3 else s

/-- A private key of the device is generated and stored under SKEK (R289, R290, R317). -/
def State.newKey (s : State) : Option (Wrapped 384) × State :=
  let (c, s) := s.draw 448
  (s.skek.map fun k => { under := k, value := scalarOf c }, s)

/-- DSK and DKAK are generated, once HUK is there (R317). -/
def State.newDeviceKeys (s : State) : State :=
  let (dsk, s) := s.newKey
  let (dkak, s) := s.newKey
  { s with nvm := { s.nvm with dsk := dsk, dkak := dkak } }

/-- The next bit of HUK (R317): the first 1 bit that a cell of the array lacks; with none left DSK and DKAK follow, and the self-tests are over. -/
def State.hukNext (s : State) (key : BitVec 256) : State :=
  match (List.finRange 256).find? fun i => bit key i.val && !(s.fuse.cellOf false (BitVec.ofNat 8 (0x20 + i.val / 32)) (finOf 32 i.val)
      && s.fuse.cellOf true (BitVec.ofNat 8 (0x20 + i.val / 32)) (finOf 32 i.val)) with
  | some i => s.beginBit (.huk key) (BitVec.ofNat 8 (0x20 + i.val / 32)) (finOf 32 i.val)
  | none => s.newDeviceKeys.testsOver

/-- HUK is all 0 on a sealed part (R317). -/
def State.hukMissing (s : State) : Bool := s.sealed_ && (s.fuse.words 0x20 8).all fun w => w = 0

/-- A bit is done (R322): the shadow follows it, its command answers, or the advance goes on while the bit reads 1. A bit of HUK that fails ends
the boot (R317). -/
def State.bitEnd (s : State) (p : Pulse) (failed : Bool) : State :=
  let s := State.shadowBit { s with fuse := { s.fuse with pulse := none } } p.word
  let s := if failed then s.report .fuse else s
  match p.user with
  | .command k => if vget s.host.waits k = some .fuse then s.answer k (if failed then stHwFault else stOk) [] else s
  | .thermometer upTo => if bit (s.fuse.word p.word) p.bit.val then s.thermoNext upTo else s
  | .huk key => if failed then s.phaseFail 5 else s.hukNext key
  | .orphan => s

/-- The reads that waited for a pulse and its verify are answered (R320). -/
def State.fuseReads (s : State) : State :=
  (List.finRange 16).foldl (fun s k => match vget s.host.waits k with
    | some (.fuseRead w) => s.answer k stOk (bytesBe 4 (s.fuseRead w).toNat)
    | _ => s) s

def State.bitDone (s : State) (p : Pulse) (failed : Bool) : State := (s.bitEnd p failed).leaveDue

/-- After a cell: the second cell of the bit, or its end. -/
def State.cellDone (s : State) (p : Pulse) (failed : Bool) : State :=
  if p.user = .orphan then s.bitDone p failed
  else if !p.cell && !s.fuse.cellOf true p.word p.bit then
    { s with fuse := { s.fuse with pulse := some { p with cell := true, retry := false, failed := failed } } }
  else s.bitDone p failed

/-- FUSE_PULSE_DONE (R322): a pulse ends with its verify; a cell that fails gets one more. -/
def execFusePulseDone (verified : Bool) (s : State) : Host.Outcome State Fault Refusal :=
  match s.fuse.pulse with
  | none => .next s
  | some p =>
    if verified then
      let s := State.fuseReads { s with fuse := s.fuse.setCell p.cell p.word p.bit }
      .next (s.cellDone p p.failed)
    else
      let s := s.fuseReads
      if !p.retry && p.user ≠ .orphan then .next { s with fuse := { s.fuse with pulse := some { p with retry := true } } }
      else .next (s.cellDone p true)

/-- FUSE_READ (R279, R313): a read outside the shadow waits for a pulse in progress and its verify (R320). -/
def fuseReadRun (word : Byte) : Run := fun _ s =>
  if s.fuse.pulse.isSome && 0x20 ≤ word.toNat then .wait (.fuseRead word) s else ok (bytesBe 4 (s.fuseRead word).toNat) s

def execFuseRead (slot : Slot) (h : CmdHeader) (word : Byte) (s : State) : Host.Outcome State Fault Refusal :=
  s.command { slot := slot, op := 0x0802, h := h, payload := [word], bulk := [] } { gateO with exempt := true } (fuseReadRun word)

/-- A bit is programmed for a slot (R321, R322): both cells already programmed, it is done. An HW_FAULT is in the fault summary too (R270), as
class FUSE: DEDUCED, R401 names no class for it (log entry 72). -/
def State.programBit (s : State) (slot : Slot) (w : Byte) (b : Fin 32) : Result :=
  if s.fuse.pulse.isSome then fail stNoResource s
  else if !s.canPulse then .failed stHwFault (s.report .fuse)
  else
    let s := s.beginBit (.command slot) w b
    if s.fuse.pulse.isNone then ok [] s else .wait .fuse s

/-- FUSE_PROGRAM (R321). -/
def fuseProgramRun (slot : Slot) (word b : Byte) : Run := fun _ s =>
  if 32 ≤ b.toNat || !s.fuseAllowed word.toNat b.toNat then fail stBadParam s else s.programBit slot word (finOf 32 b.toNat)

/-- VPP_OTP as it stands when a command begins, in mV; none where it is unconnected (R321). -/
def State.vppAt (s : State) (vpp : Option Nat) : State := { s with fuse := { s.fuse with vppMv := vpp } }

def execFuseProgram (slot : Slot) (h : CmdHeader) (word bit : Byte) (s : State) (vpp : Option Nat := none) : Host.Outcome State Fault Refusal :=
  (s.vppAt vpp).command { slot := slot, op := 0x0803, h := h, payload := [word, bit], bulk := [] } gateM (fuseProgramRun slot word bit)

/-- FUSE_PROGRAM_INST (R313, R321): bit b is bit b mod 32 of word 0x40 + b / 32. -/
def fuseInstRun (slot : Slot) (b : BitVec 16) : Run := fun _ s =>
  if !bit (vget s.fuse.shadow 0x18) 3 then fail stDeniedRole s
  else if 1024 ≤ b.toNat then fail stBadParam s
  else s.programBit slot (BitVec.ofNat 8 (0x40 + b.toNat / 32)) (finOf 32 b.toNat)

def execFuseProgramInst (slot : Slot) (h : CmdHeader) (bit : BitVec 16) (s : State) (vpp : Option Nat := none) : Host.Outcome State Fault Refusal :=
  (s.vppAt vpp).command { slot := slot, op := 0x0804, h := h, payload := bytesBe 2 bit.toNat, bulk := [] } { gateI with modes := modesM } (fuseInstRun slot bit)

end Sys2Proof.Machine
end

