-- ==== Sys2Proof/Machine/PllLoss.lean ====
section
/-! DEFINITION. What a loss of lock of PLL-A does, and the switch of its reference (R355–R358). -/

namespace Sys2Proof.Machine

/-- A loss of lock is counted, and the first attempt to lock again begins (R358, R362, R365, R369). -/
def State.unlockPll (s : State) (q : PllIx) : State :=
  let c := s.clk.drop q true
  { s with clk := { c with loss := vmod c.loss q satInc } }

/-- A tick cut short by the loss of PLL-A before its latch-and-add (R356): it adds nothing; walk and hand-over take place. A clear tick and a
hand-over tick of FRAME add nothing anyway. -/
def State.cutTick (s : State) : State :=
  let x := s.sensor
  match x.before with
  | none => s
  | some (rows, _) =>
    let k := x.lineNow
    let m := x.marks
    let cleared : Bool := m.void = k + 1 || m.format = k + 1 || m.pll = k + 1 || m.sync = k + 1
    let entered : Bool := s.mode.mode.streaming && x.enterAt = k
    let handed : Bool := s.mode.mode = .frame && framePhase (x.leadHalf.getD CtxHalf.reset) x.enterAt k = 0
    let rows := if cleared || handed then x.rows else walkOnly x.dir (if entered then rows.map Row.wipe else rows)
    let r := vget rows (exitRow x.dir)
    let out := x.exit.map fun e =>
      { e with cells := r.walk, refs := r.refs, settle := r.settle, refBad := r.refBad, flags := setBit e.flags 4 true }
    { s with sensor := { x with rows := rows, exit := out } }

/-- PLL-A loses lock at the present TB (R356, R357). -/
def State.losePllA (s : State) : State :=
  if !vget s.clk.lock 0 then s
  else
    let early := s.sensor.anyTick && s.sensor.biased && s.tb < s.sensor.lastTb + 1152
    let s := if early then s.cutTick else s
    let s := s.unlockPll 0
    let s := { s with
      clk := { s.clk with ticksAllowed := false, phaseLeft := 0, phaseByAlign := false },
      tick := { s.tick.restart with due := [] },
      ts := { s.ts with eng := s.ts.eng.map Engine.stop },
      sensor := { s.sensor with pllClear := true } }
    s.syncLose.report .clkA

/-- PLL-A takes the recovered clock as its reference, or REFCLK again (R355): each switch re-locks it. -/
def State.switchRef (s : State) (recovered : Bool) : State :=
  if s.clk.recovered = recovered then s else State.losePllA { s with clk := { s.clk with recovered := recovered } }

end Sys2Proof.Machine
end

