-- ==== Sys2Proof/Machine/Strings.lean ====
section
/-! DEFINITION. Strings of devices: the messages of the sync link, formation, string-wide switches, loss and rejoining (R125–R133, R275, R355). -/

namespace Sys2Proof.Machine

/-- The payload of a message of a type and length whose CRC holds (R126). -/
def syncPayload (type : Byte) (len : Nat) (frame : List Byte) : Option (List Byte) :=
  let body := frame.take (len + 1)
  if frame.length = len + 3 && frame.head? = some type && natLe (frame.drop (len + 1)) = (crcMsb (n := 16) 0x1021 0xFFFF body).toNat then
    some (body.drop 1)
  else none

/-- A discarded message (R126). -/
def State.badMsg (s : State) : State := if s.mode.mode ≠ .boot then s.onSync fun y => { y with badMsg := satInc y.badMsg } else s

/-- Byte `i` of a payload, and the number in `n` bytes from `i`. -/
def pByte (p : List Byte) (i : Nat) : Byte := p.getD i 0
def pNum (p : List Byte) (i n : Nat) : Nat := natLe ((p.drop i).take n)

/-- The nine bytes of a timestamp, and what they stand for (R126): none with bit 7 of the last at 1. -/
def stampBytes (x : Nat) : List Byte := bytesLe 8 (x / 128) ++ [BitVec.ofNat 8 (x % 128)]
def stampOf (p : List Byte) (i : Nat) : Option Nat :=
  let f := (pByte p (i + 8)).toNat
  if 128 ≤ f then none else some (128 * pNum p i 8 + f)

/-- The timebase is set (R113, R237): the change is reported in the next TIME packets. -/
def State.setTb (s : State) (t : Nat) : State :=
  let d : Int := (t : Int) - s.tb
  if d = 0 then s
  else { s with tb := t, port := { s.port with port := s.port.port.map fun q => { q with tbChange := q.tbChange + d, timeDue := true } } }

/-- A TICK taken by a follower (R111, R127): it fires at its instant as its line, where the source is STRING. -/
def State.takeTick (s : State) (t line : Nat) (dir : Bool) (pos : Fin 16) : State :=
  let s := s.onSync fun y => { y with lastLine := some line }
  if s.ticksMayFire && s.src = 5 then
    { s with tick := { s.tick with due := s.tick.due ++ [{ inst := t, req := t, dir := dir, line := some line, pos := some pos, slip := false }] } }
  else s

/-- The line that a TICK must carry (R131): one more than the previous, any line first. -/
def SyncLink.expects (y : SyncLink) (line : Nat) : Bool :=
  match y.lastLine with
  | some l => line = l + 1
  | none => true

/-- TICK (R127, R131): a follower in LOCKED, or one that waits for its rejoin at J, takes it; a bad one is counted, and is a loss of sync. -/
def execTick (t : Nat) (frame : List Byte) (s : State) : Host.Outcome State Fault Refusal :=
  let s := (s.atTb t).newStep
  if s.role ≠ 2 then .next s
  else match syncPayload 0x01 15 frame with
    | none => .next s.badMsg.syncLose
    | some p =>
      let fl := (pByte p 14).toNat
      let inst := pNum p 0 8
      let line := pNum p 8 6
      if 32 ≤ fl then .next s.badMsg.syncLose
      else if s.sync.state = .locked then
        if s.sync.expects line && s.tb + 100 ≤ inst then
          .next ((s.takeTick inst line (decide (16 ≤ fl)) (finOf 16 fl)).passDown frame)
        else .next s.syncLose
      else
        match s.sync.joinAt with
        | some (j, _) =>
          if line < j then .next (s.passDown frame)
          else if s.sync.expects line && s.tb + 100 ≤ inst then
            .next ((s.takeTick inst line (decide (16 ≤ fl)) (finOf 16 fl)).passDown frame)
          else .next s.syncLose
        | none => .next (s.passDown frame)

/-- The status with which a follower answers CTX_AT (R130): the rules of a local command, which only firmware that is READY serves (R5, R286). -/
def State.switchCheck (s : State) (line : Nat) (ctx : CtxIx) (code : Nat) : Byte × Option (Mode × Move) :=
  if s.host.phase ≠ 5 then (stBusyBoot, none)
  else if s.mode.pending.isSome then (stWrongMode, none)
  else match modeOf code with
    | none => (stBadParam, none)
    | some m =>
      match moveOf s.mode.mode s.mode.deep (decide (ctx = s.leadCtx)) m false with
      | none => (if m = .boot then stBadParam else stWrongMode, none)
      | some mv =>
        if s.moveParamBad mv m ctx.val false false (if mv.atLine then line else 0) then (stBadParam, none)
        else match s.moveHeld mv m ctx with
          | some (st, _) => (st, none)
          | none => (stOk, some (m, mv))

/-- CTX_AT (R130): checked, scheduled when it may be, answered up and passed down. While the control processor is halted nobody answers (R423). -/
def execCtxAt (frame : List Byte) (s : State) : Host.Outcome State Fault Refusal :=
  let s := s.newStep
  if s.role ≠ 2 then .next s
  else match syncPayload 0x02 8 frame with
    | none => .next s.badMsg
    | some p =>
      if s.sync.state ≠ .locked || s.dbg.cpHalted then .next (s.passDown frame)
      else
        let line := pNum p 0 6
        let ctx : CtxIx := finOf 16 (pByte p 6).toNat
        let code := (pByte p 6).toNat / 16
        let (st, go) := s.switchCheck line ctx code
        let s := match go with
          | some (m, mv) =>
            let s := s.beginMove mv m ctx false false (if mv.atLine then line else 0) none 0
            let w : StringSwitch := { line := line, ctx := ctx, mode := BitVec.ofNat 4 code, tag := pByte p 7, answers := [], slot := none }
            s.onSync fun y => { y with switch := some w }
          | none => s
        .next ((s.passDown frame).sendUp 0x03 [pByte p 7, s.sync.pos.setWidth 8, st])

/-- CTX_ACK (R130): a follower forwards it, the leader takes it as a device's answer. -/
def execCtxAck (frame : List Byte) (s : State) : Host.Outcome State Fault Refusal :=
  let s := s.newStep
  match syncPayload 0x03 3 frame with
  | none => .next s.badMsg
  | some p =>
    if s.role = 1 then
      match s.sync.switch with
      | some w =>
        if w.tag = pByte p 0 then
          .next (s.onSync fun y => { y with switch := some { w with answers := w.answers ++ [((pByte p 1).toNat, pByte p 2)] } })
        else .next s
      | none => .next s
    else .next (s.passUp frame)

/-- CTX_CANCEL (R130): the scheduled switch of that tag is dropped. -/
def execCtxCancelMsg (frame : List Byte) (s : State) : Host.Outcome State Fault Refusal :=
  let s := s.newStep
  if s.role ≠ 2 then .next s
  else match syncPayload 0x04 1 frame with
    | none => .next s.badMsg
    | some p =>
      let s := s.passDown frame
      match s.sync.switch with
      | some w =>
        if w.tag = pByte p 0 then .next (s.dropMove.onSync fun y => { y with switch := none })
        else .next s
      | none => .next s

/-- DREQ at a parent (R128): received at t2, answered with DRSP at t3. A parent that is itself a child answers once it is aligned (R129, R132): only
then does its own child begin. -/
def execDreq (t2 t3 : Nat) (frame : List Byte) (s : State) : Host.Outcome State Fault Refusal :=
  let s := s.newStep
  match syncPayload 0x05 9 frame with
  | none => .next s.badMsg
  | some p =>
    match stampOf p 0 with
    | none => .next s.badMsg
    | some t1 => if s.role = 0 || (s.role = 2 && !s.sync.aligned) then .next s else .next (s.sendDown 0x06 (stampBytes t1 ++ stampBytes t2 ++ stampBytes t3))

/-- ASYM, signed, in 1/128 ns (R134). -/
def State.asym (s : State) : Int := (s.sync.geo.extractLsb' 19 13).toInt

/-- Delay and offset of an exchange in 1/128 ns, times two and four (R128): 2d, and 2θ with ASYM taken off. -/
def hopDelay2 (t1 t2 t3 t4 : Nat) : Int := ((t4 : Int) - t1) - ((t3 : Int) - t2)
def hopOffset2 (t1 t2 t3 t4 : Nat) (asym : Int) : Int := ((t2 : Int) - t1) - ((t4 : Int) - t3) - asym

/-- The mean of sixteen doubled values, rounded half to even (R128): the filter over 16 exchanges is taken as the plain mean of each block of sixteen,
blocks not overlapping. DESIGN CHOICE, log entry 75. -/
def mean16 (xs : List Int) : Int := rhe (xs.foldl (· + ·) 0) 5

/-- A follower corrects its filtered offset (R113, R128): whole nanoseconds by setting the timebase while no tick is committed, the rest by phase steps. -/
def State.correctOffset (s : State) (theta : Int) : State :=
  let whole := theta.tdiv 128
  let rest := theta - whole * 128
  let s := if whole ≠ 0 && s.tick.due.isEmpty then s.setTb ((s.tb : Int) + whole).toNat else s
  if rest = 0 then s
  else { s with clk := { s.clk with phaseLeft := BitVec.ofNat 16 rest.natAbs, phaseRetard := decide (rest < 0), phaseByAlign := true } }

/-- The sixteenth exchange aligns a child that is being formed, or that regains its alignment (R129, R132): it sends ALIGNED and asks to join.
A child cannot tell a formation from a fresh ENUM into a running string: it asks in both, and a leader that is forming does not answer. DESIGN CHOICE,
log entry 82. -/
def State.becomeAligned (s : State) : State :=
  let again := s.sync.state = .lost && s.sync.rejoining
  if !(s.sync.state = .enumerated || again) then s
  else
    let s := State.onSync { s with timeSource := 3 } fun y =>
      { y with state := if again then y.state else .aligned, aligned := true, rejoining := false }
    (s.sendUp 0x09 [s.sync.pos.setWidth 8]).sendUp 0x0B [s.sync.pos.setWidth 8]

/-- DRSP at a child (R128, R129): the first answer says that the parent is aligned, and switches the clock of a device being formed; the sixteenth
exchange from there gives the filtered values and the correction. A filtered offset outside the 16 bits of OFFSET wraps: DESIGN CHOICE, log
entry 76. -/
def execDrsp (t4 : Nat) (frame : List Byte) (s : State) : Host.Outcome State Fault Refusal :=
  let s := (s.atTb (t4 / 128)).newStep
  match syncPayload 0x06 27 frame with
  | none => .next s.badMsg
  | some p =>
    match stampOf p 0, stampOf p 9, stampOf p 18 with
    | some t1, some t2, some t3 =>
      if s.role ≠ 2 || s.mode.deep || s.sync.t1 ≠ some t1 then .next s
      else if s.sync.state = .enumerated && !s.clk.recovered then
        .next ((s.switchRef true).onSync fun y => { y with t1 := none, thetas := [], delays := [] })
      else
        let thetas := s.sync.thetas ++ [hopOffset2 t1 t2 t3 t4 s.asym]
        let delays := s.sync.delays ++ [hopDelay2 t1 t2 t3 t4]
        if thetas.length < 16 then .next (s.onSync fun y => { y with t1 := none, thetas := thetas, delays := delays })
        else
          let theta := mean16 thetas
          let s := s.onSync fun y =>
            { y with t1 := none, thetas := [], delays := [], offset := BitVec.ofInt 16 theta, delay := BitVec.ofInt 24 (mean16 delays) }
          .next (s.correctOffset theta).becomeAligned
    | _, _, _ => .next s.badMsg

/-- LEAD_REQ in 1/128 ns from the delays of the hops (R127). -/
def leadReq (hops : List Nat) : Nat := hops.foldl (fun a d => a + 128 * 176 + d) (128 * 200)

/-- The delays of a string's hops as the leader learns them at update `n`. -/
def State.hopDelays (s : State) (n : Nat) : List Nat := (List.range (s.sync.devices - 1)).map fun h => Config.hopDelay h n

/-- HOP_MEASURE_DUE (R127–R129): a child sends DREQ at t1; a leader has new delays and checks LEAD_NS. -/
def execHopMeasureDue (t1 : Nat) (s : State) : Host.Outcome State Fault Refusal :=
  let s := (s.atTb (t1 / 128)).newStep
  if s.role = 2 && s.sync.upLock then
    .next ((s.onSync fun y => { y with t1 := some t1 }).sendUp 0x05 (stampBytes t1))
  else if s.isLeader then
    let s := s.onSync fun y => { y with hops := s.hopDelays t1 }
    if 128 * s.leadNs < leadReq s.sync.hops then .next (s.report .string) else .next s
  else .next s

/-- The ENUM message of a device for its child (R126, R129). -/
def State.sendEnum (s : State) : State := s.sendDown 0x07 (s.sync.pos.setWidth 8 :: bytesLe 2 s.sync.maxLp)

/-- ENUM (R129): the position is the sender's plus 1; with a child the message goes on, without one ENUM_ACK goes up. A device at position 31 that has a
partner below says so with position 32. -/
def execEnum (frame : List Byte) (s : State) : Host.Outcome State Fault Refusal :=
  let s := s.newStep
  if s.role ≠ 2 then .next s
  else match syncPayload 0x07 3 frame with
    | none => .next s.badMsg
    | some p =>
      let sender := (pByte p 0).toNat
      if 31 ≤ sender then .next s
      else
        let lp := Nat.max (pNum p 1 2) s.minLp
        let s := s.onSync fun y => { y with pos := BitVec.ofNat 5 (sender + 1), maxLp := lp, state := .enumerated, thetas := [], delays := [], aligned := false,
                                            rejoining := false, joinAt := none }
        if s.sync.downLock && sender + 1 < 31 then .next s.sendEnum
        else .next (s.sendUp 0x08 (BitVec.ofNat 8 (sender + 1 + if s.sync.downLock then 1 else 0) :: bytesLe 2 lp))

/-- ENUM_ACK (R129): forwarded to the leader, which learns the number of devices and the largest minimum LP. -/
def execEnumAck (frame : List Byte) (s : State) : Host.Outcome State Fault Refusal :=
  let s := s.newStep
  match syncPayload 0x08 3 frame with
  | none => .next s.badMsg
  | some p =>
    if s.role = 1 then
      .next (s.onSync fun y => { y with devices := (pByte p 0).toNat + 1, maxLp := Nat.max y.maxLp (pNum p 1 2) })
    else .next (s.passUp frame)

/-- ALIGNED (R129). -/
def execAligned (frame : List Byte) (s : State) : Host.Outcome State Fault Refusal :=
  let s := s.newStep
  match syncPayload 0x09 1 frame with
  | none => .next s.badMsg
  | some p =>
    if s.role = 1 then .next (s.onSync fun y => { y with alignedPos := (y.alignedPos ++ [(pByte p 0).toNat]).dedup })
    else .next (s.passUp frame)

/-- The positions from `p` on are lost to the leader (R131). -/
def SyncLink.loseFrom (y : SyncLink) (p : Nat) : SyncLink :=
  { y with lostPos := (y.lostPos ++ (List.range y.devices).filter fun i => p ≤ i).dedup, joins := y.joins.filter fun x => x.1 < p }

/-- LOST (R131): from above a follower loses sync; from below it goes to the leader. -/
def execLost (fromAbove : Bool) (frame : List Byte) (s : State) : Host.Outcome State Fault Refusal :=
  let s := s.newStep
  match syncPayload 0x0A 1 frame with
  | none => .next s.badMsg
  | some p =>
    if fromAbove then .next s.syncLose
    else if s.role = 1 then .next (s.onSync fun y => y.loseFrom (pByte p 0).toNat)
    else .next (s.passUp frame)

/-- The last line committed by a leader, and J of a JOIN_AT (R132). -/
def State.joinLine (s : State) : Nat := s.nextLine + s.tick.due.length - 1 + 64

/-- The position that line J adds under, when the lead context stays (R75, R132). -/
def State.joinPos (s : State) : Fin 16 :=
  let h := s.active s.leadCtx
  if !timed h then 0 else finOf 16 ((s.sensor.pos.val + (s.joinLine - s.sensor.lineNow)) % cSeqLen h)

/-- The lost positions from `p` on rejoin at J; until then the leader waits for none of them (R130–R132). -/
def SyncLink.willJoin (y : SyncLink) (p j : Nat) : SyncLink :=
  { y with joins := y.joins.filter (fun x => x.1 < p) ++ (y.lostPos.filter fun i => p ≤ i).map fun i => (i, j) }

/-- JOIN_REQ (R132): the leader of a formed string answers with JOIN_AT. -/
def execJoinReq (frame : List Byte) (s : State) : Host.Outcome State Fault Refusal :=
  let s := s.newStep
  match syncPayload 0x0B 1 frame with
  | none => .next s.badMsg
  | some p =>
    if s.role = 1 && !s.isLeader then .next s
    else if s.role = 1 then
      let s := s.onSync fun y => y.willJoin (pByte p 0).toNat s.joinLine
      .next (s.sendDown 0x0C (bytesLe 6 s.joinLine ++
        [BitVec.ofNat 8 (s.leadCtx.val + 16 * s.arrayMode.code.toNat), BitVec.ofNat 8 s.joinPos.val]))
    else .next (s.passUp frame)

/-- A follower waits for its rejoin at J (R132); one that was powered off takes SRC = STRING as at step 4 of R129. -/
def State.waitJoin (s : State) (j : Nat) (ctx : CtxIx) (code : BitVec 4) (pos : Fin 16) : State :=
  let s := s.loadMap (cMapSet (s.comingHalf ctx))
  let s := if s.sync.state = .aligned then { s with tick := { s.tick.clear with cfg := setField s.tick.cfg 0 3 5 } } else s
  s.onSync fun y => { y with joinAt := some (j, ctx, code, pos), lastLine := some (j - 1) }

/-- JOIN_AT (R132): a lost follower whose checks pass rejoins at J; one whose checks fail stays LOST and reports it, and so does one whose firmware
does not run (R5), and one that names STANDBY or MAINT: DESIGN CHOICE, log entry 99. -/
def execJoinAt (frame : List Byte) (s : State) : Host.Outcome State Fault Refusal :=
  let s := s.newStep
  if s.role ≠ 2 then .next s
  else match syncPayload 0x0C 8 frame with
    | none => .next s.badMsg
    | some p =>
      let j := pNum p 0 6
      let ctx : CtxIx := finOf 16 (pByte p 6).toNat
      let code := (pByte p 6).toNat / 16
      if 16 ≤ (pByte p 7).toNat then .next s.badMsg
      else if !s.mayJoin then .next (s.passDown frame)
      else
        let s := s.passDown frame
        let good : Bool := match modeOf code with
          | none => false
          | some m => (m = .ready || m.streaming) && !s.leadHalfBad m ctx && !s.shadowHeld (cMapSet (s.comingHalf ctx))
        if good && s.host.phase = 5 && !s.dbg.cpHalted then
          .next (s.waitJoin j ctx (BitVec.ofNat 4 code) (finOf 16 (pByte p 7).toNat))
        else .next (s.report .context)

/-- SYNC_LOSS (R131, R355): what a follower sees at SYNC_UP_IN. Without the recovered clock PLL-A goes back to REFCLK. -/
def execSyncLoss (cause : SyncCause) (s : State) : Host.Outcome State Fault Refusal :=
  let s := s.newStep
  if s.role ≠ 2 then .next s
  else
    let s := if cause = .symbolLock then s.onSync fun y => { y with upLock := false } else s
    let s := if s.isFollower then (s.onSync fun y => { y with aligned := false, rejoining := false }).syncLose else s.linkGone
    .next (if cause = .recoveredClock then s.switchRef false else s)

/-- SYNC_LINK_RECOVERED (R132): a lost follower takes the recovered clock again; its next 16 exchanges align it, and it asks to join. -/
def execSyncLinkRecovered (s : State) : Host.Outcome State Fault Refusal :=
  let s := s.newStep
  if s.role = 2 && s.sync.state = .lost && s.sync.joinAt.isNone && !s.mode.deep then
    let s := s.switchRef true
    .next (s.onSync fun y => { y with upLock := true, rejoining := true, aligned := false, t1 := none, thetas := [], delays := [] })
  else .next s

/-- HOP_SYMBOL_LOCK (R129, R132): the hop above trains first, then the one below; a device that has its position sends ENUM to a child whose link trains. -/
def execHopSymbolLock (s : State) : Host.Outcome State Fault Refusal :=
  let s := s.newStep
  if s.role = 0 || s.mode.deep then .next s
  else if s.role = 2 && !s.sync.upLock then
    .next (s.onSync fun y => { y with upLock := true, state := if y.state = .down then .trained else y.state })
  else
    let s := s.onSync fun y => { y with downLock := true, state := if y.state = .down then .trained else y.state }
    if s.sync.forming || s.sync.state = .enumerated || s.sync.state = .aligned || s.sync.state = .locked || s.sync.state = .lost then
      .next s.sendEnum else .next s

/-- CHILD_LINK_LOSS (R131): the parent tells the leader of its child's position. -/
def execChildLinkLoss (s : State) : Host.Outcome State Fault Refusal :=
  let s := s.newStep
  if s.role = 0 then .next s
  else
    let s := s.onSync fun y => { y with downLock := false }
    if s.role = 1 then .next (s.onSync fun y => y.loseFrom 1)
    else .next (s.sendUp 0x0A [s.sync.pos.setWidth 8 + 1])

/-- STRING_SET's parameters are in range (R134, R275): ASYM is a signed 13-bit value. -/
def stringSetBad (role : Byte) (colOfs : Word) (asym leadNs : BitVec 16) : Bool :=
  3 ≤ role.toNat || 2 ^ 19 ≤ colOfs.toNat || asym.toInt < -4096 || 4096 ≤ asym.toInt || leadNs.toNat < 500

/-- STRING_SET (R129, R133, R275). -/
def stringSetRun (role : Byte) (colOfs : Word) (asym leadNs : BitVec 16) : Run := fun _ s =>
  if s.sync.state = .locked then fail stWrongMode s
  else if stringSetBad role colOfs asym leadNs then fail stBadParam s
  else if s.sync.forming then fail stNoResource s
  else
    ok [] (s.onSync fun y =>
      { y with pos := if role = 2 then y.pos else 0, cfg := BitVec.ofNat 32 (leadNs.toNat * 65536 + role.toNat * 16384),
               geo := BitVec.ofNat 32 ((asym.extractLsb' 0 13).toNat * 2 ^ 19 + colOfs.toNat) })

def gateString : Gate := { gateI with modes := modesSR }

def execStringSet (slot : Slot) (h : CmdHeader) (role : Byte) (colOfs : Word) (asym leadNs : BitVec 16) (s : State) :
    Host.Outcome State Fault Refusal :=
  s.command { slot := slot, op := 0x0400, h := h, bulk := [],
              payload := [role] ++ bytesBe 4 colOfs.toNat ++ bytesBe 2 asym.toNat ++ bytesBe 2 leadNs.toNat } gateString
    (stringSetRun role colOfs asym leadNs)

/-- No tick runs: none committed, none requested, and no internal period (R129). -/
def State.ticksStopped (s : State) : Bool := s.tick.due.isEmpty && s.tick.request.isNone && !(s.src = 4 && s.ticksAsked)

/-- Ticks run, so a string does not form (R129). -/
def State.formEarly (s : State) : Option Byte := if s.mode.mode = .ready && !s.ticksStopped then some stWrongMode else none

/-- STRING_FORM (R129, R275): the leader waits for its string. -/
def stringFormRun : Run := fun _ s =>
  if s.formEarly.isSome then fail stWrongMode s
  else if s.role ≠ 1 then fail stBadParam s
  else if s.sync.forming then fail stNoResource s
  else
    let s := s.onSync fun y =>
      { y with forming := true, pos := 0, devices := 1, maxLp := s.minLp, alignedPos := [], lostPos := [], hops := [], switch := none,
               state := if y.downLock then .trained else .down }
    .wait .stringForm (if s.sync.downLock then s.sendEnum else s)

def execStringForm (slot : Slot) (h : CmdHeader) (s : State) : Host.Outcome State Fault Refusal :=
  s.command { slot := slot, op := 0x0401, h := h, payload := [], bulk := [] } gateString stringFormRun

/-- The form command ends without a string (R129). -/
def State.formFails (s : State) (st : Byte) : State :=
  let slots := s.waiting fun w => w = .stringForm
  let s := s.onSync fun y => { y with forming := false, state := if y.downLock then .trained else .down }
  slots.foldl (fun s k => s.answer k st []) s

/-- STRING_FORM_DONE (R129): the leader checks LEAD_NS once every device is aligned; a follower in ALIGNED is then LOCKED and takes its ticks from the string. -/
def execStringFormDone (timedOut : Bool) (s : State) : Host.Outcome State Fault Refusal :=
  let s := s.newStep
  if s.role = 2 then
    if s.sync.state = .aligned && !timedOut && !s.mode.deep then
      let s := s.onSync fun y => { y with state := .locked, lastLine := none }
      .next { s with tick := { s.tick.clear with cfg := setField s.tick.cfg 0 3 5 } }
    else .next s
  else if !s.sync.forming then .next s
  else if 32 < s.sync.devices then .next (s.formFails stNoResource)
  else if timedOut then .next (s.formFails stTimeout)
  else if s.sync.devices < 2 || !(s.sync.awaited.all fun p => s.sync.alignedPos.contains p) then .next s
  else
    let hops := s.hopDelays 0
    if 128 * s.leadNs < leadReq hops then .next (s.formFails stBadParam)
    else
      let slots := s.waiting fun w => w = .stringForm
      let s := s.onSync fun y => { y with forming := false, state := .locked, hops := hops }
      .next (slots.foldl (fun s k => s.answer k stOk (BitVec.ofNat 8 s.sync.devices :: bytesBe 4 ((leadReq hops + 127) / 128))) s)

/-- STRING_LEAVE (R131, R267, R275, R355): the device's sync links stop. -/
def stringLeaveRun : Run := fun _ s =>
  if s.sync.forming then fail stNoResource s
  else
    let s := if s.isFollower then { s with tick := s.tick.clear } else s
    let s := s.switchRef false
    ok [] (s.onSync fun y => { y with state := .down, upLock := false, downLock := false, joinAt := none, thetas := [], delays := [], t1 := none,
                                        aligned := false, rejoining := false })

def execStringLeave (slot : Slot) (h : CmdHeader) (s : State) : Host.Outcome State Fault Refusal :=
  s.command { slot := slot, op := 0x0402, h := h, payload := [], bulk := [] } gateString stringLeaveRun

/-- The codes of SYNC_STAT.STATE (R134). -/
def SyncState.code : SyncState → Byte
  | .down => 0 | .trained => 1 | .enumerated => 2 | .aligned => 3 | .locked => 4 | .lost => 5

/-- STRING_STATUS (R275). -/
def stringStatusRun : Run := fun _ s =>
  ok ([s.sync.pos.setWidth 8, s.sync.state.code] ++ bytesBe 2 s.sync.offset.toNat ++ bytesBe 4 s.sync.delay.toNat) s

def gateOx : Gate := { gateO with exempt := true }

def execStringStatus (slot : Slot) (h : CmdHeader) (s : State) : Host.Outcome State Fault Refusal :=
  s.command { slot := slot, op := 0x0403, h := h, payload := [], bulk := [] } gateOx stringStatusRun

end Sys2Proof.Machine
end

