-- ==== Sys2Proof/Machine/Charger.lean ====
section
/-! DEFINITION. The backup domain's supply, clock and charger (R332–R349). -/

namespace Sys2Proof.Machine

/-- Fields of CHG_CFG (R349): VCV in mV, the charge current asked for in µA. -/
def Backup.cvMv (b : Backup) : Nat := 2800 + 100 * field b.chgCfg 13 11 - if b.chgZone = 3 then 100 else 0
def Backup.askUa (b : Backup) : Nat := 250 * Nat.min 100 (field b.chgCfg 6 0)

/-- Charging is suspended (R342, R343). -/
def Backup.suspended (b : Backup) : Bool := field b.chgCfg 6 0 = 0 || b.chgZone = 0 || b.chgZone = 4 || b.chgZone = 5

/-- The current that state, zone and source give (R341–R343), before a cutback; in CV it falls from there as the cell has it (log entry 103). -/
def Backup.targetUa (b : Backup) : Nat :=
  let full := Nat.min b.askUa (if b.chgSource = 2 then 25000 else 10000)
  let zoned := if b.chgZone = 1 || b.chgZone = 3 then full / 2 else full
  match b.chgState with
  | .precharge => zoned / 10
  | .cc => zoned
  | .cv => Nat.min zoned (Config.cvCurrent b.osc)
  | .off | .suspend | .done | .fault => 0

/-- The current follows a change of state, zone or source; a cutback keeps it low (R344). -/
def Backup.setCurrent (b : Backup) : Backup :=
  let q := if b.cutback then Nat.min b.chargeQ b.targetUa else b.targetUa
  { b with chargeQ := q, cutback := b.cutback && decide (q < b.targetUa) }

/-- The state that source, zone and cell voltage call for (R342). -/
def Backup.enterState (b : Backup) : Backup :=
  let st : ChgState :=
    if b.chgSource = 0 then .off
    else if b.suspended then .suspend
    else if !bit b.chgCfg 14 && b.vbatMv < 2000 then .precharge
    else if b.vbatMv < b.cvMv then .cc else .cv
  { b with chgState := st, chgSince := b.osc }.setCurrent

/-- The zone is normal where the NTC is not used (R343). -/
def Backup.useZone (b : Backup) : Backup := if bit b.chgCfg 15 then b else { b with chgZone := 2, zoneKnown := false }

/-- Suspension begins or ends (R342); PRECHARGE ends where CELL becomes 1, CC where VCV falls to the cell's voltage; FAULT stays. -/
def Backup.reconsider (b : Backup) : Backup :=
  let b := b.useZone
  match b.chgState with
  | .off | .fault => b
  | .suspend => if b.suspended then b else b.enterState
  | .precharge => if b.suspended || bit b.chgCfg 14 then b.enterState else b.setCurrent
  | .cc => if b.suspended then b.enterState else if b.cvMv ≤ b.vbatMv then { b with chgState := .cv }.setCurrent else b.setCurrent
  | .cv => if b.suspended then b.enterState else b.setCurrent
  | .done =>
    if b.suspended then b.enterState
    else if b.vbatMv + 100 ≤ b.cvMv then { b with chgState := .cc, chgSince := b.osc }.setCurrent else b.setCurrent

/-- A charger source (R341): none ends charging, a first source begins it. -/
def Backup.setSource (b : Backup) (src : BitVec 2) : Backup :=
  if src = 0 then { b with chgSource := 0, chgState := .off, zoneKnown := false, cutback := false, chargeQ := 0 }
  else if b.chgSource = 0 then { b.useZone with chgSource := src, cutback := false }.enterState
  else { b with chgSource := src }.setCurrent

/-- CHG_CFG is written (R342, R349): a FAULT ends. -/
def Backup.writeCfg (b : Backup) (w : Word) : Backup :=
  let b := { b with chgCfg := w }
  if b.chgState = .fault then b.useZone.enterState else b.reconsider

/-- MAIN is there: VDDIO_B runs at 3.3 V (R341). -/
def State.mainSource (s : State) : Bool := vget s.pwr.rails 10 && s.pwr.vddioB33

/-- The domain changed. -/
def State.onBkp (s : State) (f : Backup → Backup) : State := { s with bkp := f s.bkp }

/-- CHARGER_DETECT (R341): AUX first, then MAIN. -/
def execChargerDetect (auxHeld vddioB30 : Bool) (s : State) : Host.Outcome State Fault Refusal :=
  if s.bkp.chgSource = 2 then .next s
  else .next (s.onBkp fun b => b.setSource (if auxHeld then 2 else if vddioB30 then 1 else 0))

/-- CHARGER_SOURCE_LOSS (R341, R342): where AUX goes, MAIN takes over if it is there. -/
def execChargerSourceLoss (aux : Bool) (s : State) : Host.Outcome State Fault Refusal :=
  let gone : Bool := s.bkp.chgSource = (if aux then 2 else 1)
  if !gone then .next s
  else
    let s := s.onBkp fun b => b.setSource 0
    if aux && s.mainSource then .next (s.onBkp fun b => b.setSource 1) else .next s

/-- The zone of a reading in °C (R343): a zone nearer to normal only 2 °C inside its boundary. -/
def Backup.zoneOf (b : Backup) (ntcOpen : Bool) (temp : Int) : BitVec 3 :=
  let was (z : BitVec 3) : Bool := b.zoneKnown && b.chgZone = z
  let wasHot := was 4 || was 5
  let cold : Int := if was 0 then 2 else 0
  let cool : Int := if was 0 || was 1 then 12 else 10
  let warm : Int := if was 3 || wasHot then 43 else 45
  let hot : Int := if wasHot then 58 else 60
  if ntcOpen then 5 else if temp < cold then 0 else if temp < cool then 1 else if temp ≤ warm then 2 else if temp ≤ hot then 3 else 4

/-- CHARGER_ZONE_READ (R343): while a source is present and the NTC is used. -/
def execChargerZoneRead (ntcOpen : Bool) (temp : Int) (s : State) : Host.Outcome State Fault Refusal :=
  if s.bkp.chgSource = 0 || !bit s.bkp.chgCfg 15 then .next s
  else .next (s.onBkp fun b => { b with chgZone := b.zoneOf ntcOpen temp, zoneKnown := true }.reconsider)

/-- What the canary holds after the domain has run from a cell of `mv` mV (R334): it is lost below 1.40 V, and may be lost below 1.45 V. -/
def Backup.canaryAt (b : Backup) (mv : Nat) : BitVec 64 :=
  if !b.powered || b.vaonGood || 1450 ≤ mv || (1400 ≤ mv && Config.canaryHolds mv b.osc) then b.canary else 0

/-- CHARGER_VBAT_THRESHOLD (R334, R342): the cell voltage is `vbatMv`. -/
def execChargerVbatThreshold (vbatMv : Nat) (s : State) : Host.Outcome State Fault Refusal :=
  .next (s.onBkp fun b =>
    let b := { b with vbatMv := vbatMv, canary := b.canaryAt vbatMv }
    match b.chgState with
    | .precharge => if 2000 ≤ vbatMv then b.enterState else b
    | .cc => if b.cvMv ≤ vbatMv then { b with chgState := .cv }.setCurrent else b
    | .done => if vbatMv + 100 ≤ b.cvMv then { b with chgState := .cc, chgSince := b.osc }.setCurrent else b
    | .off | .suspend | .cv | .fault => b)

/-- The time that PRECHARGE may take, and CC with CV, in oscillator periods (R342, R349). -/
def Backup.chgLimit (b : Backup) : Nat :=
  32768 * 3600 * (if b.chgState = .precharge then 1 else 5 * (1 + field b.chgCfg 8 7))

/-- CHARGER_TIMEOUT (R342): 1 h of PRECHARGE, or TIMER since CC. -/
def execChargerTimeout (s : State) (rtc : Nat := 0) : Host.Outcome State Fault Refusal :=
  .next ((s.atRtc rtc).onBkp fun b =>
    if b.osc < b.chgSince + b.chgLimit then b
    else match b.chgState with
      | .precharge => { b with chgState := .fault }.setCurrent
      | .cc | .cv => { b with chgState := .done }.setCurrent
      | .off | .suspend | .done | .fault => b)

/-- CHARGE_TERMINATION (R342): the CV current is below 5% of ICHG. -/
def execChargeTermination (s : State) : Host.Outcome State Fault Refusal :=
  .next (s.onBkp fun b => if b.chgState = .cv then { b with chgState := .done }.setCurrent else b)

/-- CHARGER_CUTBACK (R344): one step of the current at a VAON in mV: down while the domain runs from VAON_IN, up from whatever it runs. -/
def execChargerCutback (vaonMv : Nat) (s : State) : Host.Outcome State Fault Refusal :=
  .next (s.onBkp fun b =>
    if vaonMv < 1700 then
      if b.vaonGood then { b with chargeQ := b.chargeQ / 2, cutback := b.cutback || decide (0 < b.chargeQ) } else b
    else if 1720 ≤ vaonMv && b.cutback then { b with chargeQ := b.chargeQ + 250 }.setCurrent
    else b)

/-- RTC_TRIM (R332): every 32 s, ADJ periods are added or skipped. -/
def execRtcTrim (s : State) : Host.Outcome State Fault Refusal :=
  .next (s.onBkp fun b => if b.powered then { b with rtc := ((b.rtc : Int) + b.adj.toInt).toNat } else b)

/-- The domain starts from its power-on reset (R332, R334): what feeds it and what the board brings stay. -/
def Backup.restart (b : Backup) : Backup :=
  { Backup.por with powered := true, vaonGood := b.vaonGood, vbatMv := b.vbatMv, osc := b.osc }

/-- The canary is checked (R336): by the boot ROM at a power-up, by the firmware while main power is present. -/
def State.checkCanaryLive (s : State) : State := if s.tack.state = .selftest then s else s.checkCanary

/-- VAON_IN_GOOD (R333, R346): the main path closes; an unpowered domain starts from its reset, after the 500 ms of a long press. -/
def State.vaonGood (s : State) : State :=
  let b := s.bkp
  let b := if b.powered || b.switchOpen then b else b.restart
  { s with bkp := { b with vaonGood := true } }

def execVaonInGood (s : State) : Host.Outcome State Fault Refusal := .next s.vaonGood

/-- BACKUP_DOMAIN_POR (R334, R336): while the switches of a long press are open nothing powers on. -/
def execBackupDomainPor (s : State) : Host.Outcome State Fault Refusal :=
  if s.bkp.switchOpen then .next s else .next (s.onBkp Backup.restart).checkCanaryLive

/-- SVC_BTN_LONG_PRESS (R346): both switches open, and the domain loses what it holds; without a source it times no press. -/
def execSvcBtnLongPress (s : State) : Host.Outcome State Fault Refusal :=
  .next (s.onBkp fun b =>
    if b.powered then { Backup.por with switchOpen := true, vaonGood := b.vaonGood, vbatMv := b.vbatMv, osc := b.osc } else b)

/-- SVC_BTN_RESET_END (R346). -/
def execSvcBtnResetEnd (s : State) : Host.Outcome State Fault Refusal :=
  if s.bkp.switchOpen then .next (s.onBkp Backup.restart).checkCanaryLive else .next s

/-- RECONCILIATION (R340): an RTC edge found at TB `t`, when one is due, on a device that is no follower. -/
def execReconciliation (t rtc : Nat) (s : State) : Host.Outcome State Fault Refusal :=
  let s := (s.atTb t).atRtc rtc
  if !s.mode.reconcile || s.host.phase = 7 || !s.bkp.rtcValid || field s.sync.cfg 15 14 = 2 || !s.tbRun then .next s
  else
    let s := { s with mode := { s.mode with reconcile := false } }
    let n := s.bkp.rtc / 32768 * 1000000000 + (2 * (s.bkp.rtc % 32768) * 1000000000 + 32768) / 65536
    if s.tb < n then .next { s.setTb n with timeSource := 2 }
    else .next (s.onBkp fun b => { b with tbResid := BitVec.ofNat 32 (Nat.min (s.tb - n) (2 ^ 32 - 1)) })

end Sys2Proof.Machine
end

