-- ==== Sys2Proof/Machine/Plls.lean ====
section
/-! DEFINITION. The clock tree: REFCLK, the losses and locks of the six PLLs, phase steps and ramp profiles (R350–R369, R459). -/

namespace Sys2Proof.Machine

/-- The margin of a range in a band (R367). -/
def bandMargin (b : Word) (r : Nat × Nat) : Nat := Nat.min (r.1 - field b 29 15 * mhz) (field b 14 0 * mhz - r.2)

/-- The band that a lock takes (R367): the greatest margin, the lower number at a tie. -/
def bestBand (v : Vector Word 64) (r : Nat × Nat) : Option Word :=
  (v.toList.filter fun b => bandHolds b r).foldl (fun best b => match best with
    | none => some b
    | some x => if bandMargin x r < bandMargin b r then some b else some x) none

/-- The target of a port PLL (R363): its VCO in MHz/8. -/
def rateVco (rate : Nat) : Nat :=
  if rate = 1 then 112500 else if rate = 2 then 103125 else if rate = 4 then 82500 else 128000

/-- The mode whose point PLL-B needs: that to which a timed transition goes (R96, R359). -/
def State.pointMode (s : State) : Mode :=
  match s.mode.pending with
  | some p => if p.phase = .timed then p.target else s.mode.mode
  | none => s.mode.mode

/-- The range that a lock of a PLL must hold (R352, R359, R363, R367): for PLL-B the whole move to the point that the mode needs. -/
def State.lockRange (s : State) (q : PllIx) : Nat × Nat :=
  if q = 0 then (2000 * mhz, 2000 * mhz)
  else if q = 1 then
    ((spreadOf s.clk.pllbCfg (fcwFreq (fcwOf 1))).1, (spreadOf s.clk.pllbCfg (fcwFreq (fcwOf (pointOf s.pointMode)))).2)
  else
    let f := rateVco (field (s.getPort (finOf 4 (q.val - 2))).cfg 30 28) * (mhz / 8)
    (f, f)

/-- What the band table says of a lock (R366–R368): `none` where no band qualifies, else whether the lock has the margin. Without a valid
entry a binary search finds a band. -/
def State.bandFor (s : State) (q : PllIx) : Option Bool :=
  let v := vget s.clk.band q
  if !v.toList.any bandValid then some true
  else match bestBand v (s.lockRange q) with
    | none => none
    | some b => some (decide ((field b 14 0 - field b 29 15) * mhz ≤ 10 * bandMargin b (s.lockRange q)))

/-- A PLL declares lock, its MARGIN cleared where the lock has it (R368). -/
def State.lockPll (s : State) (q : PllIx) (margin : Bool) : State :=
  let c := s.clk.take q
  { s with clk := { c with margin := if margin then setBit c.margin q.val false else c.margin } }

/-- The reference of a PLL is there (R350, R459). -/
def State.refThere (s : State) (q : PllIx) : Bool := s.clk.refclkOk || (q = 0 && s.clk.recovered)

/-- An attempt of a PLL at lock can succeed. -/
def State.mayLock (s : State) (q : PllIx) : Bool := vget s.clk.trying q && !vget s.clk.lock q && s.refThere q

/-- PLLA_LOCK_LOSS. -/
def execPllaLockLoss (t : Nat) (s : State) : Host.Outcome State Fault Refusal := .next (s.newStep.atTb t).losePllA

/-- PLLA_RELOCK_ATTEMPT (R358): `trying` has stood since the loss. An attempt shows by its outcome alone: PLLA_LOCK, or another attempt. -/
def execPllaRelockAttempt (s : State) : Host.Outcome State Fault Refusal := .next s

/-- PLL-A locks (R112, R358): the timebase runs on, from 0 at the first lock. -/
def State.lockPllA (s : State) : State :=
  if !s.mayLock 0 then s
  else match s.bandFor 0 with
    | none => s.report .clkOther
    | some margin =>
      let s := s.lockPll 0 margin
      { s with tbRun := true, clk := { s.clk with lockedOnce := true, ticksAllowed := false, lockTb := s.tb } }

/-- PLLA_LOCK (R358). -/
def execPllaLock (t : Nat) (s : State) : Host.Outcome State Fault Refusal := .next (s.atTb t).lockPllA

/-- PLL-B loses lock (R362). -/
def State.losePllB (s : State) : State :=
  if !vget s.clk.lock 1 then s
  else
    let s := s.unlockPll 1
    State.raise { s with clk := { s.clk with fallback := true, profile := none, point := 0 } } .clkB

/-- PLLB_LOCK_LOSS. -/
def execPllbLockLoss (s : State) : Host.Outcome State Fault Refusal := .next s.losePllB

/-- PLLB_RELOCK_ATTEMPT (R362): as PLLA_RELOCK_ATTEMPT. -/
def execPllbRelockAttempt (s : State) : Host.Outcome State Fault Refusal := .next s

/-- PLL-B locks (R359, R362): at P1, from where the profile runs to the point that the mode needs. -/
def State.lockPllB (s : State) : State :=
  if !s.mayLock 1 then s
  else match s.bandFor 1 with
    | none => s.report .clkOther
    | some margin =>
      let s := s.lockPll 1 margin
      let c := { s.clk with fallback := false, point := 1, pllbCfg := setField s.clk.pllbCfg 0 24 (fcwOf 1) }
      { s with clk := c }.rampTo (pointOf s.pointMode)

/-- PLLB_LOCK (R362). -/
def execPllbLock (s : State) : Host.Outcome State Fault Refusal := .next s.lockPllB

/-- A port PLL loses lock (R243, R365): its port is reset as by a per-function reset, and starts again once the PLL has locked. -/
def State.losePortPll (s : State) (p : PortIx) : State :=
  if !vget s.clk.lock (portPllIx p) then s
  else ((s.pfrPort p).unlockPll (portPllIx p)).report .clkOther

/-- PORT_PLL_LOCK_LOSS. -/
def execPortPllLockLoss (p : PortIx) (s : State) : Host.Outcome State Fault Refusal := .next (s.losePortPll p)

/-- PORT_PLL_RELOCK_ATTEMPT (R365): as PLLA_RELOCK_ATTEMPT. -/
def execPortPllRelockAttempt (_ : PortIx) (s : State) : Host.Outcome State Fault Refusal := .next s

/-- PORT_PLL_LOCK (R363, R365, R367): the lanes of a starting port leave electrical idle; a port that the loss reset starts again. -/
def execPortPllLock (p : PortIx) (s : State) : Host.Outcome State Fault Refusal :=
  if !s.mayLock (portPllIx p) then .next s
  else match s.bandFor (portPllIx p) with
    | none => .next (s.report .clkOther)
    | some margin =>
      let q := s.getPort p
      let s := s.lockPll (portPllIx p) margin
      let again : Bool := q.state = .stopped && bit q.cfg 31
      let s := if again then s.onPort p fun q => q.beginStart (s.dseed p) else s
      if q.state = .starting || again then .next (s.onPort p fun q => q.leaveIdle p (s.polarity p) s.tb) else .next s

/-- REFCLK_LOSS (R305, R459): every PLL that takes REFCLK loses lock, and the clock detector logs its event. -/
def execRefclkLoss (s : State) : Host.Outcome State Fault Refusal :=
  let s := { s.newStep with clk := { s.clk with refclkOk := false } }
  let s := if s.clk.recovered then s else s.losePllA
  let s := s.losePllB
  let s := (List.finRange 4).foldl (fun s p => s.losePortPll p) s
  .next (if s.bkp.powered then s.voltClock 4 else s)

/-- REFCLK_RETURN (R459): the retries can succeed again. -/
def execRefclkReturn (s : State) : Host.Outcome State Fault Refusal := .next { s with clk := { s.clk with refclkOk := true } }

/-- A write of PLLA_PHASE (R354, R369): none while steps are outstanding, nor where the alignment owns the stepper. -/
def execPllaPhaseWrite (value : Word) (s : State) : Host.Outcome State Fault Refusal :=
  let owned := s.role = 2 && (s.sync.state = .aligned || s.sync.state = .locked)
  if !s.hubUp then .next s
  else if owned || s.clk.phaseLeft ≠ 0 then .next s.lockedWrite
  else
    let steps : BitVec 16 := if vget s.clk.lock 0 then value.extractLsb' 0 16 else 0
    .next { s with clk := { s.clk with phaseRetard := bit value 16, phaseLeft := steps, phaseByAlign := false } }

/-- PHASE_STEP (R354): one of the steps outstanding is made, at most one per 256 ns. -/
def execPhaseStep (s : State) (t : Nat := 0) : Host.Outcome State Fault Refusal :=
  let s := s.atTb t
  if s.clk.phaseLeft = 0 || (s.clk.stepTb ≠ 0 && s.tb < s.clk.stepTb + 256) then .next s
  else .next { s with clk := { s.clk with phaseLeft := s.clk.phaseLeft - 1, stepTb := s.tb } }

/-- PLLB_PROFILE_GO (R361): a write of PLLB_PROF_CTRL with GO; LAST is written with it. An unlocked PLL-B runs no profile. -/
def execPllbProfileGo (value : Word) (s : State) : Host.Outcome State Fault Refusal :=
  let s := if s.hubUp then { s with clk := { s.clk with profLast := value.extractLsb' 0 4 } } else s
  if !bit value 4 || !s.hubUp then .next s
  else if !s.clk.profileOk (field value 3 0) then .next (s.report .config)
  else if !vget s.clk.lock 1 then .next s
  else .next { s with clk := { s.clk with profile := some 0, point := 3 } }

/-- PLLB_POINT of an FCW at rest (R369). -/
def pointOfFcw (f : Nat) : BitVec 2 := if f = 0x200000 then 1 else if f = 0x280000 then 2 else 3

/-- PLLB_PROFILE_SEGMENT_END (R361). -/
def execPllbProfileSegmentEnd (s : State) : Host.Outcome State Fault Refusal :=
  match s.clk.profile with
  | none => .next s
  | some i =>
    let f := field (vget s.clk.prof i) 31 8
    let c := { s.clk with pllbCfg := setField s.clk.pllbCfg 0 24 f }
    let c := if i.val < s.clk.profLast.toNat then { c with profile := some (i + 1) } else { c with profile := none, point := pointOfFcw f }
    .next { s with clk := c }

end Sys2Proof.Machine
end

