-- ==== Sys2Proof/Machine/System.lean ====
section
/-! DEFINITION. The system, firmware, telemetry and log commands (R272, R279, R280, R299, R345). -/

namespace Sys2Proof.Machine

/-- NOP (R272): the same bytes come back. -/
def nopRun (data : List Byte) : Run := fun _ s => ok data s

def execNop (slot : Slot) (h : CmdHeader) (data : List Byte) (s : State) : Host.Outcome State Fault Refusal :=
  s.command { slot := slot, op := 0x0100, h := h, payload := data, bulk := [] } { gateAny with exempt := true, fail := 1 } (nopRun data)

/-- The variant byte (R236). -/
def State.variantByte (s : State) : Byte := BitVec.ofNat 8 (s.host.variant.toNat + if s.host.suffixI then 4 else 0)

/-- IDENTIFY (R272, R315). -/
def identifyRun : Run := fun _ s =>
  ok ([s.variantByte] ++ bytesBe 8 s.serial.toNat ++ bytesBe 4 (vget s.nvm.banks s.host.bank).version.toNat
    ++ [BitVec.ofNat 8 s.host.bank.val, BitVec.ofNat 8 s.debugPolicy, BitVec.ofNat 8 s.rollbackT]) s

def execIdentify (slot : Slot) (h : CmdHeader) (s : State) : Host.Outcome State Fault Refusal :=
  s.command { slot := slot, op := 0x0101, h := h, payload := [], bulk := [] } { gateAny with exempt := true, fail := 1 } identifyRun

/-- GET_STATUS (R272): the STATUS payload, with the seal state of port 0. -/
def getStatusRun : Run := fun _ s => ok (statusPayload s 0) s

def execGetStatus (slot : Slot) (h : CmdHeader) (s : State) : Host.Outcome State Fault Refusal :=
  s.command { slot := slot, op := 0x0102, h := h, payload := [], bulk := [] } { gateAny with exempt := true } getStatusRun

/-- FW_RESTART (R272): the restart follows the answer. -/
def fwRestartRun : Run := fun _ s => .thenDo [] s fun s => s.restart 6

def execFwRestart (slot : Slot) (h : CmdHeader) (s : State) : Host.Outcome State Fault Refusal :=
  s.command { slot := slot, op := 0x0103, h := h, payload := [], bulk := [] } gateI fwRestartRun

/-- SHIP_MODE (R345). -/
def shipModeRun : Run := fun _ s => ok [] { s with bkp := { s.bkp with shipArmed := true } }

def execShipMode (slot : Slot) (h : CmdHeader) (s : State) : Host.Outcome State Fault Refusal :=
  s.command { slot := slot, op := 0x0104, h := h, payload := [], bulk := [] } { gateI with modes := fun m => m = .standby } shipModeRun

/-- An image fails test 13 (R301, R308): the tack room stays as it is, and shows the test. -/
def State.imageFails (s : State) : State := State.auditEvent { s with tack := { s.tack with failTest := 13 } } 0xFF05 13

/-- FW_ACTIVATE (R299, R301, R325): the bank control word names the bank, and the restart follows the answer. -/
def fwActivateRun (slot : Slot) (bank : Byte) : Run := fun ses s =>
  if 2 ≤ bank.toNat then fail stBadParam s
  else if !s.tackUp then hwFault .security s
  else if s.tack.paused then s.awaitTack slot ses
  else
    let b : Fin 2 := finOf 2 bank.toNat
    match s.checkBank b with
    | .rollback => fail stIntegrity s
    | .failed => .failed stIntegrity s.imageFails
    | .good => .thenDo [] { s with nvm := { s.nvm with active := b } } fun s => s.restart 7

def execFwActivate (slot : Slot) (h : CmdHeader) (bank : Byte) (s : State) : Host.Outcome State Fault Refusal :=
  s.command { slot := slot, op := 0x0801, h := h, payload := [bank], bulk := [] } { gateM with fail := 2 } (fwActivateRun slot bank)

/-- SCRUB_AGE_S: seconds since the latest whole pass. -/
def State.scrubAge (s : State) : Nat := Nat.min 65535 ((s.tb - s.chore.mramDone) / 1000000000)

/-- NVM_STATUS (R279). -/
def nvmStatusRun : Run := fun _ s =>
  let a := vget s.nvm.banks 0
  let b := vget s.nvm.banks 1
  let v (x : Bank) (n : Nat) : Nat := if x.present && !x.invalid then n else 0
  ok (bytesBe 4 a.version.toNat ++ bytesBe 4 b.version.toNat ++ [BitVec.ofNat 8 s.nvm.active.val, BitVec.ofNat 8 (v a 1 + v b 2)]
    ++ bytesBe 2 s.scrubAge) s

def execNvmStatus (slot : Slot) (h : CmdHeader) (s : State) : Host.Outcome State Fault Refusal :=
  s.command { slot := slot, op := 0x0805, h := h, payload := [], bulk := [] } { gateO with exempt := true } nvmStatusRun

/-- The newest snapshot (R329), in the log buffer or in the ring; nothing where there is none. -/
def State.snapshot (s : State) : List Byte :=
  let inBuffer := s.chore.log.reverse.findSome? fun i => match i with
    | .telemetry _ _ kind data => if kind = 1 then some data else none
    | .audit _ => none
  let inRing := (s.nvm.telem.find? fun e => e.kind = 1).map (·.data)
  (inBuffer <|> inRing).getD []

/-- TELEM_READ (R280, R329): the data of the newest snapshot. -/
def telemReadRun : Run := fun _ s => .done stOk [] s.snapshot s

def execTelemRead (slot : Slot) (h : CmdHeader) (s : State) : Host.Outcome State Fault Refusal :=
  s.command { slot := slot, op := 0x0900, h := h, payload := [], bulk := [] } { gateO with exempt := true } telemReadRun

/-- LOG_READ (R280, R329): the entries INDEX to INDEX + COUNT − 1 that the telemetry ring holds. -/
def logReadRun (index : Word) (count : Byte) : Run := fun _ s =>
  if count = 0 || 64 < count.toNat then fail stBadParam s
  else
    let hit (e : TelemEntry) : Bool := index.toNat ≤ e.number.toNat && e.number.toNat < index.toNat + count.toNat
    .done stOk [] ((s.nvm.telem.filter hit).reverse.flatMap TelemEntry.bytes) s

def execLogRead (slot : Slot) (h : CmdHeader) (index : Word) (count : Byte) (s : State) : Host.Outcome State Fault Refusal :=
  s.command { slot := slot, op := 0x0901, h := h, payload := bytesBe 4 index.toNat ++ [count], bulk := [] } { gateO with exempt := true }
    (logReadRun index count)

/-- The entry at a place of the audit ring (R307): 64 zero bytes where none was written; one that an uncorrectable word lies in fails its verification
(R330), and its bytes are free. -/
def Mram.auditAt (m : Mram) (i : Nat) : List Byte :=
  let back := (m.auditNext + 1023 - i) % 1024
  match m.audit[back]? with
  | some e => if m.auditBad.contains i then bytesLe 64 (Config.auditDamaged i).toNat else e.bytes
  | none => zeros 64

/-- AUDIT_READ (R280, R307). -/
def auditReadRun (index : BitVec 16) (count : Byte) : Run := fun _ s =>
  if count = 0 || 64 < count.toNat || 1024 < index.toNat + count.toNat then fail stBadParam s
  else .done stOk [] ((List.range count.toNat).flatMap fun i => s.nvm.auditAt (index.toNat + i)) s

def execAuditRead (slot : Slot) (h : CmdHeader) (index : BitVec 16) (count : Byte) (s : State) : Host.Outcome State Fault Refusal :=
  s.command { slot := slot, op := 0x0902, h := h, payload := bytesBe 2 index.toNat ++ [count], bulk := [] } { gateO with exempt := true }
    (auditReadRun index count)

end Sys2Proof.Machine
end

