-- ==== Sys2Proof/Machine/Boot.lean ====
section
/-! DEFINITION. Power, reset and start-up, from the rails to PHASE READY (R93, R259–R261, R299–R302, R317–R319, R413, R433–R446). -/

namespace Sys2Proof.Machine

/-- The place of a rail in `Power.rails`, in the order of R433. -/
def railIx : Rail → Fin 12
  | .vddHub => 0 | .vddAcc => 1 | .vddaPix => 2 | .vddaCmp => 3 | .vddLink => 4 | .vddhLink => 5
  | .hbmVpp => 6 | .hbmVdd => 7 | .hbmVddq => 8 | .vddioA => 9 | .vddioB => 10 | .vaonIn => 11

/-- What the fuses keep through a reset (R312, R318, R322): the cells. A pulse cut short leaves its cell as it may be. -/
def Fuses.powerCut (f : Fuses) : Fuses :=
  let g := match f.pulse with
    | some p => if Config.pulseCut p.word.toNat p.bit.val (if p.cell then 1 else 0) then f.setCell p.cell p.word p.bit else f
    | none => f
  { Fuses.reset with cell0 := g.cell0, cell1 := g.cell1, vppMv := f.vppMv }

/-- What MRAM keeps through a reset (R323, R328): everything written. The counters of NVM_SCRUB go back to 0 (R331). -/
def Mram.powerCut (m : Mram) : Mram := { m with dirty := [], recent := [], stored := m.storedCopy, corrected := 0, uncorr := 0 }

/-- The lockout record of a key as the journal holds it (R295, R324): its newest word that checks. -/
def Mram.lockOf (m : Mram) (role : Fin 4) (index : Fin 8) : LockRec :=
  match m.journal.copies.find? fun c => !c.damaged && c.item.role = role && c.item.index = index with
  | some c => c.item.lock
  | none => LockRec.clear

/-- The tack room after a reset: its lockouts from the journal, their remaining times counted from here (R295). The model's own count of entropy inputs goes on. -/
def Tack.restarted (t : Tack) (m : Mram) : Tack :=
  { Tack.reset with seeds := t.seeds, locks := Vector.ofFn fun r => Vector.ofFn fun i => { lock := m.lockOf r i, since := 0 } }

/-- A port after a reset, which knows the SESSION of its previous seal session (R309). -/
def Port.restarted (p : Port) : Port := { Port.reset with lastSession := p.lastSession }

/-- Everything but the backup domain, what is non-volatile, the pins and the test access port is reset (R413, R435). -/
def State.hardReset (s : State) : State :=
  let clk := { Clocks.reset with refclkOk := s.clk.refclkOk }
  let d := s.dbg
  let dbg := { Debug.reset with ir := d.ir, boundary := d.boundary, preload := d.preload, haltOnRestart := d.haltOnRestart, baySel := d.baySel, result := d.result }
  let port := { Ports.reset with port := s.port.port.map Port.restarted }
  { State.reset with
    pending := s.pending, fuse := s.fuse.powerCut, nvm := s.nvm.powerCut, bkp := s.bkp, clk := clk, dbg := dbg, port := port,
    tack := s.tack.restarted s.nvm, pwr := { s.pwr with dead := false, hbmTrained := false } }

/-- The held commits are written before a reset that finds the power good (R328): only a power failure loses them. -/
def State.writeHeld (s : State) : State := s.nvm.dirty.foldl (fun s i => s.nvWrite i) s

/-- VAON_IN is gone (R93, R333, R345): the domain runs from the cell, or from nothing in ship mode. -/
def Backup.onCell (b : Backup) : Backup :=
  if b.shipArmed then { Backup.por with switchOpen := b.switchOpen, vbatMv := b.vbatMv } else { b with vaonGood := false }

/-- A rail is lost (R435): the device is in reset, the test access port with it: DEDUCED (log entry 95); MAIN goes with VDDIO_B (R341). -/
def State.railLost (s : State) (r : Rail) : State :=
  let main : Bool := r = .vddioB && s.bkp.chgSource = 1
  let s := { s.hardReset with dbg := Debug.reset }
  let s := { s with pwr := { s.pwr with rails := vset s.pwr.rails (railIx r) false, porHeld := true } }
  s.onBkp fun b =>
    let b := if main then b.setSource 0 else b
    if r = .vaonIn then b.onCell else b

/-- RAIL_LOSS (R435). -/
def execRailLoss (rail : Rail) (s : State) : Host.Outcome State Fault Refusal := .next (s.railLost rail)

/-- VAON_IN_LOSS (R333): VAON_IN is a rail of R434 too. -/
def execVaonInLoss (s : State) : Host.Outcome State Fault Refusal := .next (s.railLost .vaonIn)

/-- LAST_RAIL_GOOD (R434, R445): t0. VDDIO_B selects its level, and its pull latch selects pull-down, at its own power-on reset. RETFAIL counts from
this power-up on (BKP_STAT, R348). -/
def execLastRailGood (vddioB33 : Bool) (s : State) : Host.Outcome State Fault Refusal :=
  if s.pwr.rails.toList.all id then .next s
  else
    let lostB := !vget s.pwr.rails 10
    let s := if lostB then { s with pwr := { s.pwr with vddioB33 := vddioB33, stbLatch := 0 } } else s
    let s := State.vaonGood { s with pwr := { s.pwr with rails := Vector.replicate 12 true, porHeld := true }, bkp := { s.bkp with retFail := false } }
    .next (if s.mainSource && s.bkp.chgSource = 0 && s.bkp.powered then s.onBkp fun b => b.setSource 1 else s)

/-- The start of the sequence of R437: the watchdog started (R411), ADDR sampled, the shadow read, the protection block checked twice at most (R318, R319, R446). -/
def State.release (s : State) (addrPins : BitVec 2) : State :=
  let s := { s with pwr := { s.pwr with porHeld := false, dead := false }, hk := { s.hk with addrPins := addrPins },
                    clk := { s.clk with fallback := true },
                    wdt := { s.wdt with serviceLine := s.lineCnt, serviceRtc := BitVec.ofNat 63 s.bkp.rtc } }
  let s := { s with fuse := { s.fuse with shadow := s.fuse.readShadow } }
  if s.fuse.blockOk then
    let w := vget s.fuse.shadow 0
    let variant : BitVec 2 := if s.sealed_ then w.extractLsb' 8 2 else 1
    { s with
      fuse := { s.fuse with loaded := true },
      pwr := { s.pwr with stbLatch := s.stbInact },
      host := { s.host with phase := 1, variant := variant, suffixI := bit w 10 } }
  else { s with pwr := { s.pwr with dead := true } }

/-- Everything is there for a release: the rails, RESET_N high, PHASE OFF. -/
def State.mayRelease (s : State) : Bool :=
  s.pwr.rails.toList.all id && !s.pwr.resetLow && s.host.phase = 0 && !s.pwr.dead

/-- POR_RELEASE (R318, R434): 2 ms after the last rail. With RESET_N low the sequence waits for its release. -/
def execPorRelease (addrPins : BitVec 2) (s : State) : Host.Outcome State Fault Refusal :=
  if !s.pwr.rails.toList.all id then .next s
  else
    let s := { s with pwr := { s.pwr with porHeld := false }, hk := { s.hk with addrPins := addrPins } }
    if s.mayRelease then .next (s.release addrPins) else .next s

/-- RESET_N (R413, R436): low for 1 µs. -/
def execResetN (s : State) : Host.Outcome State Fault Refusal :=
  let s := s.writeHeld.hardReset
  .next { s with pwr := { s.pwr with resetLow := true } }

/-- RESET_N_RELEASE (R319, R436, R446). -/
def execResetNRelease (addrPins : BitVec 2) (s : State) : Host.Outcome State Fault Refusal :=
  if !s.pwr.resetLow then .next s
  else
    let s := { s with pwr := { s.pwr with resetLow := false }, hk := { s.hk with addrPins := addrPins } }
    if s.mayRelease && !s.pwr.porHeld then .next (s.release addrPins) else .next s

/-- The valid bands of a sweep (R366). -/
def sweepBands (q rtc : Nat) : Vector Word 64 :=
  Vector.ofFn fun b => setBit (setBit (Config.bandEntry q b.val rtc) 30 false) 31 true

/-- FUSE_LOAD_DONE (R318, R366, R437): the trim block is loaded, and the boot ROM sweeps PLL-A and PLL-B and starts both. -/
def execFuseLoadDone (s : State) : Host.Outcome State Fault Refusal :=
  if s.host.phase ≠ 1 then .next s
  else
    let good := s.fuse.trimGood
    let bad : Bool := !good && s.fuse.word 0x3F ≠ 0
    let killed := bit (vget s.fuse.shadow 0x18) 4
    let s := { s with fuse := { s.fuse with trimOk := good && s.fuse.word 0x3F ≠ 0 }, host := { s.host with phase := 2 },
                      tack := { s.tack with killed := killed } }
    let c := s.clk
    let c := { c with band := vset (vset c.band 0 (sweepBands 0 s.bkp.rtc)) 1 (sweepBands 1 s.bkp.rtc),
                      trying := vset (vset c.trying 0 true) 1 true }
    let s := { s with clk := c }
    .next (if bad then s.report .fuse else s)

/-- The self-tests have failed at boot (R301, R308). -/
def State.bootTestFail (s : State) (test : BitVec 4) : State :=
  let s := { s with tack := { s.tack with state := .error, failTest := test } }
  (s.auditEvent 0xFF05 (test.setWidth 8)).phaseFail 5

/-- The self-tests of the boot have passed (R301): a part without a HUK draws and programs it first, where it may give a pulse (R317, R321). -/
def State.bootTestPass (s : State) : State :=
  if !s.hukMissing then s.testsOver
  else if !s.canPulse then s.phaseFail 5
  else
    let (key, s) := s.draw 256
    s.hukNext key

/-- Tests 1 to 9 again at a restart (R302). -/
def State.retestDone (s : State) (test : BitVec 4) : State :=
  let s := { s with tack := { s.tack with retest := false } }
  if test ≠ 0 then
    let s := (List.finRange 4).foldl (fun s p => s.onPort p Port.endSeal) s
    s.bootTestFail test
  else
    let left : Bool := s.tack.state = .error
    let s := { s with tack := { s.tack with state := .operational, failTest := 0 } }
    if left then
      let s := s.auditEvent 0xFF08 0
      (List.finRange 4).foldl (fun s p => if s.running p then s.openSeal p else s) s
    else s

/-- SELFTEST_DONE (R301, R302, R437): tests 1 to 9 are those of a start; the others are never its outcome. By then the boot ROM has locked PLL-B and PLL-A, where REFCLK is there. -/
def execSelftestDone (failTest : BitVec 4) (s : State) : Host.Outcome State Fault Refusal :=
  if 9 < failTest.toNat then .next s
  else if s.host.phase = 2 && s.fuse.pulse.isNone && !s.dbg.cpHalted then
    let s := s.lockPllB.lockPllA
    .next (if failTest = 0 then s.seedDrbg.bootTestPass else s.bootTestFail failTest)
  else if s.tack.retest then .next (s.retestDone failTest)
  else .next s

/-- FW_VERIFIED (R299, R306, R340, R410): a pending tamper response is completed first; the watchdog counts once the firmware runs, and a reconciliation is due. -/
def execFwVerified (s : State) : Host.Outcome State Fault Refusal :=
  if s.host.phase ≠ 3 || s.dbg.cpHalted then .next s
  else
    let s := if s.bkp.tampPending then s.tampHandle s.tampDetail else s
    match s.bootBank with
    | some (bank, code) =>
      .next (State.wdtEnable { s with host := { s.host with phase := 4, bank := bank, failcode := code }, mode := { s.mode with reconcile := s.bkp.rtcValid } })
    | none => .next (s.phaseFail 3)

/-- HBM_TRAINED (R437). -/
def execHbmTrained (s : State) : Host.Outcome State Fault Refusal :=
  if s.host.phase = 0 then .next s else .next { s with pwr := { s.pwr with hbmTrained := true } }

/-- The newest version number among reloaded code tables. -/
def newestVersion (v : Vector (Vector (Option CodeTable) 8) 2) : Nat :=
  (v.toList.flatMap fun g => g.toList.map fun t => match t with
    | some x => x.version
    | none => 0).foldl Nat.max 0

/-- The firmware reloads what persists (R43, R140, R324) and fills the tables of the port PLLs (R366). -/
def State.reload (s : State) : State :=
  let m := s.nvm
  let c := s.clk
  let c := { c with band := Vector.ofFn fun q => if q.val < 2 then vget c.band q else sweepBands q.val s.bkp.rtc }
  { s with
    sensor := { s.sensor with tables := m.codeCopy, tableVersions := Nat.max s.sensor.tableVersions (newestVersion m.codeCopy) },
    groom := { s.groom with columns := m.columnCopy, defects := m.defectCopy, luts := m.lutCopy },
    clk := c }

/-- PHASE READY (R260, R263, R300). -/
def State.mailReady (s : State) : State :=
  let s := { s with
    host := { s.host with phase := 5, irqReady := true },
    tack := { s.tack with restartHold := false },
    flt := { s.flt with pfrBusy := setBit s.flt.pfrBusy 0 false } }
  s.thermoAdvance

/-- A restart is over (R285, R308, R325, R329): the firmware runs from the bank that verifies; after PHASE FAIL it is the first to run, and the device
comes to STANDBY (R96). -/
def State.restartOver (s : State) : State :=
  let cause := s.flt.lastCause
  let s := (s.auditEvent 0xFF03 cause).telemetry 4 (cause :: List.replicate 21 0)
  match s.bootBank with
  | none => s.phaseFail 3
  | some (bank, code) =>
    let s := { s with host := { s.host with bank := bank, failcode := code } }
    let s := if s.mode.mode = .boot then (State.reload { s with mode := { s.mode with reconcile := false } }).setMode .standby 1 0 else s
    let s := if s.clk.profile.isNone && s.mode.pending.isNone then s.rampTo (pointOf s.mode.mode) else s
    (s.onBkp fun b => b.writeCfg s.nvm.board).mailReady.askJoin

/-- MAILBOXES_READY (R96, R260, R349): the end of a power-up, in STANDBY, or of a restart. A halted control processor waits (R439). -/
def execMailboxesReady (s : State) : Host.Outcome State Fault Refusal :=
  if s.dbg.cpHalted then .next s
  else if s.host.phase = 4 then
    let s := State.reload { s with mode := { s.mode with reconcile := false } }
    let s := s.setMode .standby 1 0
    .next ((s.onBkp fun b => b.writeCfg s.nvm.board).mailReady)
  else if s.host.phase = 6 then .next s.restartOver
  else .next s

end Sys2Proof.Machine
end

