-- ==== Sys2Proof/Machine/Carts.lean ====
section
/-! DEFINITION. The steps of the carts: a descriptor's start, its chunks, its end, RESUME and ABORT (R213–R216). -/

namespace Sys2Proof.Machine

/-- The virtual addresses of the source and destination bytes of the chunk that begins at byte i (R215). -/
def DescView.chunkVas (d : DescView) (i : Nat) : List (BitVec 40) × List (BitVec 40) :=
  let ks := (List.range (d.chunk i)).map fun k => i + k
  (ks.map d.srcOf, ks.map d.dstOf)

/-- The bytes of a checked chunk moved, with the poison they carry (R211, R215). -/
def State.cartMove (s : State) (q : CartIx) (t : List TlbEntry) (xs : List (Nat × Nat)) : State :=
  let (m, bad) := s.mem.move xs
  let s := s.setCartTlb q t
  State.onCart { s with mem := m, det := { s.det with cartPoison := satAdd s.det.cartPoison bad } } q
    fun c => { c with prog := c.prog + BitVec.ofNat 32 xs.length }

/-- One chunk of the descriptor in progress: every translation and permission is checked before any byte moves (R215, R216). -/
def State.cartChunk (s : State) (q : CartIx) (d : CartDesc) (v : DescView) : State :=
  let prog := (s.getCart q).prog
  let (src, dst) := v.chunkVas prog.toNat
  match s.accessAll (s.cartRequester q d) .cartRead (s.cartTlb q) src with
  | .error f => s.cartFault q d prog true 5 f
  | .ok (from_, t) =>
    match s.accessAll (s.cartRequester q d) .cartWrite t dst with
    | .error f => s.cartFault q d prog true 6 f
    | .ok (to_, u) =>
      let cells : List Host.Cell := to_.map fun a => (a, 0)
      let z := s.met (s.cartRequester q d) (s.cartTlb q) src (from_.map (· / 8))
      (z.met (s.cartRequester q d) t dst (partWords cells)).cartMove q u (from_.zip to_)

/-- The descriptor a running cart has in progress. -/
def Cart.current (c : Cart) : Option (CartDesc × BitVec 256 × List CartDesc) :=
  match c.queue with
  | d :: rest => if c.state = .running && c.begun then d.raw.map fun raw => (d, raw, rest) else none
  | [] => none

/-- CART_DESCRIPTOR_START (R213, R214, R374). -/
def execCartDescriptorStart (q : CartIx) (s : State) : Host.Outcome State Fault Refusal :=
  if s.cartReady q then .next (s.startDesc q) else .next s

/-- CART_CHUNK (R215). -/
def execCartChunk (q : CartIx) (s : State) : Host.Outcome State Fault Refusal :=
  match (s.getCart q).current with
  | some (d, raw, _) =>
    let v := descView raw
    if (s.getCart q).prog.toNat < v.total then .next (s.cartChunk q d v) else .next s
  | none => .next s

/-- CART_DESCRIPTOR_DONE (R214, R215). -/
def execCartDescriptorDone (q : CartIx) (s : State) : Host.Outcome State Fault Refusal :=
  match (s.getCart q).current with
  | some (d, raw, rest) =>
    let v := descView raw
    if v.total ≤ (s.getCart q).prog.toNat then .next (s.descDone q d v rest) else .next s
  | none => .next s

/-- CART_RESUME (R216). -/
def execCartResume (q : CartIx) (s : State) : Host.Outcome State Fault Refusal := .next (s.cartResume q)

/-- CART_ABORT (R216). -/
def execCartAbort (q : CartIx) (s : State) : Host.Outcome State Fault Refusal := .next (s.cartAbort q)

end Sys2Proof.Machine
end

