-- ==== Sys2Proof/Machine/Flags.lean ====
section
/-! DEFINITION. The sticky flags of a bay and the results that set them (R163, R179, R189). -/

namespace Sys2Proof.Machine

/-- The result of one lane: its value and whether it overflows (VOV) or is clamped (VSAT). -/
structure LaneOut (w : Nat) where
  val : BitVec w
  ov : Bool
  sat : Bool
  deriving DecidableEq, Repr

/-- MIN of R163. -/
def minS (w : Nat) : Int := -(2 ^ (w - 1))

/-- MAX of R163. -/
def maxS (w : Nat) : Int := 2 ^ (w - 1) - 1

/-- UMAX of R163. -/
def maxU (w : Nat) : Int := 2 ^ w - 1

/-- The exact result lies outside MIN–MAX. -/
def outS (w : Nat) (x : Int) : Bool := x < minS w || maxS w < x

/-- The exact result lies outside 0–UMAX. -/
def outU (w : Nat) (x : Int) : Bool := x < 0 || maxU w < x

/-- A value that sets no flag. -/
def plain {w : Nat} (x : BitVec w) : LaneOut w := { val := x, ov := false, sat := false }

/-- A wrapping result: the low w bits, VOV when the signed result is outside MIN–MAX (R189). -/
def wrapS (w : Nat) (x : Int) : LaneOut w := { val := BitVec.ofInt w x, ov := outS w x, sat := false }

/-- A wrapping result that sets no flag. -/
def wrapU (w : Nat) (x : Int) : LaneOut w := { val := BitVec.ofInt w x, ov := false, sat := false }

/-- A signed clamped result, VSAT when clamped (R189). -/
def clampS (w : Nat) (x : Int) : LaneOut w :=
  { val := BitVec.ofInt w (clampInt (minS w) (maxS w) x), ov := false, sat := outS w x }

/-- An unsigned clamped result, VSAT when clamped (R189). -/
def clampU (w : Nat) (x : Int) : LaneOut w :=
  { val := BitVec.ofInt w (clampInt 0 (maxU w) x), ov := false, sat := outU w x }

/-- SFLAGS bits (R179). -/
def sfOv : Word := 0x1#32
def sfDz : Word := 0x2#32
def sfFeedgap : Word := 0x4#32
def sfEmitbad : Word := 0x8#32

/-- Setting scalar flags: they are sticky (R189). -/
def JobRegs.setSflags (r : JobRegs) (f : Word) : JobRegs := { r with sflags := r.sflags ||| f }

/-- Setting the lane flags of the active lanes (R164, R189). -/
def JobRegs.setLaneFlags (r : JobRegs) (ov sat : Word) : JobRegs := { r with vov := r.vov ||| ov, vsat := r.vsat ||| sat }

/-- A lane operation on the active lanes: results to vd, flags of the active lanes only (R164). -/
def JobRegs.laneOp (r : JobRegs) (W : Bool) (vd : VReg) (pg : PReg) (f : Fin 32 → LaneOut (laneWidth W)) : JobRegs :=
  (r.setActive W vd pg fun i => (f i).val).setLaneFlags
    (laneMask fun i => r.active pg i && (f i).ov) (laneMask fun i => r.active pg i && (f i).sat)

/-- A lane operation of two sources (R180, R183). -/
def JobRegs.lane2 (r : JobRegs) (W : Bool) (vd va : VReg) (vb : VSrc) (pg : PReg)
    (f : (w : Nat) → BitVec w → BitVec w → LaneOut w) : JobRegs :=
  r.laneOp W vd pg fun i => f (laneWidth W) (r.lane W va i) (r.src W vb i)

/-- A lane operation of one source. -/
def JobRegs.lane1 (r : JobRegs) (W : Bool) (vd va : VReg) (pg : PReg) (f : (w : Nat) → BitVec w → LaneOut w) : JobRegs :=
  r.laneOp W vd pg fun i => f (laneWidth W) (r.lane W va i)

/-- A lane operation that adds to the destination lane: d, a, b (R181). -/
def JobRegs.lane3 (r : JobRegs) (W : Bool) (vd va : VReg) (vb : VSrc) (pg : PReg)
    (f : (w : Nat) → BitVec w → BitVec w → BitVec w → LaneOut w) : JobRegs :=
  r.laneOp W vd pg fun i => f (laneWidth W) (r.lane W vd i) (r.lane W va i) (r.src W vb i)

/-- A widening accumulation: 16-bit sources, the 32-bit pair at vd (R181). -/
def JobRegs.laneWide (r : JobRegs) (vd va : VReg) (vb : VSrc) (pg : PReg)
    (f : Word → BitVec 16 → BitVec 16 → LaneOut 32) : JobRegs :=
  r.laneOp true vd pg fun i => f (r.lane32 vd i) (r.lane16 va i) (r.src false vb i)

end Sys2Proof.Machine
end

