-- ==== Sys2Proof/Machine/Alu.lean ====
section
/-! DEFINITION. The arithmetic of Myvik instructions (R171–R191): shifts, products, division, comparison, permutation and
reduction. -/

namespace Sys2Proof.Machine

/-- A shift amount: bits [7:0], read unsigned (R191). -/
def amount (x : Word) : Nat := (x.extractLsb' 0 8).toNat

/-- A lane's shift amount: bits [7:0] of the second source, read unsigned (R183, R191). -/
def laneAmount {w : Nat} (x : BitVec w) : Nat := (x.extractLsb' 0 8).toNat

/-- Left shift: 0 when n ≥ 32 (R171). -/
def shl32 (x : Word) (n : Nat) : Word := if 32 ≤ n then 0 else x <<< n

/-- Logical right shift: 0 when n ≥ 32 (R171). -/
def shr32 (x : Word) (n : Nat) : Word := if 32 ≤ n then 0 else x >>> n

/-- Arithmetic right shift: copies of the sign bit when n ≥ 32 (R171). -/
def sar32 (x : Word) (n : Nat) : Word :=
  if 32 ≤ n then (if x.msb then BitVec.allOnes 32 else 0) else x.sshiftRight n

/-- Rotate left by n mod 32 (R171). -/
def rol32 (x : Word) (n : Nat) : Word := x.rotateLeft (n % 32)

/-- Rotate right by n mod 32 (R171). -/
def ror32 (x : Word) (n : Nat) : Word := x.rotateRight (n % 32)

/-- 1 where a comparison holds, else 0. -/
def flag32 (c : Bool) : Word := if c then 1 else 0

/-- High 32 bits of the signed 64-bit product (R171). -/
def mulHighS (a b : Word) : Word := BitVec.ofInt 32 (a.toInt * b.toInt / 2 ^ 32)

/-- High 32 bits of the unsigned 64-bit product (R171). -/
def mulHighU (a b : Word) : Word := BitVec.ofNat 32 (a.toNat * b.toNat / 2 ^ 32)

/-- Number of 1 bits (R171). -/
def popCount (x : Word) : Word := BitVec.ofNat 32 ((List.range 32).countP fun i => bit x i)

/-- Leading zeros, 32 for 0 (R171). -/
def leadingZeros (x : Word) : Word :=
  BitVec.ofNat 32 (((List.range 32).map fun i => bit x (31 - i)).takeWhile (! ·)).length

/-- The corner of DIV and REM: a = 0x8000_0000 and b = −1 (R190). -/
def divCorner (a b : Word) : Bool := a == 0x80000000#32 && b == 0xFFFFFFFF#32

/-- DIV: the signed quotient truncated toward zero, never trapping (R190). -/
def divS (a b : Word) : Word :=
  if b = 0 then (if a.msb then 0x80000000#32 else 0x7FFFFFFF#32)
  else if divCorner a b then 0x80000000#32 else BitVec.ofInt 32 (a.toInt.tdiv b.toInt)

/-- DIVU (R190). -/
def divU (a b : Word) : Word := if b = 0 then 0xFFFFFFFF#32 else BitVec.ofNat 32 (a.toNat / b.toNat)

/-- REM: a − q × b, with the sign of a, or 0 (R190). -/
def remS (a b : Word) : Word :=
  if b = 0 then a else if divCorner a b then 0 else BitVec.ofInt 32 (a.toInt.tmod b.toInt)

/-- REMU (R190). -/
def remU (a b : Word) : Word := if b = 0 then a else BitVec.ofNat 32 (a.toNat % b.toNat)

/-- The flags of DIV: DZ for b = 0, OV for the corner (R190). -/
def divSFlags (a b : Word) : Word := if b = 0 then sfDz else if divCorner a b then sfOv else 0

/-- The flags of REM (R190). -/
def remSFlags (a b : Word) : Word := if b = 0 then sfDz else if divCorner a b then sfOv else 0

/-- The flag of DIVU (R190). -/
def divUFlags (_a b : Word) : Word := if b = 0 then sfDz else 0

/-- The flag of REMU (R190). -/
def remUFlags (_a b : Word) : Word := if b = 0 then sfDz else 0

/-- The next PC written. -/
def JobRegs.setPc (r : JobRegs) (pc : BitVec 40) : JobRegs := { r with pc := pc }

/-- A conditional branch: PC + 4 × off where taken, else the next instruction (R173). -/
def JobRegs.branch (r : JobRegs) (taken : Bool) (off : Int) : JobRegs :=
  if taken then r.setPc (pcPlus r.pc off) else r.advance

/-- A compare: active lanes get the condition, inactive lanes 0 (R164, R182). -/
def JobRegs.compare (r : JobRegs) (w : Bool) (pd : PReg) (va : VReg) (vb : VSrc) (pg : PReg)
    (c : (n : Nat) → BitVec n → BitVec n → Bool) : JobRegs :=
  r.setP pd (laneMask fun i => r.active pg i && c (laneWidth w) (r.lane w va i) (r.src w vb i))

/-- k of a permute: bits [7:0] of scalar register sc (R184). -/
def permK (r : JobRegs) (sc : SReg) : Nat := amount (r.getS sc)

/-- Lane j of va, or 0 for j ≥ 32 (R184). -/
def JobRegs.laneAt (r : JobRegs) (w : Bool) (va : VReg) (j : Nat) : BitVec (laneWidth w) :=
  if h : j < 32 then r.lane w va ⟨j, h⟩ else 0

/-- (va:vb)[j], or 0 for j ≥ 64 (R184). -/
def JobRegs.catLane (r : JobRegs) (w : Bool) (va vb : VReg) (j : Nat) : BitVec (laneWidth w) :=
  if j < 32 then r.laneAt w va j else r.laneAt w vb (j - 32)

/-- A reduction of the active lanes from the value for no active lane (R185). -/
def JobRegs.reduce (r : JobRegs) (w : Bool) (va : VReg) (pg : PReg) (init : BitVec (laneWidth w))
    (f : BitVec (laneWidth w) → BitVec (laneWidth w) → BitVec (laneWidth w)) : BitVec (laneWidth w) :=
  (r.actives pg).foldl (fun acc i => f acc (r.lane w va i)) init

/-- VRSUM: the sum of the sign-extended active lanes, OV on signed overflow (R185). -/
def JobRegs.reduceSum (r : JobRegs) (w : Bool) (sd : SReg) (va : VReg) (pg : PReg) : JobRegs :=
  let t := (r.actives pg).foldl (fun acc i => acc + (r.lane w va i).toInt) (0 : Int)
  (r.setS sd (BitVec.ofInt 32 t)).setSflags (if outS 32 t then sfOv else 0)

/-- VRSUMU: the sum of the zero-extended active lanes, OV on carry out (R185). -/
def JobRegs.reduceSumU (r : JobRegs) (w : Bool) (sd : SReg) (va : VReg) (pg : PReg) : JobRegs :=
  let t := (r.actives pg).foldl (fun acc i => acc + (r.lane w va i).toNat) 0
  (r.setS sd (BitVec.ofNat 32 t)).setSflags (if 2 ^ 32 ≤ t then sfOv else 0)

/-- The lowest active lane that no other active lane beats, 32 for no active lane (R185). -/
def JobRegs.argBest (r : JobRegs) (w : Bool) (va : VReg) (pg : PReg)
    (better : BitVec (laneWidth w) → BitVec (laneWidth w) → Bool) : Nat :=
  match r.actives pg with
  | [] => 32
  | i :: is => (is.foldl (fun best j => if better (r.lane w va j) (r.lane w va best) then j else best) i).val

end Sys2Proof.Machine
end

