-- ==== Sys2Proof/Machine/BayIssue.lean ====
section
/-! DEFINITION. The issue of one instruction by a bay: whether the bay may issue, breakpoints and watchpoints, legality, faults and the
cycle count (R161, R165, R169, R170, R422, R425). -/

namespace Sys2Proof.Machine

/-- A bay can issue an instruction: it exists, a job is on it, it is not halted by debug and the mode lets it run (R91, R422). -/
def State.canIssue (s : State) (b : BayIx) : Bool :=
  let y := s.getBay b
  s.hasBay b && s.baysRun && !y.halted && match y.work with
    | .line _ | .deep _ => true
    | .idle | .saving .. | .restoring _ | .reset => false

/-- The lowest breakpoint that matches an instruction address of a bay (R425, R432). -/
def State.breakAt (s : State) (b : BayIx) (pc : BitVec 40) : Option (Fin 8) :=
  if s.dbg.baySel ≠ b then none
  else (List.finRange 8).find? fun i =>
    let w := vget s.dbg.brk i
    bit w 63 && bit w 62 && w.extractLsb' 2 38 = pc.extractLsb' 2 38

/-- Bytes that an instruction accessed: virtual address, number, and whether it wrote them (R425). -/
abbrev Touched := List (BitVec 40 × Nat × Bool)

/-- The lowest watchpoint that matches the accesses of an instruction of a bay (R425, R432). -/
def State.watchAt (s : State) (b : BayIx) (touched : Touched) : Option (Fin 4) :=
  if s.dbg.baySel ≠ b then none
  else (List.finRange 4).find? fun i =>
    let c := vget s.dbg.wptCtrl i
    let base := field (vget s.dbg.wptAddr i) 39 0
    bit c 31 && bit c 30 && touched.any fun (va, n, wr) =>
      (if wr then bit c 29 else bit c 28) && va.toNat < base + 2 ^ field c 4 0 && base < va.toNat + n

/-- A bay halts for debug (R422, R432). -/
def State.haltBay (s : State) (b : BayIx) (why : HaltWhy) (idx : BitVec 4) : State :=
  { (s.onBay b fun y => { y with halted := true }) with dbg := { s.dbg with bayWhy := why, bayIdx := idx } }

/-- What an instruction that may execute does: a fault before any effect, or its effect with the bytes it accessed (R165). -/
inductive Did where
  | fault (f : AccFault)
  | done (s : State) (touched : Touched)

/-- The cycles of one instruction (R161): one, and those that the manual leaves to latencies and queues. -/
def State.tickCycle (s : State) (b : BayIx) : State :=
  s.onBay b fun y => { y with cyc := y.cyc + 1 + BitVec.ofNat 64 (Config.bayExtraCycles b.val y.cyc), skipBrk := false }

/-- A bay executes an instruction: a breakpoint halts it before; an illegal instruction aborts the job; a fault leaves no effect; else the
effect, after which a watchpoint may halt it. A bay that cannot issue does nothing. -/
def issue (b : BayIx) (i : Myvik) (body : State → Did) (σ : State) : Host.Outcome State Fault Refusal :=
  if !σ.canIssue b then .next σ
  else
    let y := σ.getBay b
    match (if y.skipBrk then none else σ.breakAt b y.regs.pc) with
    | some k => .next (σ.haltBay b .breakpoint (BitVec.ofNat 4 k.val))
    | none =>
      if !i.legal then .next ((σ.tickCycle b).bayIllegal b (myvikEncode i))
      else
        match body σ with
        | .fault f => .next ((σ.tickCycle b).bayFault b f 0 (myvikEncode i))
        | .done σ' touched =>
          let σ' := σ'.tickCycle b
          match σ.watchAt b touched with
          | some k => .next (σ'.haltBay b .watchpoint (BitVec.ofNat 4 k.val))
          | none => .next σ'

/-- An instruction that reads and writes nothing but the registers of its job. -/
def regStep (b : BayIx) (i : Myvik) (f : JobRegs → JobRegs) (σ : State) : Host.Outcome State Fault Refusal :=
  issue b i (fun σ => .done (σ.onBay b fun y => { y with regs := f y.regs }) []) σ

/-- The requester of a bay's accesses (R206–R210). -/
def Bay.requester (y : Bay) (b : BayIx) : Requester :=
  { tlb := b.val, asid := y.asid, cycle := y.cyc.toNat, ownLoft := some b, deepJob := some y.onDeep }

/-- A load instruction: the accesses of `n` bytes each, and the registers with the values read (R165, R174, R175). -/
def loadStep (b : BayIx) (i : Myvik) (n : Nat) (addrs : JobRegs → List (BitVec 40)) (f : JobRegs → List Nat → JobRegs) (σ : State) :
    Host.Outcome State Fault Refusal :=
  issue b i (fun σ =>
    let y := σ.getBay b
    let vas := addrs y.regs
    match σ.loads (y.requester b) y.tlb vas with
    | .error e => .fault e
    | .ok (as, t) =>
      let xs := as.map fun a => σ.mem.num a n
      .done ((σ.met (y.requester b) y.tlb vas (as.map (· / 8))).onBay b fun y => { y with regs := (f y.regs xs).advance, tlb := t })
        (vas.map fun va => (va, n, false))) σ

/-- A store instruction: the addresses and values of `n` bytes each (R165, R174, R175). -/
def storeStep (b : BayIx) (i : Myvik) (n : Nat) (xs : JobRegs → List (BitVec 40 × Nat)) (σ : State) :
    Host.Outcome State Fault Refusal :=
  issue b i (fun σ =>
    let y := σ.getBay b
    match σ.stores (y.requester b) y.tlb n (xs y.regs) with
    | .error e => .fault e
    | .ok (cells, t) =>
      let z := σ.met (y.requester b) y.tlb ((xs y.regs).map (·.1)) (partWords cells)
      .done ({ z with mem := z.mem.store cells }.onBay b fun y => { y with regs := y.regs.advance, tlb := t })
        ((xs y.regs).map fun x => (x.1, n, true))) σ

end Sys2Proof.Machine
end

