-- ==== Sys2Proof/Machine/MyvikMemory.lean ====
section
/-! DEFINITION. The memory, line-feed, flaw-record and job-control instructions of Myvik (R174–R179), and illegal words (R170). -/

namespace Sys2Proof.Machine

/-- The address sum of LD and ST for accesses of n bytes, its low bits ignored (R174). -/
def JobRegs.memAddr (r : JobRegs) (sa : SReg) (imm : BitVec 14) (n : Nat) : BitVec 40 :=
  r.dataVa ((r.getS sa + BitVec.ofInt 32 (imm.toInt * n)) &&& ~~~(BitVec.ofNat 32 (n - 1)))

/-- A scalar load of n bytes: `f` extends the value read (R174). -/
def scalarLoad (b : BayIx) (i : Myvik) (n : Nat) (sd sa : SReg) (imm : BitVec 14) (f : Nat → Word) (σ : State) :
    Host.Outcome State Fault Refusal :=
  loadStep b i n (fun r => [r.memAddr sa imm n]) (fun r xs => r.setS sd (f (xs.headD 0))) σ

/-- A scalar store of the low n bytes of a register (R174). -/
def scalarStore (b : BayIx) (i : Myvik) (n : Nat) (s sa : SReg) (imm : BitVec 14) (σ : State) : Host.Outcome State Fault Refusal :=
  storeStep b i n (fun r => [(r.memAddr sa imm n, (r.getS s).toNat % 2 ^ (8 * n))]) σ

/-- LD_B: a byte, sign-extended (R174). -/
def execLdB (b : BayIx) (sd sa : SReg) (imm : BitVec 14) (σ : State) : Host.Outcome State Fault Refusal :=
  scalarLoad b (.ldB sd sa imm) 1 sd sa imm (fun x => (BitVec.ofNat 8 x).signExtend 32) σ

/-- LD_BU: a byte, zero-extended (R174). -/
def execLdBu (b : BayIx) (sd sa : SReg) (imm : BitVec 14) (σ : State) : Host.Outcome State Fault Refusal :=
  scalarLoad b (.ldBu sd sa imm) 1 sd sa imm (BitVec.ofNat 32) σ

/-- LD_H: a halfword, sign-extended (R174). -/
def execLdH (b : BayIx) (sd sa : SReg) (imm : BitVec 14) (σ : State) : Host.Outcome State Fault Refusal :=
  scalarLoad b (.ldH sd sa imm) 2 sd sa imm (fun x => (BitVec.ofNat 16 x).signExtend 32) σ

/-- LD_HU: a halfword, zero-extended (R174). -/
def execLdHu (b : BayIx) (sd sa : SReg) (imm : BitVec 14) (σ : State) : Host.Outcome State Fault Refusal :=
  scalarLoad b (.ldHu sd sa imm) 2 sd sa imm (BitVec.ofNat 32) σ

/-- LD_W: a word (R174). -/
def execLdW (b : BayIx) (sd sa : SReg) (imm : BitVec 14) (σ : State) : Host.Outcome State Fault Refusal :=
  scalarLoad b (.ldW sd sa imm) 4 sd sa imm (BitVec.ofNat 32) σ

/-- ST_B: the low byte of the register (R174). -/
def execStB (b : BayIx) (s sa : SReg) (imm : BitVec 14) (σ : State) : Host.Outcome State Fault Refusal :=
  scalarStore b (.stB s sa imm) 1 s sa imm σ

/-- ST_H: the low halfword of the register (R174). -/
def execStH (b : BayIx) (s sa : SReg) (imm : BitVec 14) (σ : State) : Host.Outcome State Fault Refusal :=
  scalarStore b (.stH s sa imm) 2 s sa imm σ

/-- ST_W: the word of the register (R174). -/
def execStW (b : BayIx) (s sa : SReg) (imm : BitVec 14) (σ : State) : Host.Outcome State Fault Refusal :=
  scalarStore b (.stW s sa imm) 4 s sa imm σ

/-- The block address sa + sext(off) × n of the vector instructions, its low bits ignored (R175). -/
def JobRegs.blockAddr (r : JobRegs) (sa : SReg) (off : BitVec 13) (n : Nat) : Word :=
  (r.getS sa + BitVec.ofInt 32 (off.toInt * n)) &&& ~~~(BitVec.ofNat 32 (n - 1))

/-- The address of lane i of VLDS and VSTS: bit 0 ignored (R175). -/
def JobRegs.strideAddr (r : JobRegs) (sa sb : SReg) (i : Fin 32) : BitVec 40 :=
  r.dataVa ((r.getS sa + BitVec.ofInt 32 ((r.getS sb).toInt * i.val)) &&& ~~~(1#32))

/-- The address of lane i of VLD and VST (R175). -/
def JobRegs.vecAddr (r : JobRegs) (sa : SReg) (off : BitVec 13) (i : Fin 32) : BitVec 40 :=
  r.dataVa (r.blockAddr sa off 64 + BitVec.ofNat 32 (2 * i.val))

/-- The address of lane i of VLDBU and VSTB (R175). -/
def JobRegs.byteAddr (r : JobRegs) (sa : SReg) (off : BitVec 13) (i : Fin 32) : BitVec 40 :=
  r.dataVa (r.blockAddr sa off 32 + BitVec.ofNat 32 i.val)

/-- The values read for the active lanes written to them, in rising order (R164, R175). -/
def JobRegs.putLanes (r : JobRegs) (vd : VReg) (pg : PReg) (xs : List Nat) : JobRegs :=
  ((r.actives pg).zip xs).foldl (fun r x => { r with v := vmod r.v vd fun l => vset l x.1 (BitVec.ofNat 16 x.2) }) r

/-- A vector load of n bytes per active lane (R175). -/
def vectorLoad (b : BayIx) (i : Myvik) (n : Nat) (vd : VReg) (pg : PReg) (addr : JobRegs → Fin 32 → BitVec 40) (σ : State) :
    Host.Outcome State Fault Refusal :=
  loadStep b i n (fun r => (r.actives pg).map (addr r)) (fun r xs => r.putLanes vd pg xs) σ

/-- A vector store of n bytes per active lane (R175). -/
def vectorStore (b : BayIx) (i : Myvik) (n : Nat) (vd : VReg) (pg : PReg) (addr : JobRegs → Fin 32 → BitVec 40) (σ : State) :
    Host.Outcome State Fault Refusal :=
  storeStep b i n (fun r => (r.actives pg).map fun l => (addr r l, (r.lane16 vd l).toNat % 2 ^ (8 * n))) σ

/-- VLD (R175). -/
def execVld (b : BayIx) (vd : VReg) (sa : SReg) (pg : PReg) (off : BitVec 13) (σ : State) : Host.Outcome State Fault Refusal :=
  vectorLoad b (.vld vd sa pg off) 2 vd pg (fun r l => r.vecAddr sa off l) σ

/-- VST (R175). -/
def execVst (b : BayIx) (vd : VReg) (sa : SReg) (pg : PReg) (off : BitVec 13) (σ : State) : Host.Outcome State Fault Refusal :=
  vectorStore b (.vst vd sa pg off) 2 vd pg (fun r l => r.vecAddr sa off l) σ

/-- VLDS (R175). -/
def execVlds (b : BayIx) (vd : VReg) (sa sb : SReg) (pg : PReg) (σ : State) : Host.Outcome State Fault Refusal :=
  vectorLoad b (.vlds vd sa sb pg) 2 vd pg (fun r l => r.strideAddr sa sb l) σ

/-- VSTS: of lanes that share an address the highest remains (R175). -/
def execVsts (b : BayIx) (vd : VReg) (sa sb : SReg) (pg : PReg) (σ : State) : Host.Outcome State Fault Refusal :=
  vectorStore b (.vsts vd sa sb pg) 2 vd pg (fun r l => r.strideAddr sa sb l) σ

/-- VLDBU: zero-extended bytes (R175). -/
def execVldbu (b : BayIx) (vd : VReg) (sa : SReg) (pg : PReg) (off : BitVec 13) (σ : State) : Host.Outcome State Fault Refusal :=
  vectorLoad b (.vldbu vd sa pg off) 1 vd pg (fun r l => r.byteAddr sa off l) σ

/-- VSTB: the low bytes of the lanes (R175). -/
def execVstb (b : BayIx) (vd : VReg) (sa : SReg) (pg : PReg) (off : BitVec 13) (σ : State) : Host.Outcome State Fault Refusal :=
  vectorStore b (.vstb vd sa pg off) 1 vd pg (fun r l => r.byteAddr sa off l) σ

/-- The ring line that LFR of a job reads, where it can: the line is in the ring and carries the field (R176). -/
def State.ringLine (s : State) (j : LineJob) (age : Nat) (fld : Nat) : Option (List (Nat × Nat)) :=
  match s.det.ring.find? fun x => x.line + age = j.line with
  | some x => if fld ≤ x.fields.val then x.values[fld]? else none
  | none => none

/-- The feed value of a segment position (R176). -/
def feedAt (values : List (Nat × Nat)) (seg : BayIx) (p : Nat) : BitVec 16 :=
  let c : Int := 128 * (seg.val : Int) + p - 8
  if 143 < p || c < 0 || 16383 < c then 0 else BitVec.ofNat 16 ((stripGet? values c.toNat).getD 0)

/-- LFR: pixels from the loft ring; FEEDGAP where the ring cannot give them (R176). -/
def execLfr (b : BayIx) (vd : VReg) (sa : SReg) (age : BitVec 4) (fld : BitVec 2) (σ : State) : Host.Outcome State Fault Refusal :=
  issue b (.lfr vd sa age fld) (fun σ =>
    let y := σ.getBay b
    let got := match y.work with
      | .line j => (σ.ringLine j age.toNat fld.toNat).map fun vs => (vs, j.seg)
      | _ => none
    let p := ((y.regs.getS sa).extractLsb' 0 8).toNat
    let regs := match got with
      | some (vs, seg) => y.regs.setV vd fun i => feedAt vs seg (p + i.val)
      | none => (y.regs.setV vd fun _ => 0).setSflags sfFeedgap
    .done (σ.onBay b fun y => { y with regs := regs.advance }) []) σ

/-- The record of EMIT enters the flaw path where its operands are in range and a credit is left (R30, R177). -/
def State.emitRecord (s : State) (b : BayIx) (r : JobRegs) (va : VReg) : State :=
  let lane (k : Fin 32) : BitVec 16 := r.lane16 va k
  if 16383 < (lane 0).toNat || 15 < (lane 5).toNat then
    { s.onBay b fun y => { y with regs := r.setSflags sfEmitbad } with
      det := { (s.onBay b fun y => { y with regs := r.setSflags sfEmitbad }).det with emitBad := satInc s.det.emitBad } }
  else
    let line := ((r.lineHi.extractLsb' 0 16 ++ r.lineLo) - BitVec.ofNat 48 (lane 5).toNat).toNat
    if s.det.credits = 0 then
      { s with det := { s.det with
          flawLost := s.det.flawLost + 1, flawLostFirst := some (s.det.flawLostFirst.getD line) } }
    else
      { s with det := { s.det with
          credits := s.det.credits - 1, flawId := s.det.flawId + 1,
          flawOut := s.det.flawOut ++ [.record line b #v[lane 0, lane 1, lane 2, lane 3, lane 4] (r.kernel.extractLsb' 0 16) (s.det.flawId + 1)] } }

/-- EMIT: one flaw record from lanes 0–5 of va (R177). -/
def execEmit (b : BayIx) (va : VReg) (σ : State) : Host.Outcome State Fault Refusal :=
  issue b (.emit va) (fun σ =>
    .done ((σ.emitRecord b (σ.getBay b).regs va).onBay b fun y => { y with regs := y.regs.advance }) []) σ

/-- YIELD: a deep job offers the bay to a runnable slot; nothing else in a line job (R178, R200). -/
def execYield (b : BayIx) (σ : State) : Host.Outcome State Fault Refusal :=
  issue b .yield (fun σ => .done ((σ.onBay b fun y => { y with regs := y.regs.advance }).yieldJob b) []) σ

/-- HALT: the job ends and the next starts (R178, R196, R200). -/
def execHalt (b : BayIx) (σ : State) : Host.Outcome State Fault Refusal :=
  issue b .halt (fun σ => .done ((σ.onBay b fun y => { y with regs := y.regs.advance }).haltJob b) []) σ

/-- A cart's queue is full to a job (R213): 16 descriptors, another owner, or RESET. The descriptor in progress stays at the queue's head and counts among
the 16: DESIGN CHOICE, log entry 104. -/
def Cart.fullFor (c : Cart) (asid : BitVec 4) : Bool := 16 ≤ c.queue.length || c.owner ≠ asid || c.state = .reset

/-- A descriptor joins a cart's queue (R213): a cart that is IDLE is ready to start it. -/
def Cart.post (c : Cart) (d : CartDesc) : Cart := { c with queue := c.queue ++ [d] }

/-- Who the job on a bay is, as a poster. -/
def Bay.poster (y : Bay) (b : BayIx) : Poster :=
  match y.work with
  | .line j => .line b j.line j.seg
  | .deep j | .saving j _ | .restoring j => .deep b j (y.getSlot j).fills
  | .idle | .reset => .firmware

/-- CPOST: the descriptor is read as a load and copied into the cart's queue, or sd gets 1 (R178, R213). A full queue reads
nothing. -/
def execCpost (b : BayIx) (sd sa sb : SReg) (σ : State) : Host.Outcome State Fault Refusal :=
  issue b (.cpost sd sa sb) (fun σ =>
    let y := σ.getBay b
    let q : CartIx := finOf 32 ((y.regs.getS sb).extractLsb' 0 5).toNat
    if (vget σ.det.carts q).fullFor y.asid then
      .done (σ.onBay b fun y => { y with regs := (y.regs.setS sd 1).advance }) []
    else
      let va := y.regs.dataVa (y.regs.getS sa &&& ~~~(0x1F#32))
      let vas := [0, 8, 16, 24].map fun k => va + BitVec.ofNat 40 k
      match σ.loads (y.requester b) y.tlb vas with
      | .error e => .fault e
      | .ok (as, t) =>
        let raw := BitVec.ofNat 256 (natLe (as.flatMap fun a => σ.mem.gets a 8))
        let d : CartDesc := { raw := some raw, va := va, asid := y.asid, poster := y.poster b, chained := false }
        let σ := (σ.met (y.requester b) y.tlb vas (as.map (· / 8))).onBay b fun y => { y with regs := (y.regs.setS sd 0).advance, tlb := t }
        .done { σ with det := { σ.det with carts := vmod σ.det.carts q fun c => c.post d } } (vas.map fun va => (va, 8, false))) σ

/-- CWAIT: the flag, once set, is cleared and the job goes on; until then the instruction is executed again (R178). -/
def execCwait (b : BayIx) (flag : BitVec 4) (σ : State) : Host.Outcome State Fault Refusal :=
  regStep b (.cwait flag) (fun r =>
    if bit r.bflag flag.toNat then { r with bflag := setBit r.bflag flag.toNat false }.advance else r) σ

/-- The value of a CSR (R179). -/
def State.csr (s : State) (b : BayIx) (i : Nat) : Word :=
  let y := s.getBay b
  let r := y.regs
  if i = 0x00 then r.vov
  else if i = 0x01 then r.vsat
  else if i = 0x02 then r.sflags &&& 0xF#32
  else if i = 0x03 then BitVec.ofNat 32 (b.val + 128 * (b.val / 8))
  else if i = 0x04 then
    match y.work with
    | .line j => BitVec.ofNat 32 (2 * j.ctx.val + 32 * j.fields.val + 128 * j.asid.toNat)
    | _ => BitVec.ofNat 32 (1 + 128 * y.asid.toNat)
  else if i = 0x05 then
    match y.work with
    | .line j => BitVec.ofNat 32 (128 * j.seg.val)
    | _ => 0
  else if i = 0x06 then r.lineLo
  else if i = 0x07 then r.lineHi &&& 0xFFFF#32
  else if i = 0x08 then
    match y.work with
    | .line j => BitVec.ofNat 32 j.left
    | _ => 0xFFFFFFFF#32
  else if i = 0x09 then r.bflag &&& 0xFFFF#32
  else if i = 0x0A then y.cyc.extractLsb' 0 32
  else if i = 0x0B then y.cycHi
  else if i = 0x0C then r.kernel &&& 0xFFFF#32
  else if i = 0x0D then r.dseg &&& 0xFF#32
  else 0

/-- A read of CYC_LO latches CYC_HI (R179). -/
def State.csrRead (s : State) (b : BayIx) (i : Nat) : State :=
  if i = 0x0A then s.onBay b fun y => { y with cycHi := y.cyc.extractLsb' 32 32 } else s

/-- A CSR written under its access code: W1C clears, RW stores the bits that are not reserved, RO ignores (R9, R179). -/
def JobRegs.csrWrite (r : JobRegs) (i : Nat) (x : Word) : JobRegs :=
  if i = 0x00 then { r with vov := r.vov &&& ~~~x }
  else if i = 0x01 then { r with vsat := r.vsat &&& ~~~x }
  else if i = 0x02 then { r with sflags := r.sflags &&& ~~~x }
  else if i = 0x06 then { r with lineLo := x }
  else if i = 0x07 then { r with lineHi := x &&& 0xFFFF#32 }
  else if i = 0x09 then { r with bflag := r.bflag &&& ~~~x }
  else if i = 0x0C then { r with kernel := x &&& 0xFFFF#32 }
  else if i = 0x0D then { r with dseg := x &&& 0xFF#32 }
  else r

/-- MFC: s gets the CSR (R178, R179). -/
def execMfc (b : BayIx) (s : SReg) (csr : Byte) (σ : State) : Host.Outcome State Fault Refusal :=
  issue b (.mfc s csr) (fun σ =>
    let x := σ.csr b csr.toNat
    .done ((σ.csrRead b csr.toNat).onBay b fun y => { y with regs := (y.regs.setS s x).advance }) []) σ

/-- MTC: the CSR gets s under its access code (R178, R179). -/
def execMtc (b : BayIx) (s : SReg) (csr : Byte) (σ : State) : Host.Outcome State Fault Refusal :=
  regStep b (.mtc s csr) (fun r => (r.csrWrite csr.toNat (r.getS s)).advance) σ

/-- FENCE: every earlier access of the job is complete and visible; each is so at its own step (R178). -/
def execFence (b : BayIx) (σ : State) : Host.Outcome State Fault Refusal := regStep b .fence (fun r => r.advance) σ

/-- ILLEGAL_INSTRUCTION: the bay meets a word that R169 makes illegal; a word that stands for an instruction is none (R169, R170). -/
def execIllegalInstruction (b : BayIx) (word : Word) (s : State) : Host.Outcome State Fault Refusal :=
  if !s.canIssue b then .next s
  else
    let y := s.getBay b
    match (if y.skipBrk then none else s.breakAt b y.regs.pc) with
    | some k => .next (s.haltBay b .breakpoint (BitVec.ofNat 4 k.val))
    | none => if (myvikDecode word).isSome then .next s else .next ((s.tickCycle b).bayIllegal b word)

end Sys2Proof.Machine
end

