-- ==== Sys2Proof/Machine/MyvikMove.lean ====
section
/-! DEFINITION. The permute, reduction, move, predicate and constant instructions of Myvik (R184–R188). -/

namespace Sys2Proof.Machine

/-- VEXT: Extract 32 lanes from a register pair at offset k (R184). -/
def execVext (b : BayIx) (vd va vb : VReg) (sc : SReg) (w : Bool) (σ : State) : Host.Outcome State Fault Refusal :=
  regStep b (.vext vd va vb sc w) (fun r => (r.setLanes w vd fun i => r.catLane w va vb (i.val + permK r sc)).advance) σ

/-- VSLUP: Slide lanes up by k (R184). -/
def execVslup (b : BayIx) (vd va : VReg) (sc : SReg) (w : Bool) (σ : State) : Host.Outcome State Fault Refusal :=
  regStep b (.vslup vd va sc w) (fun r => (r.setLanes w vd fun i => if permK r sc ≤ i.val then r.laneAt w va (i.val - permK r sc) else 0).advance) σ

/-- VSLDN: Slide lanes down by k (R184). -/
def execVsldn (b : BayIx) (vd va : VReg) (sc : SReg) (w : Bool) (σ : State) : Host.Outcome State Fault Refusal :=
  regStep b (.vsldn vd va sc w) (fun r => (r.setLanes w vd fun i => r.laneAt w va (i.val + permK r sc)).advance) σ

/-- VROT: Rotate lanes by k (R184). -/
def execVrot (b : BayIx) (vd va : VReg) (sc : SReg) (w : Bool) (σ : State) : Host.Outcome State Fault Refusal :=
  regStep b (.vrot vd va sc w) (fun r => (r.setLanes w vd fun i => r.laneAt w va ((i.val + permK r sc) % 32)).advance) σ

/-- VREV: Reverse lane order (R184). -/
def execVrev (b : BayIx) (vd va : VReg) (w : Bool) (σ : State) : Host.Outcome State Fault Refusal :=
  regStep b (.vrev vd va w) (fun r => (r.setLanes w vd fun i => r.laneAt w va (31 - i.val)).advance) σ

/-- VTBL: Table lookup of lanes by index (R184). -/
def execVtbl (b : BayIx) (vd va vb : VReg) (w : Bool) (σ : State) : Host.Outcome State Fault Refusal :=
  regStep b (.vtbl vd va vb w) (fun r => (r.setLanes w vd fun i => r.laneAt w va (r.lane w vb i).toNat).advance) σ

/-- VSPLAT: Broadcast lane k (R184). -/
def execVsplat (b : BayIx) (vd va : VReg) (sc : SReg) (w : Bool) (σ : State) : Host.Outcome State Fault Refusal :=
  regStep b (.vsplat vd va sc w) (fun r => (r.setLanes w vd fun _ => r.laneAt w va (permK r sc)).advance) σ

/-- VZIPL: Interleave low halves (R184). -/
def execVzipl (b : BayIx) (vd va vb : VReg) (w : Bool) (σ : State) : Host.Outcome State Fault Refusal :=
  regStep b (.vzipl vd va vb w) (fun r => (r.setLanes w vd fun i => if i.val % 2 = 0 then r.laneAt w va (i.val / 2) else r.laneAt w vb (i.val / 2)).advance) σ

/-- VZIPH: Interleave high halves (R184). -/
def execVziph (b : BayIx) (vd va vb : VReg) (w : Bool) (σ : State) : Host.Outcome State Fault Refusal :=
  regStep b (.vziph vd va vb w) (fun r => (r.setLanes w vd fun i => if i.val % 2 = 0 then r.laneAt w va (16 + i.val / 2) else r.laneAt w vb (16 + i.val / 2)).advance) σ

/-- VUZPE: De-interleave even lanes (R184). -/
def execVuzpe (b : BayIx) (vd va vb : VReg) (w : Bool) (σ : State) : Host.Outcome State Fault Refusal :=
  regStep b (.vuzpe vd va vb w) (fun r => (r.setLanes w vd fun i => r.catLane w va vb (2 * i.val)).advance) σ

/-- VUZPO: De-interleave odd lanes (R184). -/
def execVuzpo (b : BayIx) (vd va vb : VReg) (w : Bool) (σ : State) : Host.Outcome State Fault Refusal :=
  regStep b (.vuzpo vd va vb w) (fun r => (r.setLanes w vd fun i => r.catLane w va vb (2 * i.val + 1)).advance) σ

/-- VRSUM: Sum of signed active lanes (R185). -/
def execVrsum (b : BayIx) (sd : SReg) (va : VReg) (pg : PReg) (w : Bool) (σ : State) : Host.Outcome State Fault Refusal :=
  regStep b (.vrsum sd va pg w) (fun r => (r.reduceSum w sd va pg).advance) σ

/-- VRSUMU: Sum of unsigned active lanes (R185). -/
def execVrsumu (b : BayIx) (sd : SReg) (va : VReg) (pg : PReg) (w : Bool) (σ : State) : Host.Outcome State Fault Refusal :=
  regStep b (.vrsumu sd va pg w) (fun r => (r.reduceSumU w sd va pg).advance) σ

/-- VRMIN: Signed minimum over active lanes (R185). -/
def execVrmin (b : BayIx) (sd : SReg) (va : VReg) (pg : PReg) (w : Bool) (σ : State) : Host.Outcome State Fault Refusal :=
  regStep b (.vrmin sd va pg w) (fun r => (r.setS sd ((r.reduce w va pg (BitVec.ofInt _ (maxS (laneWidth w))) fun a b => if a.slt b then a else b).signExtend 32)).advance) σ

/-- VRMAX: Signed maximum over active lanes (R185). -/
def execVrmax (b : BayIx) (sd : SReg) (va : VReg) (pg : PReg) (w : Bool) (σ : State) : Host.Outcome State Fault Refusal :=
  regStep b (.vrmax sd va pg w) (fun r => (r.setS sd ((r.reduce w va pg (BitVec.ofInt _ (minS (laneWidth w))) fun a b => if a.slt b then b else a).signExtend 32)).advance) σ

/-- VRMINU: Unsigned minimum over active lanes (R185). -/
def execVrminu (b : BayIx) (sd : SReg) (va : VReg) (pg : PReg) (w : Bool) (σ : State) : Host.Outcome State Fault Refusal :=
  regStep b (.vrminu sd va pg w) (fun r => (r.setS sd ((r.reduce w va pg (BitVec.allOnes _) fun a b => if a.ult b then a else b).setWidth 32)).advance) σ

/-- VRMAXU: Unsigned maximum over active lanes (R185). -/
def execVrmaxu (b : BayIx) (sd : SReg) (va : VReg) (pg : PReg) (w : Bool) (σ : State) : Host.Outcome State Fault Refusal :=
  regStep b (.vrmaxu sd va pg w) (fun r => (r.setS sd ((r.reduce w va pg (0) fun a b => if a.ult b then b else a).setWidth 32)).advance) σ

/-- VRBAND: Bitwise AND over active lanes (R185). -/
def execVrband (b : BayIx) (sd : SReg) (va : VReg) (pg : PReg) (w : Bool) (σ : State) : Host.Outcome State Fault Refusal :=
  regStep b (.vrband sd va pg w) (fun r => (r.setS sd ((r.reduce w va pg (BitVec.allOnes _) fun a b => a &&& b).setWidth 32)).advance) σ

/-- VRBOR: Bitwise OR over active lanes (R185). -/
def execVrbor (b : BayIx) (sd : SReg) (va : VReg) (pg : PReg) (w : Bool) (σ : State) : Host.Outcome State Fault Refusal :=
  regStep b (.vrbor sd va pg w) (fun r => (r.setS sd ((r.reduce w va pg (0) fun a b => a ||| b).setWidth 32)).advance) σ

/-- VRARGMAX: Lowest lane index of the signed maximum (R185). -/
def execVrargmax (b : BayIx) (sd : SReg) (va : VReg) (pg : PReg) (w : Bool) (σ : State) : Host.Outcome State Fault Refusal :=
  regStep b (.vrargmax sd va pg w) (fun r => (r.setS sd (BitVec.ofNat 32 (r.argBest w va pg fun a b => b.slt a))).advance) σ

/-- VRARGMIN: Lowest lane index of the signed minimum (R185). -/
def execVrargmin (b : BayIx) (sd : SReg) (va : VReg) (pg : PReg) (w : Bool) (σ : State) : Host.Outcome State Fault Refusal :=
  regStep b (.vrargmin sd va pg w) (fun r => (r.setS sd (BitVec.ofNat 32 (r.argBest w va pg fun a b => a.slt b))).advance) σ

/-- VMOV: Copy active lanes (R186). -/
def execVmov (b : BayIx) (vd va : VReg) (pg : PReg) (w : Bool) (σ : State) : Host.Outcome State Fault Refusal :=
  regStep b (.vmov vd va pg w) (fun r => (r.lane1 w vd va pg fun _ a => plain a).advance) σ

/-- VSEL: Select lanes by predicate (R186). -/
def execVsel (b : BayIx) (vd va : VReg) (vb : VSrc) (pg : PReg) (w : Bool) (σ : State) : Host.Outcome State Fault Refusal :=
  regStep b (.vsel vd va vb pg w) (fun r => (r.setLanes w vd fun i => if r.active pg i then r.lane w va i else r.src w vb i).advance) σ

/-- VIOTA: Write each active lane's index (R186). -/
def execViota (b : BayIx) (vd : VReg) (pg : PReg) (w : Bool) (σ : State) : Host.Outcome State Fault Refusal :=
  regStep b (.viota vd pg w) (fun r => (r.setActive w vd pg fun i => BitVec.ofNat _ i.val).advance) σ

/-- VINS: Insert a scalar into lane k (R186). -/
def execVins (b : BayIx) (vd : VReg) (k : Fin 32) (sb : SReg) (w : Bool) (σ : State) : Host.Outcome State Fault Refusal :=
  regStep b (.vins vd k sb w) (fun r => (r.setLanes w vd fun i => if i = k then (r.getS sb).setWidth _ else r.lane w vd i).advance) σ

/-- VEXTR: Extract lane k sign-extended into a scalar (R186). -/
def execVextr (b : BayIx) (sd : SReg) (va : VReg) (k : Fin 32) (w : Bool) (σ : State) : Host.Outcome State Fault Refusal :=
  regStep b (.vextr sd va k w) (fun r => (r.setS sd ((r.lane w va k).signExtend 32)).advance) σ

/-- VEXTRU: Extract lane k zero-extended into a scalar (R186). -/
def execVextru (b : BayIx) (sd : SReg) (va : VReg) (k : Fin 32) (w : Bool) (σ : State) : Host.Outcome State Fault Refusal :=
  regStep b (.vextru sd va k w) (fun r => (r.setS sd ((r.lane w va k).setWidth 32)).advance) σ

/-- VWIDEN: Sign-extend lanes into a pair (R186). -/
def execVwiden (b : BayIx) (vd va : VReg) (pg : PReg) (σ : State) : Host.Outcome State Fault Refusal :=
  regStep b (.vwiden vd va pg) (fun r => (r.setActive true vd pg fun i => (r.lane16 va i).signExtend 32).advance) σ

/-- VWIDENU: Zero-extend lanes into a pair (R186). -/
def execVwidenu (b : BayIx) (vd va : VReg) (pg : PReg) (σ : State) : Host.Outcome State Fault Refusal :=
  regStep b (.vwidenu vd va pg) (fun r => (r.setActive true vd pg fun i => (r.lane16 va i).setWidth 32).advance) σ

/-- VNARROW: Take the low 16 bits of a pair (R186). -/
def execVnarrow (b : BayIx) (vd va : VReg) (pg : PReg) (σ : State) : Host.Outcome State Fault Refusal :=
  regStep b (.vnarrow vd va pg) (fun r => (r.laneOp false vd pg fun i => plain ((r.lane32 va i).setWidth 16)).advance) σ

/-- VNARROWS: Narrow a pair with signed saturation (R186). -/
def execVnarrows (b : BayIx) (vd va : VReg) (pg : PReg) (σ : State) : Host.Outcome State Fault Refusal :=
  regStep b (.vnarrows vd va pg) (fun r => (r.laneOp false vd pg fun i => clampS 16 (r.lane32 va i).toInt).advance) σ

/-- VNARROWUS: Narrow a signed pair with unsigned saturation (R186). -/
def execVnarrowus (b : BayIx) (vd va : VReg) (pg : PReg) (σ : State) : Host.Outcome State Fault Refusal :=
  regStep b (.vnarrowus vd va pg) (fun r => (r.laneOp false vd pg fun i => clampU 16 (r.lane32 va i).toInt).advance) σ

/-- PAND: Predicate AND (R187). -/
def execPand (b : BayIx) (pd pa pb : PReg) (σ : State) : Host.Outcome State Fault Refusal :=
  regStep b (.pand pd pa pb) (fun r => (r.setP pd (r.getP pa &&& r.getP pb)).advance) σ

/-- POR: Predicate OR (R187). -/
def execPor (b : BayIx) (pd pa pb : PReg) (σ : State) : Host.Outcome State Fault Refusal :=
  regStep b (.por pd pa pb) (fun r => (r.setP pd (r.getP pa ||| r.getP pb)).advance) σ

/-- PXOR: Predicate XOR (R187). -/
def execPxor (b : BayIx) (pd pa pb : PReg) (σ : State) : Host.Outcome State Fault Refusal :=
  regStep b (.pxor pd pa pb) (fun r => (r.setP pd (r.getP pa ^^^ r.getP pb)).advance) σ

/-- PANDN: Predicate AND NOT (R187). -/
def execPandn (b : BayIx) (pd pa pb : PReg) (σ : State) : Host.Outcome State Fault Refusal :=
  regStep b (.pandn pd pa pb) (fun r => (r.setP pd (r.getP pa &&& ~~~(r.getP pb))).advance) σ

/-- PNOT: Predicate NOT (R187). -/
def execPnot (b : BayIx) (pd pa : PReg) (σ : State) : Host.Outcome State Fault Refusal :=
  regStep b (.pnot pd pa) (fun r => (r.setP pd (~~~(r.getP pa))).advance) σ

/-- PSET: Set every predicate bit (R187). -/
def execPset (b : BayIx) (pd : PReg) (σ : State) : Host.Outcome State Fault Refusal :=
  regStep b (.pset pd) (fun r => (r.setP pd (BitVec.allOnes 32)).advance) σ

/-- PCLR: Clear every predicate bit (R187). -/
def execPclr (b : BayIx) (pd : PReg) (σ : State) : Host.Outcome State Fault Refusal :=
  regStep b (.pclr pd) (fun r => (r.setP pd (0)).advance) σ

/-- PFIRST: Keep only the lowest set predicate bit (R187). -/
def execPfirst (b : BayIx) (pd pa : PReg) (σ : State) : Host.Outcome State Fault Refusal :=
  regStep b (.pfirst pd pa) (fun r => (r.setP pd (r.getP pa &&& -(r.getP pa))).advance) σ

/-- PTOS: Copy a predicate into a scalar (R187). -/
def execPtos (b : BayIx) (pa : PReg) (s : SReg) (σ : State) : Host.Outcome State Fault Refusal :=
  regStep b (.ptos pa s) (fun r => (r.setS s (r.getP pa)).advance) σ

/-- STOP: Copy a scalar into a predicate (R187). -/
def execStop (b : BayIx) (pd : PReg) (s : SReg) (σ : State) : Host.Outcome State Fault Refusal :=
  regStep b (.stop pd s) (fun r => (r.setP pd (r.getS s)).advance) σ

/-- PCNT: Count set predicate bits into a scalar (R187). -/
def execPcnt (b : BayIx) (pa : PReg) (s : SReg) (σ : State) : Host.Outcome State Fault Refusal :=
  regStep b (.pcnt pa s) (fun r => (r.setS s (popCount (r.getP pa))).advance) σ

/-- VLI: Set every lane to an immediate (R188). -/
def execVli (b : BayIx) (vd : VReg) (imm : BitVec 16) (σ : State) : Host.Outcome State Fault Refusal :=
  regStep b (.vli vd imm) (fun r => (r.setV vd fun _ => imm).advance) σ

end Sys2Proof.Machine
end

