-- ==== Sys2Proof/Machine/MyvikScalar.lean ====
section
/-! DEFINITION. The scalar instructions, the branches and the jumps of Myvik (R171–R173, R190, R191). -/

namespace Sys2Proof.Machine

/-- ADD: sd gets sa plus sb, wrapping (R171). -/
def execAdd (b : BayIx) (sd sa sb : SReg) (σ : State) : Host.Outcome State Fault Refusal :=
  regStep b (.add sd sa sb) (fun r => (r.setS sd (r.getS sa + r.getS sb)).advance) σ

/-- SUB: sd gets sa minus sb, wrapping (R171). -/
def execSub (b : BayIx) (sd sa sb : SReg) (σ : State) : Host.Outcome State Fault Refusal :=
  regStep b (.sub sd sa sb) (fun r => (r.setS sd (r.getS sa - r.getS sb)).advance) σ

/-- AND: sd gets sa AND sb (R171). -/
def execAnd (b : BayIx) (sd sa sb : SReg) (σ : State) : Host.Outcome State Fault Refusal :=
  regStep b (.and sd sa sb) (fun r => (r.setS sd (r.getS sa &&& r.getS sb)).advance) σ

/-- OR: sd gets sa OR sb (R171). -/
def execOr (b : BayIx) (sd sa sb : SReg) (σ : State) : Host.Outcome State Fault Refusal :=
  regStep b (.or sd sa sb) (fun r => (r.setS sd (r.getS sa ||| r.getS sb)).advance) σ

/-- XOR: sd gets sa XOR sb (R171). -/
def execXor (b : BayIx) (sd sa sb : SReg) (σ : State) : Host.Outcome State Fault Refusal :=
  regStep b (.xor sd sa sb) (fun r => (r.setS sd (r.getS sa ^^^ r.getS sb)).advance) σ

/-- ANDN: sd gets sa AND NOT sb (R171). -/
def execAndn (b : BayIx) (sd sa sb : SReg) (σ : State) : Host.Outcome State Fault Refusal :=
  regStep b (.andn sd sa sb) (fun r => (r.setS sd (r.getS sa &&& ~~~(r.getS sb))).advance) σ

/-- SLL: Logical left shift by sb[7:0] (R171). -/
def execSll (b : BayIx) (sd sa sb : SReg) (σ : State) : Host.Outcome State Fault Refusal :=
  regStep b (.sll sd sa sb) (fun r => (r.setS sd (shl32 (r.getS sa) (amount (r.getS sb)))).advance) σ

/-- SRL: Logical right shift by sb[7:0] (R171). -/
def execSrl (b : BayIx) (sd sa sb : SReg) (σ : State) : Host.Outcome State Fault Refusal :=
  regStep b (.srl sd sa sb) (fun r => (r.setS sd (shr32 (r.getS sa) (amount (r.getS sb)))).advance) σ

/-- SRA: Arithmetic right shift by sb[7:0] (R171). -/
def execSra (b : BayIx) (sd sa sb : SReg) (σ : State) : Host.Outcome State Fault Refusal :=
  regStep b (.sra sd sa sb) (fun r => (r.setS sd (sar32 (r.getS sa) (amount (r.getS sb)))).advance) σ

/-- ROL: Rotate left by n mod 32 (R171). -/
def execRol (b : BayIx) (sd sa sb : SReg) (σ : State) : Host.Outcome State Fault Refusal :=
  regStep b (.rol sd sa sb) (fun r => (r.setS sd (rol32 (r.getS sa) (amount (r.getS sb)))).advance) σ

/-- ROR: Rotate right by n mod 32 (R171). -/
def execRor (b : BayIx) (sd sa sb : SReg) (σ : State) : Host.Outcome State Fault Refusal :=
  regStep b (.ror sd sa sb) (fun r => (r.setS sd (ror32 (r.getS sa) (amount (r.getS sb)))).advance) σ

/-- SETLT: sd gets 1 if sa is less than sb signed (R171). -/
def execSetlt (b : BayIx) (sd sa sb : SReg) (σ : State) : Host.Outcome State Fault Refusal :=
  regStep b (.setlt sd sa sb) (fun r => (r.setS sd (flag32 ((r.getS sa).slt (r.getS sb)))).advance) σ

/-- SETLTU: sd gets 1 if sa is less than sb unsigned (R171). -/
def execSetltu (b : BayIx) (sd sa sb : SReg) (σ : State) : Host.Outcome State Fault Refusal :=
  regStep b (.setltu sd sa sb) (fun r => (r.setS sd (flag32 ((r.getS sa).ult (r.getS sb)))).advance) σ

/-- MIN: Signed minimum (R171). -/
def execMin (b : BayIx) (sd sa sb : SReg) (σ : State) : Host.Outcome State Fault Refusal :=
  regStep b (.min sd sa sb) (fun r => (r.setS sd (if (r.getS sa).slt (r.getS sb) then r.getS sa else r.getS sb)).advance) σ

/-- MAX: Signed maximum (R171). -/
def execMax (b : BayIx) (sd sa sb : SReg) (σ : State) : Host.Outcome State Fault Refusal :=
  regStep b (.max sd sa sb) (fun r => (r.setS sd (if (r.getS sa).slt (r.getS sb) then r.getS sb else r.getS sa)).advance) σ

/-- MINU: Unsigned minimum (R171). -/
def execMinu (b : BayIx) (sd sa sb : SReg) (σ : State) : Host.Outcome State Fault Refusal :=
  regStep b (.minu sd sa sb) (fun r => (r.setS sd (if (r.getS sa).ult (r.getS sb) then r.getS sa else r.getS sb)).advance) σ

/-- MAXU: Unsigned maximum (R171). -/
def execMaxu (b : BayIx) (sd sa sb : SReg) (σ : State) : Host.Outcome State Fault Refusal :=
  regStep b (.maxu sd sa sb) (fun r => (r.setS sd (if (r.getS sa).ult (r.getS sb) then r.getS sb else r.getS sa)).advance) σ

/-- MUL: Low 32 bits of the product (R171). -/
def execMul (b : BayIx) (sd sa sb : SReg) (σ : State) : Host.Outcome State Fault Refusal :=
  regStep b (.mul sd sa sb) (fun r => (r.setS sd (r.getS sa * r.getS sb)).advance) σ

/-- MULHS: High 32 bits of the signed product (R171). -/
def execMulhs (b : BayIx) (sd sa sb : SReg) (σ : State) : Host.Outcome State Fault Refusal :=
  regStep b (.mulhs sd sa sb) (fun r => (r.setS sd (mulHighS (r.getS sa) (r.getS sb))).advance) σ

/-- MULHU: High 32 bits of the unsigned product (R171). -/
def execMulhu (b : BayIx) (sd sa sb : SReg) (σ : State) : Host.Outcome State Fault Refusal :=
  regStep b (.mulhu sd sa sb) (fun r => (r.setS sd (mulHighU (r.getS sa) (r.getS sb))).advance) σ

/-- DIV: Signed quotient under the division rules (R190). -/
def execDiv (b : BayIx) (sd sa sb : SReg) (σ : State) : Host.Outcome State Fault Refusal :=
  regStep b (.div sd sa sb) (fun r => ((r.setS sd (divS (r.getS sa) (r.getS sb))).setSflags (divSFlags (r.getS sa) (r.getS sb))).advance) σ

/-- DIVU: Unsigned quotient under the division rules (R190). -/
def execDivu (b : BayIx) (sd sa sb : SReg) (σ : State) : Host.Outcome State Fault Refusal :=
  regStep b (.divu sd sa sb) (fun r => ((r.setS sd (divU (r.getS sa) (r.getS sb))).setSflags (divUFlags (r.getS sa) (r.getS sb))).advance) σ

/-- REM: Signed remainder under the division rules (R190). -/
def execRem (b : BayIx) (sd sa sb : SReg) (σ : State) : Host.Outcome State Fault Refusal :=
  regStep b (.rem sd sa sb) (fun r => ((r.setS sd (remS (r.getS sa) (r.getS sb))).setSflags (remSFlags (r.getS sa) (r.getS sb))).advance) σ

/-- REMU: Unsigned remainder under the division rules (R190). -/
def execRemu (b : BayIx) (sd sa sb : SReg) (σ : State) : Host.Outcome State Fault Refusal :=
  regStep b (.remu sd sa sb) (fun r => ((r.setS sd (remU (r.getS sa) (r.getS sb))).setSflags (remUFlags (r.getS sa) (r.getS sb))).advance) σ

/-- CLZ: Count of leading zeros of sa (R171). -/
def execClz (b : BayIx) (sd sa : SReg) (σ : State) : Host.Outcome State Fault Refusal :=
  regStep b (.clz sd sa) (fun r => (r.setS sd (leadingZeros (r.getS sa))).advance) σ

/-- POPC: Count of 1 bits in sa (R171). -/
def execPopc (b : BayIx) (sd sa : SReg) (σ : State) : Host.Outcome State Fault Refusal :=
  regStep b (.popc sd sa) (fun r => (r.setS sd (popCount (r.getS sa))).advance) σ

/-- ADDK: sa plus the sign-extended immediate (R172). -/
def execAddk (b : BayIx) (sd sa : SReg) (imm : BitVec 14) (σ : State) : Host.Outcome State Fault Refusal :=
  regStep b (.addk sd sa imm) (fun r => (r.setS sd (r.getS sa + imm.signExtend 32)).advance) σ

/-- ANDK: sa AND the zero-extended immediate (R172). -/
def execAndk (b : BayIx) (sd sa : SReg) (imm : BitVec 14) (σ : State) : Host.Outcome State Fault Refusal :=
  regStep b (.andk sd sa imm) (fun r => (r.setS sd (r.getS sa &&& imm.setWidth 32)).advance) σ

/-- ORK: sa OR the zero-extended immediate (R172). -/
def execOrk (b : BayIx) (sd sa : SReg) (imm : BitVec 14) (σ : State) : Host.Outcome State Fault Refusal :=
  regStep b (.ork sd sa imm) (fun r => (r.setS sd (r.getS sa ||| imm.setWidth 32)).advance) σ

/-- XORK: sa XOR the zero-extended immediate (R172). -/
def execXork (b : BayIx) (sd sa : SReg) (imm : BitVec 14) (σ : State) : Host.Outcome State Fault Refusal :=
  regStep b (.xork sd sa imm) (fun r => (r.setS sd (r.getS sa ^^^ imm.setWidth 32)).advance) σ

/-- SETLTK: 1 if sa is less than the signed immediate (R172). -/
def execSetltk (b : BayIx) (sd sa : SReg) (imm : BitVec 14) (σ : State) : Host.Outcome State Fault Refusal :=
  regStep b (.setltk sd sa imm) (fun r => (r.setS sd (flag32 ((r.getS sa).slt (imm.signExtend 32)))).advance) σ

/-- SETLTUK: 1 if sa is less than the unsigned immediate (R172). -/
def execSetltuk (b : BayIx) (sd sa : SReg) (imm : BitVec 14) (σ : State) : Host.Outcome State Fault Refusal :=
  regStep b (.setltuk sd sa imm) (fun r => (r.setS sd (flag32 ((r.getS sa).ult (imm.setWidth 32)))).advance) σ

/-- RSUBK: The signed immediate minus sa (R172). -/
def execRsubk (b : BayIx) (sd sa : SReg) (imm : BitVec 14) (σ : State) : Host.Outcome State Fault Refusal :=
  regStep b (.rsubk sd sa imm) (fun r => (r.setS sd (imm.signExtend 32 - r.getS sa)).advance) σ

/-- KSET: sd gets the sign-extended 19-bit immediate (R172). -/
def execKset (b : BayIx) (sd : SReg) (imm : BitVec 19) (σ : State) : Host.Outcome State Fault Refusal :=
  regStep b (.kset sd imm) (fun r => (r.setS sd (imm.signExtend 32)).advance) σ

/-- KHI: Sets the high half of sd, keeping the low half (R172). -/
def execKhi (b : BayIx) (sd : SReg) (imm : BitVec 16) (σ : State) : Host.Outcome State Fault Refusal :=
  regStep b (.khi sd imm) (fun r => (r.setS sd (imm ++ (r.getS sd).extractLsb' 0 16)).advance) σ

/-- PCADD: sd gets PC plus the scaled immediate (R172). -/
def execPcadd (b : BayIx) (sd : SReg) (imm : BitVec 19) (σ : State) : Host.Outcome State Fault Refusal :=
  regStep b (.pcadd sd imm) (fun r => (r.setS sd (r.pc.extractLsb' 0 32 + BitVec.ofInt 32 (imm.toInt * 4))).advance) σ

/-- SLLI: Logical left shift by an immediate (R172). -/
def execSlli (b : BayIx) (sd sa : SReg) (amt : Byte) (σ : State) : Host.Outcome State Fault Refusal :=
  regStep b (.slli sd sa amt) (fun r => (r.setS sd (shl32 (r.getS sa) amt.toNat)).advance) σ

/-- SRLI: Logical right shift by an immediate (R172). -/
def execSrli (b : BayIx) (sd sa : SReg) (amt : Byte) (σ : State) : Host.Outcome State Fault Refusal :=
  regStep b (.srli sd sa amt) (fun r => (r.setS sd (shr32 (r.getS sa) amt.toNat)).advance) σ

/-- SRAI: Arithmetic right shift by an immediate (R172). -/
def execSrai (b : BayIx) (sd sa : SReg) (amt : Byte) (σ : State) : Host.Outcome State Fault Refusal :=
  regStep b (.srai sd sa amt) (fun r => (r.setS sd (sar32 (r.getS sa) amt.toNat)).advance) σ

/-- ROLI: Rotate left by an immediate (R172). -/
def execRoli (b : BayIx) (sd sa : SReg) (amt : Byte) (σ : State) : Host.Outcome State Fault Refusal :=
  regStep b (.roli sd sa amt) (fun r => (r.setS sd (rol32 (r.getS sa) amt.toNat)).advance) σ

/-- RORI: Rotate right by an immediate (R172). -/
def execRori (b : BayIx) (sd sa : SReg) (amt : Byte) (σ : State) : Host.Outcome State Fault Refusal :=
  regStep b (.rori sd sa amt) (fun r => (r.setS sd (ror32 (r.getS sa) amt.toNat)).advance) σ

/-- BC_EQ: Branch if sa equals sb (R173). -/
def execBcEq (b : BayIx) (sa sb : SReg) (off : BitVec 13) (σ : State) : Host.Outcome State Fault Refusal :=
  regStep b (.bcEq sa sb off) (fun r => r.branch (r.getS sa == r.getS sb) off.toInt) σ

/-- BC_NE: Branch if sa differs from sb (R173). -/
def execBcNe (b : BayIx) (sa sb : SReg) (off : BitVec 13) (σ : State) : Host.Outcome State Fault Refusal :=
  regStep b (.bcNe sa sb off) (fun r => r.branch (r.getS sa != r.getS sb) off.toInt) σ

/-- BC_LT: Branch if sa is less than sb, signed (R173). -/
def execBcLt (b : BayIx) (sa sb : SReg) (off : BitVec 13) (σ : State) : Host.Outcome State Fault Refusal :=
  regStep b (.bcLt sa sb off) (fun r => r.branch ((r.getS sa).slt (r.getS sb)) off.toInt) σ

/-- BC_GE: Branch if sa is at least sb, signed (R173). -/
def execBcGe (b : BayIx) (sa sb : SReg) (off : BitVec 13) (σ : State) : Host.Outcome State Fault Refusal :=
  regStep b (.bcGe sa sb off) (fun r => r.branch ((r.getS sb).sle (r.getS sa)) off.toInt) σ

/-- BC_LTU: Branch if sa is less than sb, unsigned (R173). -/
def execBcLtu (b : BayIx) (sa sb : SReg) (off : BitVec 13) (σ : State) : Host.Outcome State Fault Refusal :=
  regStep b (.bcLtu sa sb off) (fun r => r.branch ((r.getS sa).ult (r.getS sb)) off.toInt) σ

/-- BC_GEU: Branch if sa is at least sb, unsigned (R173). -/
def execBcGeu (b : BayIx) (sa sb : SReg) (off : BitVec 13) (σ : State) : Host.Outcome State Fault Refusal :=
  regStep b (.bcGeu sa sb off) (fun r => r.branch ((r.getS sb).ule (r.getS sa)) off.toInt) σ

/-- BC_LE: Branch if sa is at most sb, signed (R173). -/
def execBcLe (b : BayIx) (sa sb : SReg) (off : BitVec 13) (σ : State) : Host.Outcome State Fault Refusal :=
  regStep b (.bcLe sa sb off) (fun r => r.branch ((r.getS sa).sle (r.getS sb)) off.toInt) σ

/-- BC_GT: Branch if sa exceeds sb, signed (R173). -/
def execBcGt (b : BayIx) (sa sb : SReg) (off : BitVec 13) (σ : State) : Host.Outcome State Fault Refusal :=
  regStep b (.bcGt sa sb off) (fun r => r.branch ((r.getS sb).slt (r.getS sa)) off.toInt) σ

/-- BC_TZ: Branch if sa AND sb is zero (R173). -/
def execBcTz (b : BayIx) (sa sb : SReg) (off : BitVec 13) (σ : State) : Host.Outcome State Fault Refusal :=
  regStep b (.bcTz sa sb off) (fun r => r.branch (r.getS sa &&& r.getS sb == 0) off.toInt) σ

/-- BC_TNZ: Branch if sa AND sb is non-zero (R173). -/
def execBcTnz (b : BayIx) (sa sb : SReg) (off : BitVec 13) (σ : State) : Host.Outcome State Fault Refusal :=
  regStep b (.bcTnz sa sb off) (fun r => r.branch (r.getS sa &&& r.getS sb != 0) off.toInt) σ

/-- JREL: Jump relative, linking the return address (R173). -/
def execJrel (b : BayIx) (sd : SReg) (off : BitVec 21) (σ : State) : Host.Outcome State Fault Refusal :=
  regStep b (.jrel sd off) (fun r => (r.setS sd (pcLink r.pc)).setPc (pcPlus r.pc off.toInt)) σ

/-- JREG: Jump to a register address, linking the return address (R173). -/
def execJreg (b : BayIx) (sd sa : SReg) (imm : BitVec 14) (σ : State) : Host.Outcome State Fault Refusal :=
  regStep b (.jreg sd sa imm) (fun r => (r.setS sd (pcLink r.pc)).setPc (pcJump r.pc (r.getS sa + imm.signExtend 32))) σ

/-- BPANY: Branch if any bit of a predicate is set (R173). -/
def execBpany (b : BayIx) (pa : PReg) (off : BitVec 17) (σ : State) : Host.Outcome State Fault Refusal :=
  regStep b (.bpany pa off) (fun r => r.branch (r.getP pa != 0) off.toInt) σ

/-- BPNONE: Branch if no bit of a predicate is set (R173). -/
def execBpnone (b : BayIx) (pa : PReg) (off : BitVec 17) (σ : State) : Host.Outcome State Fault Refusal :=
  regStep b (.bpnone pa off) (fun r => r.branch (r.getP pa == 0) off.toInt) σ

end Sys2Proof.Machine
end

