-- ==== Sys2Proof/Machine/MyvikVector.lean ====
section
/-! DEFINITION. The vector arithmetic, compare and shift instructions of Myvik (R180–R183, R189, R191). -/

namespace Sys2Proof.Machine

/-- VADD: Lane add, wrapping (R180). -/
def execVadd (b : BayIx) (vd va : VReg) (vb : VSrc) (pg : PReg) (w : Bool) (σ : State) : Host.Outcome State Fault Refusal :=
  regStep b (.vadd vd va vb pg w) (fun r => (r.lane2 w vd va vb pg fun w a b => wrapS w (a.toInt + b.toInt)).advance) σ

/-- VSUB: Lane subtract, wrapping (R180). -/
def execVsub (b : BayIx) (vd va : VReg) (vb : VSrc) (pg : PReg) (w : Bool) (σ : State) : Host.Outcome State Fault Refusal :=
  regStep b (.vsub vd va vb pg w) (fun r => (r.lane2 w vd va vb pg fun w a b => wrapS w (a.toInt - b.toInt)).advance) σ

/-- VADDS: Signed saturating lane add (R180). -/
def execVadds (b : BayIx) (vd va : VReg) (vb : VSrc) (pg : PReg) (w : Bool) (σ : State) : Host.Outcome State Fault Refusal :=
  regStep b (.vadds vd va vb pg w) (fun r => (r.lane2 w vd va vb pg fun w a b => clampS w (a.toInt + b.toInt)).advance) σ

/-- VSUBS: Signed saturating lane subtract (R180). -/
def execVsubs (b : BayIx) (vd va : VReg) (vb : VSrc) (pg : PReg) (w : Bool) (σ : State) : Host.Outcome State Fault Refusal :=
  regStep b (.vsubs vd va vb pg w) (fun r => (r.lane2 w vd va vb pg fun w a b => clampS w (a.toInt - b.toInt)).advance) σ

/-- VADDUS: Unsigned saturating lane add (R180). -/
def execVaddus (b : BayIx) (vd va : VReg) (vb : VSrc) (pg : PReg) (w : Bool) (σ : State) : Host.Outcome State Fault Refusal :=
  regStep b (.vaddus vd va vb pg w) (fun r => (r.lane2 w vd va vb pg fun w a b => clampU w (a.toNat + b.toNat)).advance) σ

/-- VSUBUS: Unsigned saturating lane subtract (R180). -/
def execVsubus (b : BayIx) (vd va : VReg) (vb : VSrc) (pg : PReg) (w : Bool) (σ : State) : Host.Outcome State Fault Refusal :=
  regStep b (.vsubus vd va vb pg w) (fun r => (r.lane2 w vd va vb pg fun w a b => clampU w ((a.toNat : Int) - b.toNat)).advance) σ

/-- VNEG: Lane negate, wrapping (R180). -/
def execVneg (b : BayIx) (vd va : VReg) (pg : PReg) (w : Bool) (σ : State) : Host.Outcome State Fault Refusal :=
  regStep b (.vneg vd va pg w) (fun r => (r.lane1 w vd va pg fun w a => wrapS w (-a.toInt)).advance) σ

/-- VNEGS: Lane negate, saturating (R180). -/
def execVnegs (b : BayIx) (vd va : VReg) (pg : PReg) (w : Bool) (σ : State) : Host.Outcome State Fault Refusal :=
  regStep b (.vnegs vd va pg w) (fun r => (r.lane1 w vd va pg fun w a => clampS w (-a.toInt)).advance) σ

/-- VABS: Lane absolute value, wrapping (R180). -/
def execVabs (b : BayIx) (vd va : VReg) (pg : PReg) (w : Bool) (σ : State) : Host.Outcome State Fault Refusal :=
  regStep b (.vabs vd va pg w) (fun r => (r.lane1 w vd va pg fun w a => wrapS w |a.toInt|).advance) σ

/-- VABSS: Lane absolute value, saturating (R180). -/
def execVabss (b : BayIx) (vd va : VReg) (pg : PReg) (w : Bool) (σ : State) : Host.Outcome State Fault Refusal :=
  regStep b (.vabss vd va pg w) (fun r => (r.lane1 w vd va pg fun w a => clampS w |a.toInt|).advance) σ

/-- VABSDU: Exact unsigned absolute difference (R180). -/
def execVabsdu (b : BayIx) (vd va : VReg) (vb : VSrc) (pg : PReg) (w : Bool) (σ : State) : Host.Outcome State Fault Refusal :=
  regStep b (.vabsdu vd va vb pg w) (fun r => (r.lane2 w vd va vb pg fun _ a b => plain (if a.ult b then b - a else a - b)).advance) σ

/-- VAVGU: Unsigned rounded average (R180). -/
def execVavgu (b : BayIx) (vd va : VReg) (vb : VSrc) (pg : PReg) (w : Bool) (σ : State) : Host.Outcome State Fault Refusal :=
  regStep b (.vavgu vd va vb pg w) (fun r => (r.lane2 w vd va vb pg fun w a b => plain (BitVec.ofNat w ((a.toNat + b.toNat + 1) / 2))).advance) σ

/-- VAND: Lane AND (R180). -/
def execVand (b : BayIx) (vd va : VReg) (vb : VSrc) (pg : PReg) (w : Bool) (σ : State) : Host.Outcome State Fault Refusal :=
  regStep b (.vand vd va vb pg w) (fun r => (r.lane2 w vd va vb pg fun _ a b => plain (a &&& b)).advance) σ

/-- VOR: Lane OR (R180). -/
def execVor (b : BayIx) (vd va : VReg) (vb : VSrc) (pg : PReg) (w : Bool) (σ : State) : Host.Outcome State Fault Refusal :=
  regStep b (.vor vd va vb pg w) (fun r => (r.lane2 w vd va vb pg fun _ a b => plain (a ||| b)).advance) σ

/-- VXOR: Lane XOR (R180). -/
def execVxor (b : BayIx) (vd va : VReg) (vb : VSrc) (pg : PReg) (w : Bool) (σ : State) : Host.Outcome State Fault Refusal :=
  regStep b (.vxor vd va vb pg w) (fun r => (r.lane2 w vd va vb pg fun _ a b => plain (a ^^^ b)).advance) σ

/-- VANDN: Lane AND NOT (R180). -/
def execVandn (b : BayIx) (vd va : VReg) (vb : VSrc) (pg : PReg) (w : Bool) (σ : State) : Host.Outcome State Fault Refusal :=
  regStep b (.vandn vd va vb pg w) (fun r => (r.lane2 w vd va vb pg fun _ a b => plain (a &&& ~~~b)).advance) σ

/-- VMIN: Signed lane minimum (R180). -/
def execVmin (b : BayIx) (vd va : VReg) (vb : VSrc) (pg : PReg) (w : Bool) (σ : State) : Host.Outcome State Fault Refusal :=
  regStep b (.vmin vd va vb pg w) (fun r => (r.lane2 w vd va vb pg fun _ a b => plain (if a.slt b then a else b)).advance) σ

/-- VMAX: Signed lane maximum (R180). -/
def execVmax (b : BayIx) (vd va : VReg) (vb : VSrc) (pg : PReg) (w : Bool) (σ : State) : Host.Outcome State Fault Refusal :=
  regStep b (.vmax vd va vb pg w) (fun r => (r.lane2 w vd va vb pg fun _ a b => plain (if a.slt b then b else a)).advance) σ

/-- VMINU: Unsigned lane minimum (R180). -/
def execVminu (b : BayIx) (vd va : VReg) (vb : VSrc) (pg : PReg) (w : Bool) (σ : State) : Host.Outcome State Fault Refusal :=
  regStep b (.vminu vd va vb pg w) (fun r => (r.lane2 w vd va vb pg fun _ a b => plain (if a.ult b then a else b)).advance) σ

/-- VMAXU: Unsigned lane maximum (R180). -/
def execVmaxu (b : BayIx) (vd va : VReg) (vb : VSrc) (pg : PReg) (w : Bool) (σ : State) : Host.Outcome State Fault Refusal :=
  regStep b (.vmaxu vd va vb pg w) (fun r => (r.lane2 w vd va vb pg fun _ a b => plain (if a.ult b then b else a)).advance) σ

/-- VMUL: Low half of the lane product (R180). -/
def execVmul (b : BayIx) (vd va : VReg) (vb : VSrc) (pg : PReg) (w : Bool) (σ : State) : Host.Outcome State Fault Refusal :=
  regStep b (.vmul vd va vb pg w) (fun r => (r.lane2 w vd va vb pg fun w a b => wrapS w (a.toInt * b.toInt)).advance) σ

/-- VMULHS: High half of the signed lane product (R180). -/
def execVmulhs (b : BayIx) (vd va : VReg) (vb : VSrc) (pg : PReg) (w : Bool) (σ : State) : Host.Outcome State Fault Refusal :=
  regStep b (.vmulhs vd va vb pg w) (fun r => (r.lane2 w vd va vb pg fun w a b => plain (BitVec.ofInt w (a.toInt * b.toInt / 2 ^ w))).advance) σ

/-- VMULHU: High half of the unsigned lane product (R180). -/
def execVmulhu (b : BayIx) (vd va : VReg) (vb : VSrc) (pg : PReg) (w : Bool) (σ : State) : Host.Outcome State Fault Refusal :=
  regStep b (.vmulhu vd va vb pg w) (fun r => (r.lane2 w vd va vb pg fun w a b => plain (BitVec.ofNat w (a.toNat * b.toNat / 2 ^ w))).advance) σ

/-- VMULQ: Rounded Q15 lane product, saturating (R180). -/
def execVmulq (b : BayIx) (vd va : VReg) (vb : VSrc) (pg : PReg) (σ : State) : Host.Outcome State Fault Refusal :=
  regStep b (.vmulq vd va vb pg) (fun r => (r.lane2 false vd va vb pg fun w a b => clampS w ((a.toInt * b.toInt + 2 ^ 14) / 2 ^ 15)).advance) σ

/-- VMULUS: Unsigned saturating lane product (R180). -/
def execVmulus (b : BayIx) (vd va : VReg) (vb : VSrc) (pg : PReg) (w : Bool) (σ : State) : Host.Outcome State Fault Refusal :=
  regStep b (.vmulus vd va vb pg w) (fun r => (r.lane2 w vd va vb pg fun w a b => clampU w (a.toNat * b.toNat)).advance) σ

/-- VMAC: Multiply-accumulate, wrapping (R181). -/
def execVmac (b : BayIx) (vd va : VReg) (vb : VSrc) (pg : PReg) (w : Bool) (σ : State) : Host.Outcome State Fault Refusal :=
  regStep b (.vmac vd va vb pg w) (fun r => (r.lane3 w vd va vb pg fun w d a b => wrapS w (d.toInt + a.toInt * b.toInt)).advance) σ

/-- VMACS: Signed saturating multiply-accumulate (R181). -/
def execVmacs (b : BayIx) (vd va : VReg) (vb : VSrc) (pg : PReg) (w : Bool) (σ : State) : Host.Outcome State Fault Refusal :=
  regStep b (.vmacs vd va vb pg w) (fun r => (r.lane3 w vd va vb pg fun w d a b => clampS w (d.toInt + a.toInt * b.toInt)).advance) σ

/-- VMACUS: Unsigned saturating multiply-accumulate (R181). -/
def execVmacus (b : BayIx) (vd va : VReg) (vb : VSrc) (pg : PReg) (w : Bool) (σ : State) : Host.Outcome State Fault Refusal :=
  regStep b (.vmacus vd va vb pg w) (fun r => (r.lane3 w vd va vb pg fun w d a b => clampU w (d.toNat + a.toNat * b.toNat)).advance) σ

/-- VMSUB: Multiply-subtract, wrapping (R181). -/
def execVmsub (b : BayIx) (vd va : VReg) (vb : VSrc) (pg : PReg) (w : Bool) (σ : State) : Host.Outcome State Fault Refusal :=
  regStep b (.vmsub vd va vb pg w) (fun r => (r.lane3 w vd va vb pg fun w d a b => wrapS w (d.toInt - a.toInt * b.toInt)).advance) σ

/-- VMACW: Widening signed multiply-accumulate into a pair (R181). -/
def execVmacw (b : BayIx) (vd va : VReg) (vb : VSrc) (pg : PReg) (σ : State) : Host.Outcome State Fault Refusal :=
  regStep b (.vmacw vd va vb pg) (fun r => (r.laneWide vd va vb pg fun d a b => wrapS 32 (d.toInt + a.toInt * b.toInt)).advance) σ

/-- VMACWU: Widening unsigned multiply-accumulate into a pair (R181). -/
def execVmacwu (b : BayIx) (vd va : VReg) (vb : VSrc) (pg : PReg) (σ : State) : Host.Outcome State Fault Refusal :=
  regStep b (.vmacwu vd va vb pg) (fun r => (r.laneWide vd va vb pg fun d a b => wrapU 32 (d.toNat + a.toNat * b.toNat)).advance) σ

/-- VMACWS: Widening signed saturating multiply-accumulate (R181). -/
def execVmacws (b : BayIx) (vd va : VReg) (vb : VSrc) (pg : PReg) (σ : State) : Host.Outcome State Fault Refusal :=
  regStep b (.vmacws vd va vb pg) (fun r => (r.laneWide vd va vb pg fun d a b => clampS 32 (d.toInt + a.toInt * b.toInt)).advance) σ

/-- VSADW: Widening sum of absolute differences (R181). -/
def execVsadw (b : BayIx) (vd va : VReg) (vb : VSrc) (pg : PReg) (σ : State) : Host.Outcome State Fault Refusal :=
  regStep b (.vsadw vd va vb pg) (fun r => (r.laneWide vd va vb pg fun d a b => wrapU 32 (d.toNat + (if a.ult b then b - a else a - b).toNat)).advance) σ

/-- VCMP_EQ: Predicate of lane equality (R182). -/
def execVcmpEq (b : BayIx) (pd : PReg) (va : VReg) (vb : VSrc) (pg : PReg) (w : Bool) (σ : State) : Host.Outcome State Fault Refusal :=
  regStep b (.vcmpEq pd va vb pg w) (fun r => (r.compare w pd va vb pg fun _ a b => a == b).advance) σ

/-- VCMP_NE: Predicate of lane inequality (R182). -/
def execVcmpNe (b : BayIx) (pd : PReg) (va : VReg) (vb : VSrc) (pg : PReg) (w : Bool) (σ : State) : Host.Outcome State Fault Refusal :=
  regStep b (.vcmpNe pd va vb pg w) (fun r => (r.compare w pd va vb pg fun _ a b => a != b).advance) σ

/-- VCMP_LT: Predicate of signed less-than (R182). -/
def execVcmpLt (b : BayIx) (pd : PReg) (va : VReg) (vb : VSrc) (pg : PReg) (w : Bool) (σ : State) : Host.Outcome State Fault Refusal :=
  regStep b (.vcmpLt pd va vb pg w) (fun r => (r.compare w pd va vb pg fun _ a b => a.slt b).advance) σ

/-- VCMP_LE: Predicate of signed less-or-equal (R182). -/
def execVcmpLe (b : BayIx) (pd : PReg) (va : VReg) (vb : VSrc) (pg : PReg) (w : Bool) (σ : State) : Host.Outcome State Fault Refusal :=
  regStep b (.vcmpLe pd va vb pg w) (fun r => (r.compare w pd va vb pg fun _ a b => a.sle b).advance) σ

/-- VCMP_GT: Predicate of signed greater-than (R182). -/
def execVcmpGt (b : BayIx) (pd : PReg) (va : VReg) (vb : VSrc) (pg : PReg) (w : Bool) (σ : State) : Host.Outcome State Fault Refusal :=
  regStep b (.vcmpGt pd va vb pg w) (fun r => (r.compare w pd va vb pg fun _ a b => b.slt a).advance) σ

/-- VCMP_GE: Predicate of signed greater-or-equal (R182). -/
def execVcmpGe (b : BayIx) (pd : PReg) (va : VReg) (vb : VSrc) (pg : PReg) (w : Bool) (σ : State) : Host.Outcome State Fault Refusal :=
  regStep b (.vcmpGe pd va vb pg w) (fun r => (r.compare w pd va vb pg fun _ a b => b.sle a).advance) σ

/-- VCMP_LTU: Predicate of unsigned less-than (R182). -/
def execVcmpLtu (b : BayIx) (pd : PReg) (va : VReg) (vb : VSrc) (pg : PReg) (w : Bool) (σ : State) : Host.Outcome State Fault Refusal :=
  regStep b (.vcmpLtu pd va vb pg w) (fun r => (r.compare w pd va vb pg fun _ a b => a.ult b).advance) σ

/-- VCMP_LEU: Predicate of unsigned less-or-equal (R182). -/
def execVcmpLeu (b : BayIx) (pd : PReg) (va : VReg) (vb : VSrc) (pg : PReg) (w : Bool) (σ : State) : Host.Outcome State Fault Refusal :=
  regStep b (.vcmpLeu pd va vb pg w) (fun r => (r.compare w pd va vb pg fun _ a b => a.ule b).advance) σ

/-- VCMP_GTU: Predicate of unsigned greater-than (R182). -/
def execVcmpGtu (b : BayIx) (pd : PReg) (va : VReg) (vb : VSrc) (pg : PReg) (w : Bool) (σ : State) : Host.Outcome State Fault Refusal :=
  regStep b (.vcmpGtu pd va vb pg w) (fun r => (r.compare w pd va vb pg fun _ a b => b.ult a).advance) σ

/-- VCMP_GEU: Predicate of unsigned greater-or-equal (R182). -/
def execVcmpGeu (b : BayIx) (pd : PReg) (va : VReg) (vb : VSrc) (pg : PReg) (w : Bool) (σ : State) : Host.Outcome State Fault Refusal :=
  regStep b (.vcmpGeu pd va vb pg w) (fun r => (r.compare w pd va vb pg fun _ a b => b.ule a).advance) σ

/-- VCMP_TEST: Predicate of a non-zero lane AND (R182). -/
def execVcmpTest (b : BayIx) (pd : PReg) (va : VReg) (vb : VSrc) (pg : PReg) (w : Bool) (σ : State) : Host.Outcome State Fault Refusal :=
  regStep b (.vcmpTest pd va vb pg w) (fun r => (r.compare w pd va vb pg fun _ a b => a &&& b != 0).advance) σ

/-- VSLL: Lane logical left shift (R183). -/
def execVsll (b : BayIx) (vd va : VReg) (vb : VSrc) (pg : PReg) (w : Bool) (σ : State) : Host.Outcome State Fault Refusal :=
  regStep b (.vsll vd va vb pg w) (fun r => (r.lane2 w vd va vb pg fun _ a b => plain (a <<< laneAmount b)).advance) σ

/-- VSRL: Lane logical right shift (R183). -/
def execVsrl (b : BayIx) (vd va : VReg) (vb : VSrc) (pg : PReg) (w : Bool) (σ : State) : Host.Outcome State Fault Refusal :=
  regStep b (.vsrl vd va vb pg w) (fun r => (r.lane2 w vd va vb pg fun _ a b => plain (a >>> laneAmount b)).advance) σ

/-- VSRA: Lane arithmetic right shift (R183). -/
def execVsra (b : BayIx) (vd va : VReg) (vb : VSrc) (pg : PReg) (w : Bool) (σ : State) : Host.Outcome State Fault Refusal :=
  regStep b (.vsra vd va vb pg w) (fun r => (r.lane2 w vd va vb pg fun _ a b => plain (a.sshiftRight (laneAmount b))).advance) σ

/-- VROL: Lane rotate left (R183). -/
def execVrol (b : BayIx) (vd va : VReg) (vb : VSrc) (pg : PReg) (w : Bool) (σ : State) : Host.Outcome State Fault Refusal :=
  regStep b (.vrol vd va vb pg w) (fun r => (r.lane2 w vd va vb pg fun w a b => plain (a.rotateLeft (laneAmount b % w))).advance) σ

/-- VROR: Lane rotate right (R183). -/
def execVror (b : BayIx) (vd va : VReg) (vb : VSrc) (pg : PReg) (w : Bool) (σ : State) : Host.Outcome State Fault Refusal :=
  regStep b (.vror vd va vb pg w) (fun r => (r.lane2 w vd va vb pg fun w a b => plain (a.rotateRight (laneAmount b % w))).advance) σ

/-- VSRAR: Signed rounding right shift, half to even (R183). -/
def execVsrar (b : BayIx) (vd va : VReg) (vb : VSrc) (pg : PReg) (w : Bool) (σ : State) : Host.Outcome State Fault Refusal :=
  regStep b (.vsrar vd va vb pg w) (fun r => (r.lane2 w vd va vb pg fun w a b => plain (BitVec.ofInt w (rhe a.toInt (laneAmount b)))).advance) σ

/-- VSRLR: Unsigned rounding right shift, half to even (R183). -/
def execVsrlr (b : BayIx) (vd va : VReg) (vb : VSrc) (pg : PReg) (w : Bool) (σ : State) : Host.Outcome State Fault Refusal :=
  regStep b (.vsrlr vd va vb pg w) (fun r => (r.lane2 w vd va vb pg fun w a b => plain (BitVec.ofInt w (rhe a.toNat (laneAmount b)))).advance) σ

/-- VSLLS: Signed saturating left shift (R183). -/
def execVslls (b : BayIx) (vd va : VReg) (vb : VSrc) (pg : PReg) (w : Bool) (σ : State) : Host.Outcome State Fault Refusal :=
  regStep b (.vslls vd va vb pg w) (fun r => (r.lane2 w vd va vb pg fun w a b => clampS w (a.toInt * 2 ^ laneAmount b)).advance) σ

end Sys2Proof.Machine
end

