-- ==== Sys2Proof/Machine/BayStep.lean ====
section
/-! DEFINITION. One instruction fetched and executed by a bay, as debug steps it (R160, R166, R208, R219, R422). -/

namespace Sys2Proof.Machine

/-- The instruction of a Myvik value executed by a bay. -/
def runMyvik (b : BayIx) (i : Myvik) (σ : State) : Host.Outcome State Fault Refusal :=
  match i with
  | .add sd sa sb => execAdd b sd sa sb σ
  | .sub sd sa sb => execSub b sd sa sb σ
  | .and sd sa sb => execAnd b sd sa sb σ
  | .or sd sa sb => execOr b sd sa sb σ
  | .xor sd sa sb => execXor b sd sa sb σ
  | .andn sd sa sb => execAndn b sd sa sb σ
  | .sll sd sa sb => execSll b sd sa sb σ
  | .srl sd sa sb => execSrl b sd sa sb σ
  | .sra sd sa sb => execSra b sd sa sb σ
  | .rol sd sa sb => execRol b sd sa sb σ
  | .ror sd sa sb => execRor b sd sa sb σ
  | .setlt sd sa sb => execSetlt b sd sa sb σ
  | .setltu sd sa sb => execSetltu b sd sa sb σ
  | .min sd sa sb => execMin b sd sa sb σ
  | .max sd sa sb => execMax b sd sa sb σ
  | .minu sd sa sb => execMinu b sd sa sb σ
  | .maxu sd sa sb => execMaxu b sd sa sb σ
  | .mul sd sa sb => execMul b sd sa sb σ
  | .mulhs sd sa sb => execMulhs b sd sa sb σ
  | .mulhu sd sa sb => execMulhu b sd sa sb σ
  | .div sd sa sb => execDiv b sd sa sb σ
  | .divu sd sa sb => execDivu b sd sa sb σ
  | .rem sd sa sb => execRem b sd sa sb σ
  | .remu sd sa sb => execRemu b sd sa sb σ
  | .clz sd sa => execClz b sd sa σ
  | .popc sd sa => execPopc b sd sa σ
  | .addk sd sa imm => execAddk b sd sa imm σ
  | .andk sd sa imm => execAndk b sd sa imm σ
  | .ork sd sa imm => execOrk b sd sa imm σ
  | .xork sd sa imm => execXork b sd sa imm σ
  | .setltk sd sa imm => execSetltk b sd sa imm σ
  | .setltuk sd sa imm => execSetltuk b sd sa imm σ
  | .rsubk sd sa imm => execRsubk b sd sa imm σ
  | .kset sd imm => execKset b sd imm σ
  | .khi sd imm => execKhi b sd imm σ
  | .pcadd sd imm => execPcadd b sd imm σ
  | .slli sd sa amt => execSlli b sd sa amt σ
  | .srli sd sa amt => execSrli b sd sa amt σ
  | .srai sd sa amt => execSrai b sd sa amt σ
  | .roli sd sa amt => execRoli b sd sa amt σ
  | .rori sd sa amt => execRori b sd sa amt σ
  | .bcEq sa sb off => execBcEq b sa sb off σ
  | .bcNe sa sb off => execBcNe b sa sb off σ
  | .bcLt sa sb off => execBcLt b sa sb off σ
  | .bcGe sa sb off => execBcGe b sa sb off σ
  | .bcLtu sa sb off => execBcLtu b sa sb off σ
  | .bcGeu sa sb off => execBcGeu b sa sb off σ
  | .bcLe sa sb off => execBcLe b sa sb off σ
  | .bcGt sa sb off => execBcGt b sa sb off σ
  | .bcTz sa sb off => execBcTz b sa sb off σ
  | .bcTnz sa sb off => execBcTnz b sa sb off σ
  | .jrel sd off => execJrel b sd off σ
  | .jreg sd sa imm => execJreg b sd sa imm σ
  | .bpany pa off => execBpany b pa off σ
  | .bpnone pa off => execBpnone b pa off σ
  | .ldB sd sa imm => execLdB b sd sa imm σ
  | .ldBu sd sa imm => execLdBu b sd sa imm σ
  | .ldH sd sa imm => execLdH b sd sa imm σ
  | .ldHu sd sa imm => execLdHu b sd sa imm σ
  | .ldW sd sa imm => execLdW b sd sa imm σ
  | .stB s sa imm => execStB b s sa imm σ
  | .stH s sa imm => execStH b s sa imm σ
  | .stW s sa imm => execStW b s sa imm σ
  | .vld vd sa pg off => execVld b vd sa pg off σ
  | .vst vd sa pg off => execVst b vd sa pg off σ
  | .vlds vd sa sb pg => execVlds b vd sa sb pg σ
  | .vsts vd sa sb pg => execVsts b vd sa sb pg σ
  | .vldbu vd sa pg off => execVldbu b vd sa pg off σ
  | .vstb vd sa pg off => execVstb b vd sa pg off σ
  | .lfr vd sa age fld => execLfr b vd sa age fld σ
  | .emit va => execEmit b va σ
  | .yield => execYield b σ
  | .halt => execHalt b σ
  | .cpost sd sa sb => execCpost b sd sa sb σ
  | .cwait flag => execCwait b flag σ
  | .mfc s csr => execMfc b s csr σ
  | .mtc s csr => execMtc b s csr σ
  | .fence => execFence b σ
  | .vadd vd va vb pg w => execVadd b vd va vb pg w σ
  | .vsub vd va vb pg w => execVsub b vd va vb pg w σ
  | .vadds vd va vb pg w => execVadds b vd va vb pg w σ
  | .vsubs vd va vb pg w => execVsubs b vd va vb pg w σ
  | .vaddus vd va vb pg w => execVaddus b vd va vb pg w σ
  | .vsubus vd va vb pg w => execVsubus b vd va vb pg w σ
  | .vneg vd va pg w => execVneg b vd va pg w σ
  | .vnegs vd va pg w => execVnegs b vd va pg w σ
  | .vabs vd va pg w => execVabs b vd va pg w σ
  | .vabss vd va pg w => execVabss b vd va pg w σ
  | .vabsdu vd va vb pg w => execVabsdu b vd va vb pg w σ
  | .vavgu vd va vb pg w => execVavgu b vd va vb pg w σ
  | .vand vd va vb pg w => execVand b vd va vb pg w σ
  | .vor vd va vb pg w => execVor b vd va vb pg w σ
  | .vxor vd va vb pg w => execVxor b vd va vb pg w σ
  | .vandn vd va vb pg w => execVandn b vd va vb pg w σ
  | .vmin vd va vb pg w => execVmin b vd va vb pg w σ
  | .vmax vd va vb pg w => execVmax b vd va vb pg w σ
  | .vminu vd va vb pg w => execVminu b vd va vb pg w σ
  | .vmaxu vd va vb pg w => execVmaxu b vd va vb pg w σ
  | .vmul vd va vb pg w => execVmul b vd va vb pg w σ
  | .vmulhs vd va vb pg w => execVmulhs b vd va vb pg w σ
  | .vmulhu vd va vb pg w => execVmulhu b vd va vb pg w σ
  | .vmulq vd va vb pg => execVmulq b vd va vb pg σ
  | .vmulus vd va vb pg w => execVmulus b vd va vb pg w σ
  | .vmac vd va vb pg w => execVmac b vd va vb pg w σ
  | .vmacs vd va vb pg w => execVmacs b vd va vb pg w σ
  | .vmacus vd va vb pg w => execVmacus b vd va vb pg w σ
  | .vmsub vd va vb pg w => execVmsub b vd va vb pg w σ
  | .vmacw vd va vb pg => execVmacw b vd va vb pg σ
  | .vmacwu vd va vb pg => execVmacwu b vd va vb pg σ
  | .vmacws vd va vb pg => execVmacws b vd va vb pg σ
  | .vsadw vd va vb pg => execVsadw b vd va vb pg σ
  | .vcmpEq pd va vb pg w => execVcmpEq b pd va vb pg w σ
  | .vcmpNe pd va vb pg w => execVcmpNe b pd va vb pg w σ
  | .vcmpLt pd va vb pg w => execVcmpLt b pd va vb pg w σ
  | .vcmpLe pd va vb pg w => execVcmpLe b pd va vb pg w σ
  | .vcmpGt pd va vb pg w => execVcmpGt b pd va vb pg w σ
  | .vcmpGe pd va vb pg w => execVcmpGe b pd va vb pg w σ
  | .vcmpLtu pd va vb pg w => execVcmpLtu b pd va vb pg w σ
  | .vcmpLeu pd va vb pg w => execVcmpLeu b pd va vb pg w σ
  | .vcmpGtu pd va vb pg w => execVcmpGtu b pd va vb pg w σ
  | .vcmpGeu pd va vb pg w => execVcmpGeu b pd va vb pg w σ
  | .vcmpTest pd va vb pg w => execVcmpTest b pd va vb pg w σ
  | .vsll vd va vb pg w => execVsll b vd va vb pg w σ
  | .vsrl vd va vb pg w => execVsrl b vd va vb pg w σ
  | .vsra vd va vb pg w => execVsra b vd va vb pg w σ
  | .vrol vd va vb pg w => execVrol b vd va vb pg w σ
  | .vror vd va vb pg w => execVror b vd va vb pg w σ
  | .vsrar vd va vb pg w => execVsrar b vd va vb pg w σ
  | .vsrlr vd va vb pg w => execVsrlr b vd va vb pg w σ
  | .vslls vd va vb pg w => execVslls b vd va vb pg w σ
  | .vext vd va vb sc w => execVext b vd va vb sc w σ
  | .vslup vd va sc w => execVslup b vd va sc w σ
  | .vsldn vd va sc w => execVsldn b vd va sc w σ
  | .vrot vd va sc w => execVrot b vd va sc w σ
  | .vrev vd va w => execVrev b vd va w σ
  | .vtbl vd va vb w => execVtbl b vd va vb w σ
  | .vsplat vd va sc w => execVsplat b vd va sc w σ
  | .vzipl vd va vb w => execVzipl b vd va vb w σ
  | .vziph vd va vb w => execVziph b vd va vb w σ
  | .vuzpe vd va vb w => execVuzpe b vd va vb w σ
  | .vuzpo vd va vb w => execVuzpo b vd va vb w σ
  | .vrsum sd va pg w => execVrsum b sd va pg w σ
  | .vrsumu sd va pg w => execVrsumu b sd va pg w σ
  | .vrmin sd va pg w => execVrmin b sd va pg w σ
  | .vrmax sd va pg w => execVrmax b sd va pg w σ
  | .vrminu sd va pg w => execVrminu b sd va pg w σ
  | .vrmaxu sd va pg w => execVrmaxu b sd va pg w σ
  | .vrband sd va pg w => execVrband b sd va pg w σ
  | .vrbor sd va pg w => execVrbor b sd va pg w σ
  | .vrargmax sd va pg w => execVrargmax b sd va pg w σ
  | .vrargmin sd va pg w => execVrargmin b sd va pg w σ
  | .vmov vd va pg w => execVmov b vd va pg w σ
  | .vsel vd va vb pg w => execVsel b vd va vb pg w σ
  | .viota vd pg w => execViota b vd pg w σ
  | .vins vd k sb w => execVins b vd k sb w σ
  | .vextr sd va k w => execVextr b sd va k w σ
  | .vextru sd va k w => execVextru b sd va k w σ
  | .vwiden vd va pg => execVwiden b vd va pg σ
  | .vwidenu vd va pg => execVwidenu b vd va pg σ
  | .vnarrow vd va pg => execVnarrow b vd va pg σ
  | .vnarrows vd va pg => execVnarrows b vd va pg σ
  | .vnarrowus vd va pg => execVnarrowus b vd va pg σ
  | .pand pd pa pb => execPand b pd pa pb σ
  | .por pd pa pb => execPor b pd pa pb σ
  | .pxor pd pa pb => execPxor b pd pa pb σ
  | .pandn pd pa pb => execPandn b pd pa pb σ
  | .pnot pd pa => execPnot b pd pa σ
  | .pset pd => execPset b pd σ
  | .pclr pd => execPclr b pd σ
  | .pfirst pd pa => execPfirst b pd pa σ
  | .ptos pa s => execPtos b pa s σ
  | .stop pd s => execStop b pd s σ
  | .pcnt pa s => execPcnt b pa s σ
  | .vli vd imm => execVli b vd imm σ

/-- The 64 bytes of an instruction-cache line in memory, as words. -/
def Memory.codeLine (m : Memory) (a : Nat) : Vector Word 16 := Vector.ofFn fun k => BitVec.ofNat 32 (m.num (a + 4 * k.val) 4)

/-- A cache of 16 KiB with one more line: the oldest leaves a full one. -/
def codeFill (c : List CodeLine) (l : CodeLine) : List CodeLine := let c := c ++ [l]; c.drop (c.length - 256)

/-- The word at a bay's PC: from the instruction cache, or from memory, which fills the line unless a word of it is poisoned (R160, R166, R208,
R211). -/
def State.fetchWord (s : State) (b : BayIx) : Except AccFault (Word × State) :=
  let y := s.getBay b
  let va : BitVec 40 := y.regs.pc &&& 0xFFFFFFFFFC#40
  let tag : BitVec 34 := va.extractLsb' 6 34
  let k : Fin 16 := finOf 16 (field va 5 2)
  match y.code.find? fun l => l.asid = y.asid && l.line = tag with
  | some l => .ok (vget l.words k, s)
  | none =>
    match s.access (y.requester b) y.tlb .fetch va with
    | .error f => .error f
    | .ok (a, t) =>
      let base := a / 64 * 64
      if s.mem.poisoned (a / 8) then .error { AccFault.of .ecc va with found := some (a / 8) }
      else
        let ws := s.mem.codeLine base
        let clean := (List.range 8).all fun i => !s.mem.poisoned (base / 8 + i)
        let c := if clean then codeFill y.code { asid := y.asid, line := tag, words := ws } else y.code
        let lineWords := (List.range 8).map fun i => base / 8 + i
        .ok (vget ws k, (s.met (y.requester b) y.tlb [va] lineWords).onBay b fun y => { y with tlb := t, code := c })

/-- The state an instruction leaves. -/
def ranTo (s : State) : Host.Outcome State Fault Refusal → State
  | .next t => t
  | _ => s

/-- One instruction of a bay that can issue: fetched, decoded and executed; a fetch that faults ends or holds the job, an illegal word aborts it
(R169, R170, R219). -/
def State.runOne (s : State) (b : BayIx) : State :=
  match s.fetchWord b with
  | .error f => (s.tickCycle b).bayFault b f 1 0
  | .ok (w, t) =>
    match myvikDecode w with
    | some i => ranTo t (runMyvik b i t)
    | none => (t.tickCycle b).bayIllegal b w

end Sys2Proof.Machine
end

