-- ==== Sys2Proof/Machine/House.lean ====
section
/-! DEFINITION. The housekeeping converters and the DACs, and the commands that read and set them (R281, R283, R386–R395, R399). -/

namespace Sys2Proof.Machine

/-- Fields of HK_CTRL (R400). -/
def Conv.regLen (c : Conv) : Nat := field c.ctrl 20 17 + 1
def Conv.injLen (c : Conv) : Nat := field c.ctrl 22 21 + 1
def Conv.regEn (c : Conv) : Bool := bit c.ctrl 16

/-- A change of a converter. -/
def State.onConv (s : State) (c : ConvIx) (f : Conv → Conv) : State := { s with hk := { s.hk with conv := vmod s.hk.conv c f } }

/-- CHK_EN and CHK_CH (R391, R400). -/
def State.chkEn (s : State) : Bool := bit s.hk.chk 31
def State.chkCh (s : State) : Nat := field s.hk.chk 19 16

/-- The instant at which the pass that is due at TB `tb` fell due (R388): REG_PER µs after the one before, the first as soon as REG_EN is 1. -/
def Conv.passAt (c : Conv) (tb : Nat) : Option Nat :=
  let per := 1000 * field c.ctrl 15 0
  match c.passTb with
  | none => some tb
  | some p => if per ≤ tb - p then some (tb - (tb - p) % per) else none

/-- HK_REGULAR_PASS (R388): a pass starts, or waits for the end of the pass before. -/
def execHkRegularPass (conv : ConvIx) (s : State) (t : Nat := 0) : Host.Outcome State Fault Refusal :=
  let s := s.atTb t
  let c := vget s.hk.conv conv
  if !c.regEn then .next s
  else match c.passAt s.tb with
    | none => .next s
    | some p =>
      .next (s.onConv conv fun c =>
        if c.nextReg.isNone then { c with nextReg := some 0, passTb := some p } else { c with passDue := true, passTb := some p })

/-- Four injected sequences have been put before a regular entry (R390): the next regular conversion is forced. -/
def Conv.forcing (c : Conv) : Bool := 4 ≤ c.deferred

/-- What slot `k` converts (R388–R390): the injected sequence from its first slot on, but a forced regular entry goes before a sequence that has not
begun; else the regular entry that waits. -/
def Conv.takes (c : Conv) (k : Nat) : Option HkJob :=
  match c.nextInj, c.nextReg with
  | some i, some r => if k < c.injSlot || (i = 0 && c.forcing) then some (.reg r) else some (.inj i)
  | some i, none => if k < c.injSlot then none else some (.inj i)
  | none, some r => some (.reg r)
  | none, none => none

/-- The slot in progress on the grid of 1 µs (R386), and the first whose start is not before TB. -/
def State.slotNow (s : State) : Nat := s.tb / 1000
def State.slotAfter (s : State) : Nat := (s.tb + 999) / 1000

/-- A trigger (R389): TB is latched and the injected results lose VALID; the sequence waits for the first slot that begins from now on. During a
sequence the trigger is held, and one more is missed. -/
def Conv.trigger (c : Conv) (tb slot : Nat) : Conv :=
  let c := { c with heard := c.heard - 1 }
  if c.pending then { c with injMiss := satInc c.injMiss }
  else
    let c := { c with injTb := BitVec.ofNat 32 tb, injRes := c.injRes.map fun w => setBit w 31 false }
    if c.nextInj.isNone then { c with nextInj := some 0, injSlot := slot } else { c with pending := true }

/-- HK_INJECT_TRIGGER (R389): the INJ_EV event that has occurred arrives at TB `t`. -/
def execHkInjectTrigger (conv : ConvIx) (t : Nat) (s : State) : Host.Outcome State Fault Refusal :=
  let s := s.atTb t
  let c := vget s.hk.conv conv
  if 0 < c.heard || s.outsideEdge c.injEv then .next (s.onConv conv fun c => c.trigger s.tb s.slotAfter) else .next s

/-- The entry after regular entry `i` (R388): the pass ends, and a pass that waits starts. -/
def Conv.afterReg (c : Conv) (i : Fin 16) : Conv :=
  if i.val + 1 < c.regLen then { c with nextReg := some (i + 1) }
  else { c with nextReg := if c.passDue then some 0 else none, passDue := false }

/-- A regular entry is sampled (R388, R390). -/
def Conv.sampleReg (c : Conv) (i : Fin 16) (code : BitVec 12) (slot : Nat) : Conv :=
  let c := { c with sampled := c.sampled ++ [(HkJob.reg i, vget c.seq (finOf 20 i.val), code, slot)], forced := c.forced || c.forcing,
                    deferred := 0, freeSlot := slot + 1 }
  c.afterReg i

/-- An injected entry is sampled (R389, R390): the first of a sequence that starts while a regular entry waits counts a deferral; after the last a
sequence that is held follows. -/
def Conv.sampleInj (c : Conv) (i : Fin 4) (code : BitVec 12) (slot : Nat) : Conv :=
  let c := { c with
    sampled := c.sampled ++ [(HkJob.inj i, vget c.seq (finOf 20 (16 + i.val)), code, slot)], freeSlot := slot + 1,
    deferred := if i = 0 && c.nextReg.isSome then c.deferred + 1 else c.deferred }
  if i.val + 1 < c.injLen then { c with nextInj := some (i + 1) }
  else { c with nextInj := if c.pending then some 0 else none, pending := false }

/-- The conversion of CHK_CH is sampled (R391); it counts as a regular one. -/
def Conv.sampleCheck (c : Conv) (ch : Nat) (code : BitVec 12) (slot : Nat) : Conv :=
  { c with sampled := c.sampled ++ [(HkJob.check, BitVec.ofNat 32 ch, code, slot)], forced := c.forced || c.forcing, deferred := 0,
           freeSlot := slot + 1 }

/-- HKB converts CHK_CH in slot `k` (R391): HKA has converted it there with the first entry of a pass, or will. -/
def State.checkAt (s : State) (k : Nat) : Bool :=
  let c := vget s.hk.conv 0
  s.hk.chkSlot = some k || (s.chkEn && c.freeSlot ≤ k && c.takes k = some (.reg 0))

/-- HK_CONVERSION (R386, R388–R391): the slot in progress at TB `t` reads `code`, at most one conversion a slot. The first entry of a pass of HKA goes with
HKA's conversion of CHK_CH, which reads `checkCode`, and with one of HKB. -/
def execHkConversion (conv : ConvIx) (code checkCode : BitVec 12) (s : State) (t : Nat := 0) : Host.Outcome State Fault Refusal :=
  let s := s.atTb t
  let c := vget s.hk.conv conv
  let k := s.slotNow
  if !s.tbRun || k < c.freeSlot then .next s
  else if conv = 1 && s.checkAt k then .next (s.onConv 1 fun c => c.sampleCheck s.chkCh code k)
  else match c.takes k with
    | some (.inj i) => .next (s.onConv conv fun c => c.sampleInj i code k)
    | some (.reg i) =>
      let s := s.onConv conv fun c => c.sampleReg i code k
      if conv = 0 && i = 0 && s.chkEn then
        let s := s.onConv 0 fun c => c.sampleCheck s.chkCh checkCode k
        .next { s with hk := { s.hk with chkSlot := some k } }
      else .next s
    | some .check | none => .next s

/-- A conversion detects an open wire (R392). -/
def openWire (entry : Word) (code : BitVec 12) : Bool :=
  field entry 3 0 < 8 && ((field entry 5 4 = 1 && 4032 ≤ code.toNat) || (field entry 5 4 = 2 && code.toNat ≤ 63))

/-- The word of a result (R400). -/
def resultWord (open_ : Bool) (code : BitVec 12) : Word := setBit (setBit (code.setWidth 32) 30 open_) 31 true

/-- The two codes of CHK_CH are compared (R391). -/
def State.compareCheck (s : State) : State :=
  match vget s.hk.checkPair 0, vget s.hk.checkPair 1 with
  | some a, some b =>
    let s := { s with hk := { s.hk with checkPair := Vector.replicate 2 none } }
    let far : Bool := field s.hk.chk 11 0 < (if a.toNat ≤ b.toNat then b.toNat - a.toNat else a.toNat - b.toNat)
    if far then State.report { s with hk := { s.hk with chk := setBit s.hk.chk 30 true } } .hkPlaus else s
  | _, _ => s

/-- STALE and CHORE_STALE[8] after a regular result (R390). -/
def State.refreshStale (s : State) (conv : ConvIx) : State :=
  let s := s.onConv conv fun c => { c with stale := c.stale && c.aged s.tb }
  s.setStale 8 (s.hk.conv.toList.any fun c => c.stale)

/-- A result of CH is written to HK_DATA (R400). -/
def Conv.putData (c : Conv) (ch tb : Nat) (w : Word) : Conv :=
  { c with data := vset c.data (finOf 16 ch) w, dataTb := vset c.dataTb (finOf 16 ch) tb }

/-- One result (R386–R392): HK_DATA or HK_INJ_RES, the open wire, the cross-check and the hub's temperature. -/
def State.writeResult (s : State) (conv : ConvIx) (x : HkJob × Word × BitVec 12 × Nat) : State :=
  let (job, entry, code, _) := x
  let wire := openWire entry code
  let w := resultWord wire code
  let ch := field entry 3 0
  let s := if wire then State.report (s.onConv conv fun c => { c with isOpen := true }) .openWire else s
  let s := match job with
    | .reg i =>
      State.refreshStale (s.onConv conv fun c => { c.putData ch s.tb w with entryTb := vset c.entryTb i s.tb }) conv
    | .check =>
      let s := s.onConv conv fun c => c.putData ch s.tb w
      State.compareCheck { s with hk := { s.hk with checkPair := vset s.hk.checkPair conv (some code) } }
    | .inj i =>
      let c := vget s.hk.conv conv
      let last : Bool := i.val + 1 = c.injLen
      let s := s.onConv conv fun c => { c with injRes := vset c.injRes i w, injDone := c.injDone || last }
      if last && bit c.ctrl 23 then { s with hk := { s.hk with cpIrq := setBit s.hk.cpIrq (8 + conv.val) true } } else s
  if ch = 8 then s.hubReading code else s

/-- HK_RESULT (R386): 2 µs after a slot began its result is written, with that of the CHK_CH conversion of the same slot. -/
def execHkResult (conv : ConvIx) (s : State) (t : Nat := 0) : Host.Outcome State Fault Refusal :=
  let s := s.atTb t
  match (vget s.hk.conv conv).sampled with
  | [] => .next s
  | x :: xs =>
    if s.tb < 1000 * x.2.2.2 + 2000 then .next s
    else
      let s := State.writeResult (s.onConv conv fun c => { c with sampled := xs }) conv x
      match conv, xs with
      | 0, (.check, y) :: ys => .next (State.writeResult (s.onConv 0 fun c => { c with sampled := ys }) 0 (.check, y))
      | _, _ => .next s

/-- HK_CAL_CONVERGED (R386, R437). -/
def execHkCalConverged (conv : ConvIx) (s : State) : Host.Outcome State Fault Refusal :=
  .next (if s.hubUp then s.onConv conv fun c => { c with calOk := true } else s)

/-- HK_READ (R281): the newest code of a channel and its age in µs. -/
def hkReadRun (conv ch : Byte) : Run := fun _ s =>
  if 2 ≤ conv.toNat || 16 ≤ ch.toNat then fail stBadParam s
  else
    let c := vget s.hk.conv (finOf 2 conv.toNat)
    let i : Fin 16 := finOf 16 ch.toNat
    ok (bytesBe 2 (field (vget c.data i) 11 0) ++ bytesBe 4 (Nat.min ((s.tb - vget c.dataTb i) / 1000) 0xFFFFFFFF)) s

def execHkRead (slot : Slot) (h : CmdHeader) (conv ch : Byte) (s : State) : Host.Outcome State Fault Refusal :=
  s.command { slot := slot, op := 0x0A06, h := h, payload := [conv, ch], bulk := [] } { gateO with exempt := true } (hkReadRun conv ch)

/-- A write of DAC_CTRL (R394, R395): the first turns the driver on; a change of RANGE forces 0 V. -/
def Dac.write (d : Dac) (range : Bool) (code : BitVec 12) (tb : Nat) : Dac :=
  if !d.active then { active := true, hold := false, slew := code ≠ 0, range := range, code := code, holdTb := 0 }
  else if range ≠ d.range then { d with hold := true, slew := false, range := range, code := code, holdTb := tb }
  else if d.hold then { d with code := code }
  else if code ≠ d.code then { d with code := code, slew := true }
  else d

/-- The output of a DAC (R393–R395) in units of 1/16,384 V, of which a code is 5 with FS 1.25 V and 10 with FS 2.5 V: 0 while the driver is off or holds
0 V; none while it slews. -/
def Dac.output (d : Dac) : Option Nat :=
  if !d.active || d.hold then some 0 else if d.slew then none else some (d.code.toNat * if d.range then 10 else 5)

def State.onDac (s : State) (d : Fin 4) (f : Dac → Dac) : State := { s with hk := { s.hk with dac := vmod s.hk.dac d f } }

/-- A write reaches DAC_CTRL (R394, R438): not before PHASE READY and not during the reset F10, so the driver stays off. -/
def State.dacWrite (s : State) (d : Fin 4) (range : Bool) (code : BitVec 12) : State :=
  if s.mode.mode = .boot || bit s.flt.pfrBusy 10 then s else s.onDac d fun x => x.write range code s.tb

/-- DAC_WRITE. -/
def execDacWrite (d : Fin 4) (value : Word) (s : State) : Host.Outcome State Fault Refusal :=
  .next (s.dacWrite d (bit value 12) (value.extractLsb' 0 12))

/-- DAC_RANGE_HOLD_END (R395): 20 µs after the latest change of RANGE. While the timebase stands (R92) the row's coming is their end. -/
def execDacRangeHoldEnd (d : Fin 4) (s : State) (t : Nat := 0) : Host.Outcome State Fault Refusal :=
  let s := s.atTb t
  .next (s.onDac d fun x => if x.hold && (!s.tbRun || x.holdTb + 20000 ≤ s.tb) then { x with hold := false, slew := x.code ≠ 0 } else x)

/-- DAC_SLEW_DONE (R395). -/
def execDacSlewDone (d : Fin 4) (s : State) : Host.Outcome State Fault Refusal :=
  .next (s.onDac d fun x => { x with slew := false })

/-- DAC_SET (R281). -/
def dacSetRun (dac range : Byte) (code : BitVec 16) : Run := fun _ s =>
  if 4 ≤ dac.toNat || 2 ≤ range.toNat || 4096 ≤ code.toNat then fail stBadParam s
  else ok [] (s.dacWrite (finOf 4 dac.toNat) (range = 1) (code.extractLsb' 0 12))

def execDacSet (slot : Slot) (h : CmdHeader) (dac range : Byte) (code : BitVec 16) (s : State) : Host.Outcome State Fault Refusal :=
  s.command { slot := slot, op := 0x0A04, h := h, payload := [dac, range] ++ bytesBe 2 code.toNat, bulk := [] } gateO (dacSetRun dac range code)

/-- I2C_XFER (R281, R283, R399): LEN is 3 + WLEN. -/
def i2cXferRun (slot : Slot) (addr wlen rlen : Byte) (wdata : List Byte) : Run := fun _ s =>
  if 128 ≤ addr.toNat || 200 < wlen.toNat || 200 < rlen.toNat || wdata.length ≠ wlen.toNat then fail stBadParam s
  else if s.hk.i2cSlot.isSome then fail stNoResource s
  else .wait .i2c { s with hk := { s.hk with i2cSlot := some (slot, addr, wlen, rlen, wdata) } }

def execI2cXfer (slot : Slot) (h : CmdHeader) (addr wlen rlen : Byte) (wdata : List Byte) (s : State) : Host.Outcome State Fault Refusal :=
  s.command { slot := slot, op := 0x0A05, h := h, payload := [addr, wlen, rlen] ++ wdata, bulk := [] } gateI (i2cXferRun slot addr wlen rlen wdata)

/-- The transfer that runs ends (R283, R399): RESULT, INDEX and the bytes read. -/
def State.i2cEnd (s : State) (result index : Byte) (rdata : List Byte) : State :=
  match s.hk.i2cSlot with
  | none => s
  | some (slot, _, _, rlen, _) =>
    let s := { s with hk := { s.hk with i2cSlot := none, arbLost := if result = 3 then satInc s.hk.arbLost else s.hk.arbLost } }
    if vget s.host.waits slot = some .i2c then s.answer slot stOk ([result, index] ++ rdata.take rlen.toNat) else s

/-- RESULT and INDEX as R283 gives them for a transfer of `w` bytes written and `r` read, with the bytes read where all were acknowledged. -/
def i2cResultOk (w r result index got : Nat) : Bool :=
  if result = 0 then index = 0 && got = r
  else if result = 1 then index = 0
  else if result = 2 then index < w
  else (result = 3 || result = 4) && index ≤ w + r

/-- I2C_XFER_DONE (R283): an outcome that no transfer has does nothing; RESULT 0x04 is that of I2C_TIMEOUT. -/
def execI2cXferDone (result index : Byte) (rdata : List Byte) (s : State) : Host.Outcome State Fault Refusal :=
  match s.hk.i2cSlot with
  | none => .next s
  | some (_, _, w, r, _) =>
    if result ≠ 4 && i2cResultOk w.toNat r.toNat result.toNat index.toNat rdata.length then .next (s.i2cEnd result index rdata) else .next s

/-- I2C_TIMEOUT (R283, R398, R399): the target resets its state; the controller's transfer ends with RESULT 0x04. -/
def execI2cTimeout (target : Bool) (index : Byte) (rdata : List Byte) (s : State) : Host.Outcome State Fault Refusal :=
  if !s.hubUp then .next s
  else if target then .next { s with hk := { s.hk with timeouts := satInc s.hk.timeouts, tbusy := false, pointer := 0 } }
  else match s.hk.i2cSlot with
    | none => .next s
    | some (_, _, w, r, _) =>
      if i2cResultOk w.toNat r.toNat 4 index.toNat rdata.length then
        .next (State.i2cEnd { s with hk := { s.hk with timeouts := satInc s.hk.timeouts } } 4 index rdata)
      else .next s

end Sys2Proof.Machine
end

