-- ==== Sys2Proof/Machine/Peripherals.lean ====
section
/-! DEFINITION. The registers of the timers, strobe engines, converters, DACs and two-wire port (R282, R384, R385, R400), and the commands that reach
them (R281). Offsets are from 0x20_0000_0000. -/

namespace Sys2Proof.Machine

/-- What a register write comes to: written, refused for a reserved value or by a rule of the chapter, or no register there. -/
inductive RegEnd where
  | ok (s : State)
  | bad
  | none

/-- A code of R372 is an event. -/
def eventCode (c : Nat) : Bool := c < 0x5D

/-- A timer whose route would reach a cart that another timer reaches (R374). -/
def State.routeTaken (s : State) (t : TmrIx) (w : Word) : Bool :=
  bit w 31 && (List.finRange 16).any fun u => u ≠ t && (vget s.ts.tmr u).cart = some (finOf 32 (field w 28 24))

/-- Reads of a timer's registers (R384). -/
def State.tmrRead (s : State) (t : TmrIx) (r : Nat) : Option (Word × State) :=
  let x := vget s.ts.tmr t
  if r = 0x00 then some (setBit x.ctrl 31 x.run, s)
  else if r = 0x04 then some (x.reload, s)
  else if r = 0x08 then some (x.cnt, s)
  else if r = 0x0C then some (vget x.cmp 0, s)
  else if r = 0x10 then some (vget x.cmp 1, s)
  else if r = 0x14 then some (x.route, s)
  else if r = 0x18 then some (s.readCapture t)
  else if r = 0x1C then
    some (setBit (BitVec.ofNat 32 (x.cartMiss.toNat * 65536 + x.cap.length)) 3 x.ovf, s.onTmr t fun x => { x with cartMiss := 0 })
  else none

/-- TMR_CTRL written (R373, R384): an event that the timer no longer selects is not taken. -/
def Timer.writeCtrl (x : Timer) (w : Word) : Timer :=
  let y := { x with ctrl := w &&& 0x1FFFF800#32, run := x.run && !bit w 0 }
  { y with heard := y.heard && y.evSel = x.evSel && y.mode = x.mode, capHeard := if y.capSel = x.capSel then y.capHeard else 0 }

/-- Writes of a timer's registers (R373, R384). -/
def State.tmrWrite (s : State) (t : TmrIx) (r : Nat) (w : Word) : RegEnd :=
  let x := vget s.ts.tmr t
  if r = 0x00 then
    if field w 26 25 = 3 || !eventCode (field w 24 18) || !eventCode (field w 17 11) then .bad
    else .ok (s.onTmr t fun x => x.writeCtrl w)
  else if r = 0x04 then .ok (s.onTmr t fun x => { x with reload := w })
  else if r = 0x08 then .ok (if x.run then s.lockedWrite else s.onTmr t fun x => { x with cnt := w })
  else if r = 0x0C then .ok (s.onTmr t fun x => { x with cmp := vset x.cmp 0 w })
  else if r = 0x10 then .ok (s.onTmr t fun x => { x with cmp := vset x.cmp 1 w })
  else if r = 0x14 then
    if field w 30 29 = 3 || s.routeTaken t w then .bad else .ok (s.onTmr t fun x => { x with route := w &&& 0xFF000000#32 })
  else if r = 0x18 then .ok s
  else if r = 0x1C then .ok (s.onTmr t fun x => { x with ovf := x.ovf && !bit w 3 })
  else .none

/-- STB_STAT (R385). -/
def Engine.stat (x : Engine) : Word :=
  let w : Word := BitVec.ofNat 32 (x.state.toNat * 2 ^ 27 + x.tx.length * 2 ^ 21 + x.rx.length * 2 ^ 15)
  setBit (setBit (setBit (setBit w 3 x.irq) 2 x.wrfull) 1 x.overrun) 0 x.underrun

/-- Reads of an engine's registers. -/
def State.engRead (s : State) (e : EngIx) (r : Nat) : Option (Word × State) :=
  let x := vget s.ts.eng e
  if r = 0x00 then some (setBit x.ctrl 31 x.run, s)
  else if r = 0x04 then some (x.sel0, s)
  else if r = 0x08 then some (x.sel1, s)
  else if r = 0x0C then some (x.stat, s)
  else if r = 0x10 then some (0, s)
  else if r = 0x14 then some (s.readRx e)
  else none

/-- An engine with other inputs: an input that changes its source holds no pulse of the old one. -/
def Engine.select (x : Engine) (sel0 sel1 : Word) : Engine :=
  let y : Engine := { x with sel0 := sel0, sel1 := sel1 }
  { y with latch := (List.finRange 6).foldl (fun l i => if x.inCode i = y.inCode i then l else setBit l i.val false) y.latch }

/-- The codes of inputs in a selection word are all defined (R379). -/
def inputsOk (w : Word) (n : Nat) : Bool := (List.range n).all fun i => (w.extractLsb' (7 * i) 7).toNat < 0x5C

/-- Writes of an engine's registers: DIV and GROUP are locked while it runs. -/
def State.engWrite (s : State) (e : EngIx) (r : Nat) (w : Word) : RegEnd :=
  let x := vget s.ts.eng e
  if r = 0x00 then
    if field w 14 13 = 3 then .bad
    else
      let s := if x.run then s.lockedWrite else s
      let mask : Word := if x.run then 0x00007F00#32 else 0x00FFFF00#32
      let s := s.onEng e fun x => { x with ctrl := mergeMask mask x.ctrl w }
      .ok (if bit w 0 then s.pinEdges (s.onEng e Engine.stop) else s)
  else if r = 0x04 then if inputsOk w 4 then .ok (s.onEng e fun x => x.select (w &&& 0x0FFFFFFF#32) x.sel1) else .bad
  else if r = 0x08 then if inputsOk w 2 then .ok (s.onEng e fun x => x.select x.sel0 (w &&& 0x00003FFF#32)) else .bad
  else if r = 0x0C then
    .ok (s.onEng e fun x => { x with irq := x.irq && !bit w 3, wrfull := x.wrfull && !bit w 2, overrun := x.overrun && !bit w 1,
                                     underrun := x.underrun && !bit w 0 })
  else if r = 0x10 then .ok (s.onEng e fun x => x.push w)
  else if r = 0x14 then .ok s
  else .none

/-- The shared registers of the strobe engines, by offset from 0x20_000D_0000 (R385). -/
def State.stbRead_ (s : State) (o : Nat) : Option (Word × State) :=
  if o = 0x400 then some (0, s)
  else if o = 0x404 then
    some (setBit (BitVec.ofNat 32 (s.ts.swf.toNat * 2 ^ 24 + s.ts.preNs.toNat)) 16 s.ts.preLate, s)
  else if 0x500 ≤ o && o < 0x540 then some (vget s.ts.route (finOf 16 ((o - 0x500) / 4)), s)
  else none

/-- STB_GO and TMR_GO by their masks, as their rows do. -/
def State.goStb (s : State) (mask : Byte) : State := match execStbGo mask s with
  | .next t => t
  | _ => s

def State.goTmr (s : State) (mask : BitVec 16) : State := match execTmrGo mask s with
  | .next t => t
  | _ => s

def State.stbWrite_ (s : State) (o : Nat) (w : Word) : RegEnd :=
  if o = 0x400 then .ok (s.goStb (w.extractLsb' 0 8))
  else if o = 0x404 then
    .ok { s with ts := { s.ts with swf := w.extractLsb' 24 8, preLate := s.ts.preLate && !bit w 16, preNs := w.extractLsb' 0 16 } }
  else if 0x500 ≤ o && o < 0x540 then
    .ok (s.pinEdges { s with ts := { s.ts with route := vset s.ts.route (finOf 16 ((o - 0x500) / 4)) (w &&& 0x000001FF#32) } })
  else .none

/-- HK_STAT (R400). -/
def Conv.stat (c : Conv) : Word :=
  let w : Word := BitVec.ofNat 32 (c.injMiss.toNat * 65536)
  setBit (setBit (setBit (setBit (setBit w 4 c.calOk) 3 c.forced) 2 c.isOpen) 1 c.stale) 0 c.injDone

/-- Reads of a converter's registers (R400). -/
def State.convRead (s : State) (c : ConvIx) (r : Nat) : Option (Word × State) :=
  let x := vget s.hk.conv c
  if r = 0x000 then some (setBit x.ctrl 31 (!x.sampled.isEmpty), s)
  else if r = 0x004 then some (x.stat, s.onConv c fun x => { x with injMiss := 0 })
  else if r = 0x008 then some (x.injTb, s)
  else if 0x040 ≤ r && r < 0x090 then some (vget x.seq (finOf 20 ((r - 0x040) / 4)), s)
  else if 0x100 ≤ r && r < 0x140 then some (vget x.data (finOf 16 ((r - 0x100) / 4)), s)
  else if 0x180 ≤ r && r < 0x190 then some (vget x.injRes (finOf 4 ((r - 0x180) / 4)), s)
  else none

/-- HK_CTRL written (R388, R400): a disabled sequence ends its pass, an enabled one counts its ages from now. -/
def Conv.writeCtrl (c : Conv) (tb : Nat) (w : Word) : Conv :=
  let was := c.regEn
  let ev := c.injEv
  let c := { c with ctrl := w &&& 0x7FFFFFFF#32 }
  let c := if c.injEv = ev then c else { c with heard := 0 }
  if !c.regEn then { c with nextReg := none, passDue := false, passTb := none }
  else if !was then { c with entryTb := Vector.replicate 16 tb }
  else c

/-- Writes of a converter's registers. -/
def State.convWrite (s : State) (c : ConvIx) (r : Nat) (w : Word) : RegEnd :=
  if r = 0x000 then
    if !eventCode (field w 30 24) || field w 15 0 ≤ field w 20 17 then .bad
    else
      let s := s.onConv c fun x => x.writeCtrl s.tb w
      .ok (if (vget s.hk.conv c).regEn then s else s.refreshStale c)
  else if r = 0x004 then
    .ok (s.onConv c fun x => { x with forced := x.forced && !bit w 3, isOpen := x.isOpen && !bit w 2, injDone := x.injDone && !bit w 0 })
  else if 0x040 ≤ r && r < 0x090 then
    if field w 5 4 = 3 || (field w 5 4 ≠ 0 && 8 ≤ field w 3 0) then .bad
    else .ok (s.onConv c fun x => { x with seq := vset x.seq (finOf 20 ((r - 0x040) / 4)) (w &&& 0x00000FFF#32) })
  else if r = 0x008 || (0x100 ≤ r && r < 0x140) || (0x180 ≤ r && r < 0x190) then .ok s
  else .none

/-- DAC_CTRL (R400). -/
def Dac.word (d : Dac) : Word :=
  setBit (setBit (setBit (d.code.setWidth 32) 12 d.range) 30 (d.hold || d.slew)) 31 d.active

/-- I2C_STAT (R400). -/
def House.i2cStat (x : House) : Word :=
  setBit (setBit (BitVec.ofNat 32 (x.timeouts.toNat * 65536 + x.arbLost.toNat * 256)) 1 x.tbusy) 0 x.i2cSlot.isSome

/-- A read of a peripheral register at an offset from 0x20_0000_0000: its value and its side effect; none where no register is. -/
def State.periphRead (s : State) (o : Nat) : Option (Word × State) :=
  if o % 4 ≠ 0 then none
  else if 0xC0000 ≤ o && o < 0xC0400 then s.tmrRead (finOf 16 ((o - 0xC0000) / 0x40)) (o % 0x40)
  else if o = 0xC0400 then some (0, s)
  else if 0xD0000 ≤ o && o < 0xD0200 then s.engRead (finOf 8 ((o - 0xD0000) / 0x40)) (o % 0x40)
  else if 0xD0400 ≤ o && o < 0xD0600 then s.stbRead_ (o - 0xD0000)
  else if 0xE0000 ≤ o && o < 0xE0400 then s.convRead (finOf 2 ((o - 0xE0000) / 0x200)) (o % 0x200)
  else if o = 0xE0400 then some (s.hk.chk, s)
  else if 0xE0800 ≤ o && o < 0xE0810 then some ((vget s.hk.dac (finOf 4 ((o - 0xE0800) / 4))).word, s)
  else if o = 0xF0000 then some (s.hk.i2cCfg, s)
  else if o = 0xF0004 then some (s.hk.i2cStat, { s with hk := { s.hk with timeouts := 0, arbLost := 0 } })
  else none

/-- A write of a peripheral register. -/
def State.periphWrite (s : State) (o : Nat) (w : Word) : RegEnd :=
  if o % 4 ≠ 0 then .none
  else if 0xC0000 ≤ o && o < 0xC0400 then s.tmrWrite (finOf 16 ((o - 0xC0000) / 0x40)) (o % 0x40) w
  else if o = 0xC0400 then .ok (s.goTmr (w.extractLsb' 0 16))
  else if 0xD0000 ≤ o && o < 0xD0200 then s.engWrite (finOf 8 ((o - 0xD0000) / 0x40)) (o % 0x40) w
  else if 0xD0400 ≤ o && o < 0xD0600 then s.stbWrite_ (o - 0xD0000) w
  else if 0xE0000 ≤ o && o < 0xE0400 then s.convWrite (finOf 2 ((o - 0xE0000) / 0x200)) (o % 0x200) w
  else if o = 0xE0400 then
    .ok { s with hk := { s.hk with chk := (w &&& 0x800F0FFF#32) ||| (if bit w 30 then 0 else s.hk.chk &&& 0x40000000#32) } }
  else if 0xE0800 ≤ o && o < 0xE0810 then
    .ok (s.dacWrite (finOf 4 ((o - 0xE0800) / 4)) (bit w 12) (w.extractLsb' 0 12))
  else if o = 0xF0000 then
    if field w 31 30 = 3 then .bad else .ok { s with hk := { s.hk with i2cCfg := w &&& 0xFFE00000#32 } }
  else if o = 0xF0004 then .ok s
  else .none

/-- The offset that BLOCK, UNIT and REG name (R281, R282, R384, R385): the shared registers are those of UNIT 0 from REG 0x400. R385 says so of the strobe
engines; TMR_GO and HK_CHK are reached in the same way: DEDUCED (log entry 94). -/
def periphAt (block unit reg : Nat) : Option Nat :=
  let inUnit (base units size : Nat) : Option Nat := if unit < units && reg < size then some (base + size * unit + reg) else none
  let shared (base : Nat) : Option Nat := if unit = 0 && 0x400 ≤ reg && reg < 0x800 then some (base + reg) else none
  if block = 1 then (inUnit 0xC0000 16 0x40).or (shared 0xC0000)
  else if block = 2 then (inUnit 0xD0000 8 0x40).or (shared 0xD0000)
  else if block = 3 then (inUnit 0xE0000 2 0x200).or (shared 0xE0000)
  else if block = 4 then inUnit 0xE0800 4 4
  else if block = 5 then inUnit 0xF0000 1 8
  else none

/-- PERIPH_SET (R281). -/
def periphSetRun (block unit : Byte) (reg : BitVec 16) (value : Word) : Run := fun _ s =>
  match periphAt block.toNat unit.toNat reg.toNat with
  | none => fail stBadParam s
  | some o => match s.periphWrite o value with
    | .ok t => ok [] t
    | .bad => fail stBadParam s
    | .none => fail stBadParam s

def execPeriphSet (slot : Slot) (h : CmdHeader) (block unit : Byte) (reg : BitVec 16) (value : Word) (s : State) : Host.Outcome State Fault Refusal :=
  s.command { slot := slot, op := 0x0A00, h := h, payload := [block, unit] ++ bytesBe 2 reg.toNat ++ bytesBe 4 value.toNat, bulk := [] }
    gateI (periphSetRun block unit reg value)

/-- PERIPH_GET (R281): with the side effects of the read. -/
def periphGetRun (block unit : Byte) (reg : BitVec 16) : Run := fun _ s =>
  match (periphAt block.toNat unit.toNat reg.toNat).bind fun o => s.periphRead o with
  | some (v, t) => ok (bytesBe 4 v.toNat) t
  | none => fail stBadParam s

def execPeriphGet (slot : Slot) (h : CmdHeader) (block unit : Byte) (reg : BitVec 16) (s : State) : Host.Outcome State Fault Refusal :=
  s.command { slot := slot, op := 0x0A01, h := h, payload := [block, unit] ++ bytesBe 2 reg.toNat, bulk := [] }
    { gateO with exempt := true } (periphGetRun block unit reg)

/-- PERIPH_GO (R281): a MASK of STB_GO names engines 0–7. -/
def periphGoRun (block : Byte) (mask : BitVec 16) : Run := fun _ s =>
  if block = 1 then ok [] (s.goTmr mask)
  else if block = 2 then if mask.toNat < 256 then ok [] (s.goStb (mask.extractLsb' 0 8)) else fail stBadParam s
  else fail stBadParam s

def execPeriphGo (slot : Slot) (h : CmdHeader) (block : Byte) (mask : BitVec 16) (s : State) : Host.Outcome State Fault Refusal :=
  s.command { slot := slot, op := 0x0A02, h := h, payload := [block] ++ bytesBe 2 mask.toNat, bulk := [] } gateO (periphGoRun block mask)

end Sys2Proof.Machine
end

