-- ==== Sys2Proof/Machine/Doorbell.lean ====
section
/-! DEFINITION. The doorbells: a command read from its slot and sub-window, and served (R263–R268, R271–R281). -/

namespace Sys2Proof.Machine

/-- Byte `i` of a payload, and the number in its `n` bytes from `i`, most significant first (R265). -/
def arg (p : List Byte) (i : Nat) : Byte := p.getD i 0
def num (p : List Byte) (i n : Nat) : Nat := natBe ((p.drop i).take n)
def arg16 (p : List Byte) (i : Nat) : BitVec 16 := BitVec.ofNat 16 (num p i 2)
def arg32 (p : List Byte) (i : Nat) : Word := BitVec.ofNat 32 (num p i 4)
def arg40 (p : List Byte) (i : Nat) : BitVec 40 := BitVec.ofNat 40 (num p i 5)
def arg48 (p : List Byte) (i : Nat) : BitVec 48 := BitVec.ofNat 48 (num p i 6)

/-- LEN is exact, and BULK_LEN is 0 (R266, step 7). -/
def exact (p bulk : List Byte) (n : Nat) (run : Run) : Run := if p.length = n && bulk.isEmpty then run else fun _ s => fail stBadParam s

/-- LEN is exact of a command whose role or mode depends on its state or parameters: those come before it (R266). -/
def exactAfter (early : Option Session → State → Option Byte) (p bulk : List Byte) (n : Nat) (run : Run) : Run :=
  if p.length = n && bulk.isEmpty then run else fun ses s => fail ((early ses s).getD stBadParam) s

/-- LEN is exact, of a command with bulk data. -/
def exactBulk (p : List Byte) (n : Nat) (run : Run) : Run := if p.length = n then run else fun _ s => fail stBadParam s

/-- A parameter that no value of is in range. -/
def badRun : Run := fun _ s => fail stBadParam s

def gateOX : Gate := { gateO with exempt := true }

/-- The commands of the system and object groups (R268, R272). -/
def systemPost (s : State) (slot : Slot) (op : Nat) (p bulk : List Byte) : Option (Gate × Run) :=
  match op with
  | 0x0100 => some ({ gateAny with exempt := true, fail := 1 }, if bulk.isEmpty then nopRun p else badRun)
  | 0x0101 => some ({ gateAny with exempt := true, fail := 1 }, exact p bulk 0 identifyRun)
  | 0x0102 => some ({ gateAny with exempt := true }, exact p bulk 0 getStatusRun)
  | 0x0103 => some (gateI, exact p bulk 0 fwRestartRun)
  | 0x0104 => some ({ gateI with modes := fun m => m = .standby }, exact p bulk 0 shipModeRun)
  | 0x0110 => some (s.objGate slot false, exactBulk p 4 (objChunkRun slot (arg32 p 0) bulk))
  | 0x0111 => some (s.objGate slot true, exact p bulk 0 (objEndRun slot))
  | 0x0112 => some ({ s.objGate slot false with modes := allModes }, exact p bulk 0 (objAbortRun slot))
  | _ => none

/-- The mode, context, tick and calibration groups (R273–R275). -/
def modePost (s : State) (slot : Slot) (h : CmdHeader) (op : Nat) (p bulk : List Byte) : Option (Gate × Run) :=
  let a := arg p
  match op with
  | 0x0200 =>
    some (s.modeGate (a 0), exactAfter (fun ses s => s.modeEarly slot (a 0) (a 1) (a 2) ses) p bulk 9 (modeSetRun slot h (a 0) (a 1) (a 2) (arg48 p 3)))
  | 0x0201 => some (gateI, exact p bulk 51 (ctxSetRun slot (a 0) (arg16 p 1) (Vector.ofFn fun i => arg32 p (3 + 4 * i.val))))
  | 0x0202 => some (gateOX, exact p bulk 2 (ctxGetRun slot (a 0) (a 1)))
  | 0x0203 => some (gateO, exact p bulk 7 (ctxScheduleRun slot (a 0) (arg48 p 1)))
  | 0x0204 => some (gateO, exact p bulk 1 (ctxCancelRun slot (a 0)))
  | 0x0205 => some (gateI, exact p bulk 2 (ctxStoreRun slot (a 0) (a 1)))
  | 0x0206 => some (gateO, exact p bulk 2 (ctxLoadRun slot (a 0) (a 1)))
  | 0x0207 => some ({ gateI with modes := modesSR }, exact p bulk 12 (tickSetRun (a 0) (a 1) (a 2) (a 3) (arg32 p 4) (a 8) (a 9) (arg16 p 10)))
  | 0x0208 => some (gateI, exact p bulk 4 (ratioSetRun (arg32 p 0)))
  | 0x0209 => some ({ gateI with modes := modesSR }, exact p bulk 5 (encSetRun (a 0) (a 1) (a 2) (a 3) (a 4)))
  | 0x0300 => some (gateI, exact p bulk 11 (calBeginRun slot (a 0) (a 1) (a 2) (arg32 p 3) (arg32 p 7)))
  | 0x0301 => some ({ gateI with modes := fun m => m = .ready || m = .maint }, exact p bulk 9 (calCaptureRun slot (arg32 p 0) (arg40 p 4)))
  | 0x0302 => some (gateOX, exact p bulk 1 (calStatusRun (a 0)))
  | 0x0400 => some (gateString, exact p bulk 9 (stringSetRun (a 0) (arg32 p 1) (arg16 p 5) (arg16 p 7)))
  | 0x0401 => some (gateString, exactAfter (fun _ s => s.formEarly) p bulk 0 stringFormRun)
  | 0x0402 => some (gateString, exact p bulk 0 stringLeaveRun)
  | 0x0403 => some (gateOX, exact p bulk 0 stringStatusRun)
  | _ => none

/-- The bays and kernels and the ports and streams groups (R276, R277). -/
def bayPost (slot : Slot) (op : Nat) (p bulk : List Byte) : Option (Gate × Run) :=
  let a := arg p
  match op with
  | 0x0500 => some (gateI, exact p bulk 19 (kernBeginRun slot (a 0) (arg40 p 1) (arg40 p 6) (arg32 p 11) (arg32 p 15)))
  | 0x0501 => some (gateI, exact p bulk 7 (asSetRun (a 0) (arg40 p 1) (a 6)))
  | 0x0502 => some (gateI, exactBulk p 5 (memWriteRun (arg40 p 0) bulk))
  | 0x0503 => some (gateI, exact p bulk 7 (memReadRun (arg40 p 0) (arg16 p 5)))
  | 0x0504 => some (gateI, exact p bulk 7 (tlbInvRun (a 0) (a 1) (arg40 p 2)))
  | 0x0505 => some ({ gateI with modes := modesSRM }, exact p bulk 1 (jobSetRun (a 0)))
  | 0x0506 => some (gateI, exact p bulk 4 (djFillRun (a 0) (a 1) (a 2) (a 3)))
  | 0x0507 =>
    some (gateO, exact p bulk 3 (if a 2 = 0 then djResumeRun (a 0) (a 1) else if a 2 = 1 then djDiscardRun (a 0) (a 1) else badRun))
  | 0x0508 => some (gateI, exact p bulk 2 (cartSetRun (a 0) (a 1)))
  | 0x0509 =>
    some (gateO, exact p bulk 2
      (if a 1 = 0 then cartCtrlRun (a 0) State.cartResume else if a 1 = 1 then cartCtrlRun (a 0) State.cartAbort else badRun))
  | 0x050A => some (gateO, exact p bulk 1 (faultReadRun (a 0)))
  | 0x0600 => some (gateI, exact p bulk 5 (portSetRun (a 0) (a 1) (a 2) (arg16 p 3)))
  | 0x0601 => some ({ gateO with modes := fun m => m = .ready || m.streaming }, exact p bulk 1 (portStartRun (a 0)))
  | 0x0602 => some (gateO, exact p bulk 1 (portStopRun (a 0)))
  | 0x0603 => some (gateI, exact p bulk 6 (laneSetRun (a 0) (a 1) (a 2) (a 3) (a 4) (a 5)))
  | 0x0604 => some (gateI, exact p bulk 4 (streamSetRun (a 0) (a 1) (a 2) (a 3)))
  | 0x0605 => some (gateO, exact p bulk 2 (streamEnableRun (a 0) (a 1)))
  | 0x0606 => some (gateOX, exact p bulk 1 (portStatusRun (a 0)))
  | _ => none

/-- The security, firmware and fuse, and telemetry groups (R278–R280). -/
def tackPost (slot : Slot) (op : Nat) (p bulk : List Byte) : Option (Gate × Run) :=
  let a := arg p
  match op with
  | 0x0700 => some ({ gateAny with fail := 1 }, exact p bulk 2 (authChallengeRun slot (a 0) (a 1)))
  | 0x0701 => some ({ gateAny with audited := true, fail := 1 }, exact p bulk 96 (authResponseRun slot (BitVec.ofNat 768 (num p 0 96))))
  | 0x0702 => some ({ gateAny with role := 4, audited := true, fail := 1 }, exact p bulk 0 (sessionEndRun slot))
  | 0x0703 => some (gateKeys (a 0), exact p bulk 99 (enrolRun slot (a 0) (a 1) (BitVec.ofNat 776 (num p 2 97))))
  | 0x0704 => some (gateKeys (a 0), exact p bulk 2 (revokeRun slot (a 0) (a 1)))
  | 0x0705 => some (gateI, exact p bulk 104 (timeSetRun slot (BitVec.ofNat 64 (num p 0 8)) (BitVec.ofNat 768 (num p 8 96))))
  | 0x0706 => some ({ gateI with modes := modesSR }, exactBulk p 0 (sealExportRun slot bulk))
  | 0x0707 => some (gateI, exact p bulk 0 (zeroizeRun slot))
  | 0x0708 => some (gateM, exact p bulk 0 (debugUnlockRun slot))
  | 0x0800 => some ({ gateM with fail := 2 }, exact p bulk 9 (fwBeginRun slot (a 0) (arg32 p 1) (arg32 p 5)))
  | 0x0801 => some ({ gateM with fail := 2 }, exact p bulk 1 (fwActivateRun slot (a 0)))
  | 0x0802 => some (gateOX, exact p bulk 1 (fuseReadRun (a 0)))
  | 0x0803 => some (gateM, exact p bulk 2 (fuseProgramRun slot (a 0) (a 1)))
  | 0x0804 => some ({ gateI with modes := modesM }, exact p bulk 2 (fuseInstRun slot (arg16 p 0)))
  | 0x0805 => some (gateOX, exact p bulk 0 nvmStatusRun)
  | 0x0900 => some (gateOX, exact p bulk 0 telemReadRun)
  | 0x0901 => some (gateOX, exact p bulk 5 (logReadRun (arg32 p 0) (a 4)))
  | 0x0902 => some (gateOX, exact p bulk 3 (auditReadRun (arg16 p 0) (a 2)))
  | _ => none

/-- The peripherals group (R281). -/
def periphPost (slot : Slot) (op : Nat) (p bulk : List Byte) : Option (Gate × Run) :=
  let a := arg p
  match op with
  | 0x0A00 => some (gateI, exact p bulk 8 (periphSetRun (a 0) (a 1) (arg16 p 2) (arg32 p 4)))
  | 0x0A01 => some (gateOX, exact p bulk 4 (periphGetRun (a 0) (a 1) (arg16 p 2)))
  | 0x0A02 => some (gateO, exact p bulk 3 (periphGoRun (a 0) (arg16 p 1)))
  | 0x0A03 => some (gateI, exact p bulk 9 (strobeBeginRun slot (a 0) (arg32 p 1) (arg32 p 5)))
  | 0x0A04 => some (gateO, exact p bulk 4 (dacSetRun (a 0) (a 1) (arg16 p 2)))
  | 0x0A05 => some (gateI, if 3 ≤ p.length && bulk.isEmpty then i2cXferRun slot (a 0) (a 1) (a 2) (p.drop 3) else badRun)
  | 0x0A06 => some (gateOX, exact p bulk 2 (hkReadRun (a 0) (a 1)))
  | _ => none

/-- What an opcode asks for; none for an opcode that is not defined (R266, step 1). -/
def State.posted (s : State) (c : Cmd) : Option (Gate × Run) :=
  let op := c.op.toNat
  let g := op / 256
  if g = 0x01 then systemPost s c.slot op c.payload c.bulk
  else if g ≤ 0x04 then modePost s c.slot c.h op c.payload c.bulk
  else if g ≤ 0x06 then bayPost c.slot op c.payload c.bulk
  else if g ≤ 0x09 then tackPost c.slot op c.payload c.bulk
  else periphPost c.slot op c.payload c.bulk

/-- The command in a slot and its sub-window (R265). -/
def HostPort.command (p : HostPort) (slot : Slot) : Cmd :=
  let a := slotAddr slot
  let n (o k : Nat) : Nat := natBe (hostGets p.bytes (a + o) k)
  { slot := slot, op := BitVec.ofNat 16 (n 0x00 2), payload := hostGets p.bytes (a + 0x20) (n 0x04 2),
    bulk := hostGets p.bytes (bulkAddr slot) (n 0x10 2),
    h := { tag := BitVec.ofNat 16 (n 0x02 2), flags := BitVec.ofNat 16 (n 0x06 2), session := BitVec.ofNat 32 (n 0x08 4),
           status := BitVec.ofNat 8 (n 0x0C 1), elapsed := BitVec.ofNat 32 (n 0x14 4),
           reserved := BitVec.ofNat 104 (n 0x0D 3 * 2 ^ 80 + n 0x12 2 * 2 ^ 64 + n 0x18 8) } }

/-- A rung slot is served (R266): BUSY_BOOT comes before the opcode. -/
def State.serve (s : State) (slot : Slot) : State :=
  let c := s.host.command slot
  match s.posted c with
  | some (g, run) => s.accept c g run
  | none => s.answer slot (if s.host.phase = 5 then stBadOpcode else stBusyBoot) []

/-- RING written (R263, R264, R266, R423): slots already owned are left, the others are served lowest first, or wait while the control
processor is halted. A slot that a restart asked for by a lower one has answered is done with (R285, R287). -/
def State.ring (s : State) (mask : BitVec 16) : State :=
  let new := (List.finRange 16).filter fun k => bit mask k.val && !bit s.host.ring k.val
  let s := { s with host := new.foldl (fun h k => h.rung k s.tb) s.host }
  if s.dbg.cpHalted then { s with host := { s.host with order := s.host.order ++ new } }
  else new.foldl (fun s k => if bit s.host.ring k.val then s.serve k else s) s

/-- A command that waited for the end of a pause (R305) goes on where it stood: the checks up to its service had passed. -/
def State.resumeTack (s : State) (slot : Slot) : State :=
  match vget s.host.waits slot, s.posted (s.host.command slot) with
  | some (.paused ses), some (g, run) =>
    let s := { s with host := { s.host with waits := vset s.host.waits slot none } }
    (run ses s).finish slot s (g.audited && s.logFull)
  | _, _ => s

/-- TAMPER_PAUSE_END (R305, R309): cryptographic services resume: the openings and signatures of seals first, then the commands that waited, in the order of
acceptance. -/
def execTamperPauseEnd (s : State) : Host.Outcome State Fault Refusal :=
  if !s.tack.paused then .next s
  else
    let slots := s.tack.waiting
    let s := State.sealsAfterPause { s with tack := { s.tack with paused := false, waiting := [] } }
    .next (slots.foldl State.resumeTack s)

/-- MBX_DOORBELL (R260, R263, R264): written by the host. -/
def execMbxDoorbell (ring : BitVec 16) (s : State) : Host.Outcome State Fault Refusal :=
  let s := s.newStep
  if s.host.phase = 0 then .next s
  else if s.host.phase = 1 || s.host.phase = 2 then .next s.ignoredWrite
  else .next (s.ring ring)

end Sys2Proof.Machine
end

