-- ==== Sys2Proof/Machine/Watchdog.lean ====
section
/-! DEFINITION. The watchdog: its keys, its window and its expiry (R406–R411), and the scope of the debug port (R421). -/

namespace Sys2Proof.Machine

/-- SCOPE of DBG_CTRL (R421): 0 none, 1 bays, 2 full. -/
def State.debugScope (s : State) : Nat :=
  if s.host.phase = 0 then 0
  else if s.debugPolicy = 0 then 2
  else if s.debugPolicy = 2 then 0
  else if s.dbg.unlocked.isSome then 2
  else if s.tack.sessions.toList.any fun x => match x with
    | some y => decide (2 ≤ y.role.toNat)
    | none => false then 1
  else 0

/-- The watchdog runs: it is not disabled, and the device is out of reset (R406, R410). -/
def State.wdtRuns (s : State) : Bool := !s.wdt.disabled && s.host.phase ≠ 0

/-- An expiry (R411): the evidence is latched, class WDT reports, and the control processor restarts. -/
def State.wdtExpire (s : State) (cause : Byte) : State :=
  let w := { s.wdt with evidPc := if s.dbg.cpHalted then vget s.dbg.cpRegs 32 else Config.cpPc s.flt.restarts.toNat, evidLine := s.wdt.serviceLine }
  let w := { w with evidRtc := s.wdt.serviceRtc, evidValid := true, evidCause := cause }
  State.raiseRestart { s with wdt := w } .wdt cause

/-- A service (R407, R408): the count restarts with the period and clock of the register, the window closes. -/
def State.wdtServe (s : State) : State :=
  let w := { s.wdt with isOpen := false, armed := false, runPeriodMs := s.wdt.periodMs, runClkTb := s.wdt.clkTb }
  { s with wdt := { w with serviceLine := s.lineCnt, serviceRtc := BitVec.ofNat 63 s.bkp.rtc } }

/-- A write of WDT_KEY (R407). -/
def State.wdtKey (s : State) (key : BitVec 16) : State :=
  if !s.wdtRuns then s.lockedWrite
  else if !s.wdt.isOpen then s.wdtExpire 2
  else if key = 0x5A3C then { s with wdt := { s.wdt with armed := true } }
  else if key = 0xC3A5 && s.wdt.armed then s.wdtServe
  else s.wdtExpire 3

/-- A disable is allowed (R410): while the boot ROM runs, in MAINT or under test access, and WDT_LOCK is 0. -/
def State.mayDisable (s : State) : Bool :=
  (s.host.phase = 1 || s.host.phase = 2 || s.host.phase = 3 || s.host.phase = 7 || s.mode.mode = .maint || s.debugScope = 2)
    && !bit (vget s.fuse.shadow 0x18) 2

/-- A write of WDT_DIS (R410): the second key follows the first within 100 µs; any other write is ignored and counted. -/
def State.wdtDis (s : State) (key : BitVec 16) : State :=
  if !s.mayDisable then State.lockedWrite { s with wdt := { s.wdt with disFirst := false } }
  else if key = 0x6B1E then { s with wdt := { s.wdt with disFirst := true, disTb := s.tb } }
  else if key = 0xE1B6 && s.wdt.disFirst && s.tb ≤ s.wdt.disTb + 100000 then
    { s with wdt := { s.wdt with disFirst := false, disabled := true, isOpen := false, armed := false } }
  else State.lockedWrite { s with wdt := { s.wdt with disFirst := false } }

/-- A write of WDT_CTRL (R408): in the open window alone. -/
def State.wdtCtrl (s : State) (w : Word) : State :=
  let p := field w 13 0
  if !(s.wdtRuns && s.wdt.isOpen) then s.lockedWrite
  else if p = 0 || 16000 < p then s.report .config
  else { s with wdt := { s.wdt with periodMs := BitVec.ofNat 14 p, clkTb := bit w 28 } }

/-- WDT_ARM: 0x5A3C is written to WDT_KEY. -/
def execWdtArm (s : State) : Host.Outcome State Fault Refusal := .next (if s.host.phase = 0 then s else s.wdtKey 0x5A3C)

/-- WDT_SERVICE: 0xC3A5 is written to WDT_KEY. -/
def execWdtService (s : State) : Host.Outcome State Fault Refusal := .next (if s.host.phase = 0 then s else s.wdtKey 0xC3A5)

/-- WDT_DISARM (R407): 100 µs have passed without the second key. -/
def execWdtDisarm (s : State) : Host.Outcome State Fault Refusal := .next { s with wdt := { s.wdt with armed := false } }

/-- WDT_WINDOW_OPEN (R406): the fused fraction of the running period has passed. -/
def execWdtWindowOpen (s : State) : Host.Outcome State Fault Refusal :=
  .next (if s.wdtRuns then { s with wdt := { s.wdt with isOpen := true } } else s)

/-- WDT_EXPIRY (R406, R407, R411): the period ends. -/
def execWdtExpiry (s : State) : Host.Outcome State Fault Refusal := .next (if s.wdtRuns then s.wdtExpire 1 else s)

/-- WDT_CLKSTOP (R409): the selected clock has shown no edge for 10 µs. -/
def execWdtClkstop (s : State) : Host.Outcome State Fault Refusal := .next (if s.wdtRuns then s.wdtExpire 4 else s)

/-- WDT_DISABLE (R410): the two keys are written to WDT_DIS within 100 µs. -/
def execWdtDisable (first second : BitVec 16) (s : State) : Host.Outcome State Fault Refusal :=
  .next (if s.host.phase = 0 then s else (s.wdtDis first).wdtDis second)

end Sys2Proof.Machine
end

