-- ==== Sys2Proof/Machine/Resets.lean ====
section
/-! DEFINITION. Per-function reset (R219, R243, R414–R416). -/

namespace Sys2Proof.Machine

/-- BUSY of a function. -/
def State.setBusy (s : State) (fn : Fin 13) (b : Bool) : State :=
  { s with flt := { s.flt with pfrBusy := setBit s.flt.pfrBusy fn.val b } }

/-- A bay in reset (R219, R415): its line jobs end with their markers, a deep job on it is lost, its caches and TLB are empty and a debug halt
has ended. -/
def State.resetBay (s : State) (b : BayIx) : State :=
  let y := s.getBay b
  let lose (j : Fin 4) : State := s.onBay b fun y => y.onSlot j fun d => { d with state := .lost }
  let s := match y.work with
    | .line j => s.endLineJob b j
    | .deep j | .saving j _ => lose j
    | .restoring _ | .idle | .reset => s
  let s := y.queue.foldl (fun s j => s.marker b j (BitVec.ofNat 16 j.kslot.val)) s
  let s := if s.dbg.baySel = b && y.halted then { s with dbg := { s.dbg with bayWhy := .none, bayIdx := 0 } } else s
  s.onBay b fun y => { y with work := .reset, regs := JobRegs.zero, queue := [], cyc := 0, cycHi := 0, halted := false, skipBrk := false,
                              tlb := [], code := [] }

/-- The bays that F6 names: all of them, or those of a shed. -/
def State.pfrBays (s : State) (oneShed : Bool) (shed : Fin 16) : State :=
  ((List.finRange 128).filter fun b => s.hasBay b && (!oneShed || b.val / 8 = shed.val)).foldl (fun s b => s.resetBay b) s

/-- A cart in reset (R219, R415): the record of a running one, whose job ends; the queue is discarded, OWNER stays. POINT is free among the three
that a cart's record has (R217). -/
def State.resetCart (s : State) (q : CartIx) : State :=
  let c := s.getCart q
  let s := match c.state, c.queue with
    | .running, d :: _ =>
      let x := Config.cartReset s.det.fltRecords.toNat
      let f := AccFault.of .reset (x.extractLsb' 8 40)
      let point := BitVec.ofNat 8 (4 + (x.extractLsb' 0 8).toNat % 3)
      (s.faultRecord (cartRec q d c.prog point f)).endPoster d.poster
    | _, _ => s
  s.onCart q fun c => { Cart.reset with owner := c.owner, state := .reset }

def State.pfrCarts (s : State) : State :=
  let s := (List.finRange 32).foldl (fun s q => s.resetCart q) s
  { s with det := { s.det with cartTlb := Vector.replicate 4 [] } }

/-- The strobe engines in reset (R382, R415): every register of theirs, the LUTs kept. -/
def State.pfrStrobes (s : State) : State :=
  { s with ts := { s.ts with eng := s.ts.eng.map fun e => { Engine.reset with lut := e.lut }, swf := 0, preLate := false, preNs := 0,
                             route := Vector.replicate 16 0 } }

/-- The converters and DACs in reset (R394, R415). -/
def State.pfrHouse (s : State) : State :=
  State.setStale { s with hk := { s.hk with
    conv := Vector.replicate 2 Conv.reset, chk := House.reset.chk, chkSlot := none, checkPair := Vector.replicate 2 none,
    dac := Vector.replicate 4 Dac.reset } } 8 false

/-- The two-wire port in reset (R270, R415): a transfer that runs answers HW_FAULT, which the fault summary records (log entry 101). -/
def State.pfrI2c (s : State) : State :=
  let s := match s.hk.i2cSlot with
    | some (slot, _) => if vget s.host.waits slot = some Wait.i2c then (s.report .config).answer slot stHwFault [] else s
    | none => s
  { s with hk := { s.hk with i2cSlot := none, tbusy := false, pointer := 0, i2cCfg := House.reset.i2cCfg } }

/-- The sync transceivers in reset (R131, R132, R415): a follower is LOST, a leader has lost its followers; a follower not yet locked
begins again, and PLL-A goes back to REFCLK (R355). -/
def State.pfrSync (s : State) : State :=
  let s := s.syncLose
  let s := if s.role = 2 then s.switchRef false else s
  let s := if s.role = 1 then s.onSync fun y => y.loseFrom 1 else s
  let back : SyncState := if s.sync.state = .lost then .lost else if s.role = 2 then .down else s.sync.state
  s.onSync fun y => { y with upLock := false, downLock := false, t1 := none, thetas := [], delays := [], state := back }

/-- What a function's reset does (R415). -/
def State.pfrEffect (s : State) (fn : Fin 13) (oneShed : Bool) (shed : Fin 16) : State :=
  match fn with
  | 0 => s.restart 5
  | 1 => s.pfrPort 0
  | 2 => s.pfrPort 1
  | 3 => s.pfrPort 2
  | 4 => s.pfrPort 3
  | 5 => { s with groom := { s.groom with resetDue := true } }
  | 6 => s.pfrBays oneShed shed
  | 7 => s.pfrCarts
  | 8 => s
  | 9 => s.pfrStrobes
  | 10 => s.pfrHouse
  | 11 => s.pfrI2c
  | 12 => s.pfrSync

/-- The function or shed is absent on the variant (R14, R414). -/
def State.pfrAbsent (s : State) (fn : Fin 13) (oneShed : Bool) (shed : Fin 16) : Bool :=
  s.isSmall && (fn = 3 || fn = 4 || (fn = 6 && oneShed && 8 ≤ shed.val))

/-- A reset asked for with the right key (R414): ignored while the function is BUSY, and counted where the unit is absent. -/
def State.pfr (s : State) (fn : Fin 13) (oneShed : Bool) (shed : Fin 16) : State :=
  if bit s.flt.pfrBusy fn.val || s.host.phase = 0 then s
  else if s.pfrAbsent fn oneShed shed then s.lockedWrite
  else (s.setBusy fn true).pfrEffect fn oneShed shed

/-- A write of PFR_CTRL (R414, R417). -/
def State.pfrWrite (s : State) (w : Word) : State :=
  if field w 31 24 ≠ 0xB7 then s.lockedWrite
  else if 12 < field w 23 20 then s.report .config
  else s.pfr (finOf 13 (field w 23 20)) (bit w 19) (finOf 16 (field w 18 15))

def execPfrF0 (s : State) : Host.Outcome State Fault Refusal := .next (s.pfr 0 false 0)
def execPfrPort (p : PortIx) (s : State) : Host.Outcome State Fault Refusal := .next (s.pfr (finOf 13 (1 + p.val)) false 0)
def execPfrGrooming (s : State) : Host.Outcome State Fault Refusal := .next (s.pfr 5 false 0)
def execPfrBays (oneShed : Bool) (shed : Fin 16) (s : State) : Host.Outcome State Fault Refusal := .next (s.pfr 6 oneShed shed)
def execPfrCarts (s : State) : Host.Outcome State Fault Refusal := .next (s.pfr 7 false 0)
def execPfrHbm (s : State) : Host.Outcome State Fault Refusal := .next (s.pfr 8 false 0)
def execPfrStrobes (s : State) : Host.Outcome State Fault Refusal := .next (s.pfr 9 false 0)
def execPfrHousekeeping (s : State) : Host.Outcome State Fault Refusal := .next (s.pfr 10 false 0)
def execPfrI2c (s : State) : Host.Outcome State Fault Refusal := .next (s.pfr 11 false 0)
def execPfrSync (s : State) : Host.Outcome State Fault Refusal := .next (s.newStep.pfr 12 false 0)

/-- The bays and the carts go on when their reset ends. -/
def State.freeBays (s : State) : State :=
  ((List.finRange 128).filter fun b => (s.getBay b).work = .reset).foldl
    (fun s b => (s.onBay b fun y => { y with work := .idle }).startNext b) s

def State.freeCarts (s : State) : State :=
  { s with det := { s.det with carts := s.det.carts.map fun c => if c.state = .reset then { c with state := .idle } else c } }

/-- A port's reset ends (R243, R415): with START = 1 the start sequence follows, and BUSY goes on until it has ended. -/
def State.releasePort (s : State) (p : PortIx) : State :=
  let q := s.getPort p
  let t := s.setBusy (finOf 13 (1 + p.val)) false
  if !s.portInReset p then s
  else if bit q.cfg 31 || q.stopAsked then
    ((t.askStart p).onPort p fun x => x.setStart (!q.stopAsked)).setBusy (finOf 13 (1 + p.val)) true
  else t

/-- A function is back in service (R243, R415). -/
def State.pfrRelease (s : State) (fn : Fin 13) : State :=
  match fn with
  | 1 => s.releasePort 0
  | 2 => s.releasePort 1
  | 3 => s.releasePort 2
  | 4 => s.releasePort 3
  | 6 => (s.setBusy fn false).freeBays
  | 7 => (s.setBusy fn false).freeCarts
  | 0 | 5 | 8 | 9 | 10 | 11 | 12 => s.setBusy fn false

/-- PFR_DONE (R415): F0 is back at PHASE READY, F5 once the LP it takes effect in has begun. -/
def execPfrDone (fn : Fin 13) (s : State) : Host.Outcome State Fault Refusal :=
  let early : Bool := (fn = 0 && s.host.phase ≠ 5) || (fn = 5 && s.groom.resetDue)
  if !bit s.flt.pfrBusy fn.val || early then .next s else .next (s.pfrRelease fn)

end Sys2Proof.Machine
end

