-- ==== Sys2Proof/Machine/HostRows.lean ====
section
/-! DEFINITION. The host window over SPI and I²C: direct registers, mailbox slots and bulk sub-windows (R252–R265, R397, R398, R417). -/

namespace Sys2Proof.Machine

/-- What a host address names (R252, R258): a direct register by its address and its width in bytes, a slot, the sub-window of a
slot, a reserved address or a hole. -/
inductive HostKey where
  | reg (base width : Nat)
  | slot (k : Slot)
  | bulk (k : Slot)
  | reserved
  | hole
  deriving DecidableEq, Repr

/-- The direct registers (R258, R417). TB_NOW and ENC_EXT, which R113 and R116 read with one 8-byte transfer, have no place in the map of R258: they are
served as register halves alone (DESIGN CHOICE, log entry 79). -/
def directMap : List (Nat × Nat) :=
  [(0x00, 4), (0x10, 4), (0x14, 4), (0x20, 4), (0x24, 4), (0x28, 4), (0x2C, 4), (0x40, 8), (0x50, 4), (0x54, 4), (0x58, 4), (0x5C, 4),
   (0x60, 4)]

def hostKey (a : Nat) : HostKey :=
  if a < 0x10000 then
    match directMap.find? fun r => r.1 ≤ a && a < r.1 + r.2 with
    | some r => .reg r.1 r.2
    | none => .reserved
  else if a < 0x11000 then .slot (finOf 16 ((a - 0x10000) / 0x100))
  else if a < 0x20000 then .hole
  else if a < 0x30000 then .bulk (finOf 16 ((a - 0x20000) / 0x1000))
  else .hole

/-- The `n` addresses from `a` on as runs that name one thing: what, first address, length. Addresses wrap at `m`. -/
def hostRuns (m : Nat) : Nat → Nat → List (HostKey × Nat × Nat)
  | _, 0 => []
  | a, n + 1 =>
    match hostRuns m ((a + 1) % m) n with
    | (k, b, l) :: rest => if hostKey a = k && b = a + 1 then (k, a, l + 1) :: rest else (hostKey a, a, 1) :: (k, b, l) :: rest
    | [] => [(hostKey a, a, 1)]

/-- BOOT_STATUS (R259). -/
def HostPort.bootStatus (h : HostPort) : Word :=
  setBit (setBit (BitVec.ofNat 32 (h.phase.toNat * 2 ^ 28 + h.variant.toNat * 2 ^ 22 + h.failcode.toNat)) 27 (h.bank = 1)) 21 h.suffixI

/-- IRQ_STATUS (R263). -/
def HostPort.irqStatus (h : HostPort) : Word :=
  setBit (setBit (setBit (h.done.setWidth 32) 18 h.irqRestart) 17 h.irqReady) 16 h.irqFault

/-- IRQ_N is driven low (R263): it is released in reset. -/
def HostPort.irqLow (h : HostPort) : Bool := h.phase ≠ 0 && (h.irqStatus &&& h.irqEn) ≠ 0

/-- FAULT_N is driven low (R403, R444): before the protection block has passed its check, for a routed class, and for TAMPER always. Without VDDIO_A,
rail 9 of R433, nothing drives it. -/
def State.faultLow (s : State) : Bool :=
  vget s.pwr.rails 9 && (s.host.phase = 0 || (s.flt.cls &&& s.flt.faultN) ≠ 0 || bit s.flt.cls 17)

/-- A direct register read whole, with the side effect of the read (R20, R257, R259–R263, R417). -/
def State.directRead (s : State) (r : Nat) : BitVec 64 × State :=
  let w (x : Word) : BitVec 64 × State := (x.setWidth 64, s)
  if r = 0x00 then w s.host.bootStatus
  else if r = 0x10 then w (setBit (setBit 0 1 s.host.quad) 0 s.host.crcEn)
  else if r = 0x14 then
    (BitVec.ofNat 64 (s.host.crcErr.toNat * 65536 + s.host.ignored.toNat), { s with host := { s.host with crcErr := 0, ignored := 0 } })
  else if r = 0x20 then w (s.host.ring.setWidth 32)
  else if r = 0x24 then w (s.host.done.setWidth 32)
  else if r = 0x28 then w s.host.irqStatus
  else if r = 0x2C then w s.host.irqEn
  else if r = 0x40 then (s.lineCnt.setWidth 64, s)
  else if r = 0x50 then w s.flt.cls
  else if r = 0x54 then w s.flt.faultN
  else if r = 0x58 then w s.flt.irqEn
  else if r = 0x5C then w (BitVec.ofNat 32 (s.flt.lastCause.toNat * 2 ^ 24 + s.flt.stale.toNat))
  else if r = 0x60 then w (s.flt.pfrBusy.setWidth 32)
  else (0, s)

/-- A W1C write of FLT_CLASS: level classes are left (R402, R417). -/
def State.fltClear (s : State) (mask : Word) : State :=
  { s with flt := { s.flt with cls := s.flt.cls &&& ~~~(mask &&& ~~~levelMask) } }

/-- FLT_IRQ written: a class that is 1 and becomes routed raises IRQ_STATUS.FAULT (R403). -/
def State.fltIrqWrite (s : State) (w : Word) : State :=
  let en := w &&& 0x001FFFFF#32
  let rise := s.flt.cls &&& en &&& ~~~s.flt.irqEn
  { s with flt := { s.flt with irqEn := en }, host := { s.host with irqFault := s.host.irqFault || rise ≠ 0 } }

/-- A direct register written whole (R257, R262, R263, R414, R417). Fields that are read-only are left. -/
def State.directWrite (s : State) (r : Nat) (w : Word) : State :=
  if r = 0x10 then { s with host := { s.host with crcEn := bit w 0 } }
  else if r = 0x20 then s.ring (w.extractLsb' 0 16)
  else if r = 0x24 then { s with host := { s.host with done := s.host.done &&& ~~~(w.extractLsb' 0 16) } }
  else if r = 0x28 then
    { s with host := { s.host with irqRestart := s.host.irqRestart && !bit w 18, irqReady := s.host.irqReady && !bit w 17,
                                   irqFault := s.host.irqFault && !bit w 16 } }
  else if r = 0x2C then { s with host := { s.host with irqEn := w &&& 0x0007FFFF#32 } }
  else if r = 0x50 then s.fltClear w
  else if r = 0x54 then { s with flt := { s.flt with faultN := (w &&& 0x001FFFFF#32) ||| 0x00020000#32 } }
  else if r = 0x58 then s.fltIrqWrite w
  else if r = 0x60 then s.pfrWrite w
  else s

/-- Writes of a direct register are accepted in the phase (R260). -/
def HostPort.takes (h : HostPort) (r : Nat) : Bool :=
  if h.phase = 5 || h.phase = 6 then true
  else (h.phase = 3 || h.phase = 4 || h.phase = 7) && (r = 0x10 || r = 0x20 || r = 0x24 || r = 0x2C)

/-- The bytes of a run read (R252, R257): a register is read whole where the run takes in its first byte. -/
def State.readRun (s : State) (run : HostKey × Nat × Nat) : List Byte × State :=
  let (k, a, n) := run
  match k with
  | .reg base width =>
    let (v, t) := s.directRead base
    (((bytesBe width v.toNat).drop (a - base)).take n, if a = base then t else s)
  | .slot _ | .bulk _ => (hostGets s.host.bytes a n, s)
  | .reserved | .hole => (List.replicate n 0, s)

/-- `n` bytes read from an address on, which wraps at `m`: 0 in PHASE OFF (R260). -/
def State.hostRead (s : State) (m a n : Nat) : List Byte × State :=
  if s.host.phase = 0 then (List.replicate n 0, s)
  else (hostRuns m a n).foldl (fun r run => let (bs, t) := r.2.readRun run; (r.1 ++ bs, t)) ([], s)

/-- The bytes of a run written (R252, R257, R260, R264). Bytes at reserved addresses and in holes are counted by `hostWrite`. -/
def State.writeRun (s : State) (run : HostKey × Nat × Nat) (bs : List Byte) : State :=
  let (k, a, _) := run
  let put (k : Slot) : State :=
    if s.host.phase = 1 || s.host.phase = 2 || bit s.host.ring k.val then s.ignoredWrite
    else { s with host := { s.host with bytes := hostPuts s.host.bytes a bs } }
  match k with
  | .reg base width =>
    if bs.length = width && s.host.takes base then s.directWrite base (BitVec.ofNat 32 (natBe bs)) else s.ignoredWrite
  | .slot k => put k
  | .bulk k => put k
  | .reserved | .hole => s

/-- Bytes written from an address on, which wraps at `m`, in order: nothing in PHASE OFF. -/
def State.hostWrite (s : State) (m a : Nat) (data : List Byte) : State :=
  if s.host.phase = 0 then s
  else
    let runs := hostRuns m a data.length
    let (t, _) := runs.foldl (fun r run => (r.1.writeRun run (r.2.take run.2.2), r.2.drop run.2.2)) (s, data)
    let t := if runs.any fun r => r.1 = HostKey.reserved then t.ignoredWrite else t
    if runs.any fun r => r.1 = HostKey.hole then t.ignoredWrite else t

/-- CRC-16 of R256. -/
def spiCrc (bs : List Byte) : BitVec 16 := crcMsb 0x1021#16 0xFFFF#16 bs

/-- A CRC after every complete block of 64 bytes; `head` joins the first block (R256). -/
def withCrcs : Nat → List Byte → List Byte → List Byte
  | 0, _, bs => bs
  | n + 1, head, bs =>
    if bs.length < 64 then bs
    else bs.take 64 ++ bytesBe 2 (spiCrc (head ++ bs.take 64)).toNat ++ withCrcs n [] (bs.drop 64)

/-- The opcode and address bytes of a transfer. -/
def spiHead (op : Byte) (addr : BitVec 24) : List Byte := op :: bytesBe 3 addr.toNat

/-- An SPI read (R255, R256). Before t0 SPI_IO is high-impedance, and nothing is sent (R444). -/
def State.spiRead (s : State) (addr : BitVec 24) (n : Nat) : State :=
  if !s.mainPower then { s with host := { s.host with spiOut := [] } } else
  let crc := s.host.crcEn && s.host.phase ≠ 0
  let (bs, t) := s.hostRead (2 ^ 24) addr.toNat n
  { t with host := { t.host with spiOut := if crc then withCrcs n (spiHead 0x0B addr) bs else bs } }

/-- The I/O mode from the rise of SPI_CS_N on (R255). The port does not take an opcode in PHASE OFF. -/
def State.setQuad (s : State) (b : Bool) : State := if s.host.phase = 0 then s else { s with host := { s.host with quad := b } }

/-- A write held back and not applied (R256). -/
def State.crcError (s : State) : State := { s with host := { s.host with crcErr := satInc s.host.crcErr } }

/-- An SPI write (R255, R256): with the CRC option the last two bytes are the CRC. -/
def State.spiWrite (s : State) (addr : BitVec 24) (bs : List Byte) : State :=
  if s.host.phase = 0 || !s.host.crcEn then s.hostWrite (2 ^ 24) addr.toNat bs
  else
    let n := bs.length - 2
    let data := bs.take n
    if 2 ≤ bs.length && n ≤ 4096 && natBe (bs.drop n) = (spiCrc (spiHead 0x02 addr ++ data)).toNat then s.hostWrite (2 ^ 24) addr.toNat data
    else s.crcError

/-- WRITE (R255): a transfer with any opcode, its address and the bytes that follow. -/
def execWrite (op : Byte) (addr : BitVec 24) (data : List Byte) (crc : Option (BitVec 16)) (s : State) : Host.Outcome State Fault Refusal :=
  let s := s.newStep
  let tail : List Byte := match crc with
    | some c => bytesBe 2 c.toNat
    | none => []
  let bs := data ++ tail
  if op = 0x02 then .next (s.spiWrite addr bs)
  else if op = 0x0B then .next (s.spiRead addr bs.length)
  else if op = 0x38 then .next (s.setQuad true)
  else if op = 0xFF then .next (s.setQuad false)
  else if s.host.phase = 0 then .next s
  else .next s.ignoredWrite

/-- READ (R255). -/
def execRead (addr : BitVec 24) (len : Nat) (s : State) : Host.Outcome State Fault Refusal := .next (s.spiRead addr len)

/-- QUAD_ON (R255). -/
def execQuadOn (s : State) : Host.Outcome State Fault Refusal := .next (s.setQuad true)

/-- QUAD_OFF (R255). -/
def execQuadOff (s : State) : Host.Outcome State Fault Refusal := .next (s.setQuad false)

/-- FLT_CLASS_CLEAR (R402): a W1C write that reaches FLT_CLASS. -/
def execFltClassClear (mask : Word) (s : State) : Host.Outcome State Fault Refusal :=
  if s.host.phase = 0 then .next s else .next (s.fltClear mask)

/-- The target answers an address (R397). -/
def House.answers (x : House) (a : BitVec 7) : Bool :=
  let own : BitVec 7 := 0x54#7 ||| x.addrPins.setWidth 7
  let saddr := x.i2cCfg.extractLsb' 22 7
  let second : Bool := if bit x.i2cCfg 29 then (a &&& ~~~saddr) = (own &&& ~~~saddr) else saddr ≠ 0 && a = saddr
  bit x.i2cCfg 21 && 0x08 ≤ a.toNat && a.toNat < 0x78 && (a = own || second)

/-- I2C_TARGET_WRITE (R398, R400, R439): the first two bytes are the pointer. `more` says that no STOP has come yet, so the target stays addressed.
A write whose data is ignored before PHASE READY is counted once. -/
def execI2cTargetWrite (addr : BitVec 7) (bytes : List Byte) (s : State) (more : Bool := false) : Host.Outcome State Fault Refusal :=
  let s := s.newStep
  if s.host.phase = 0 || bit s.flt.pfrBusy 11 || !s.hk.answers addr then .next { s with hk := { s.hk with lastAck := false, tbusy := false } }
  else
    let s : State := { s with hk := { s.hk with tbusy := more } }
    match bytes with
    | hi :: lo :: data =>
      let p := hi.toNat * 256 + lo.toNat
      let ready : Bool := s.host.phase = 5 || s.host.phase = 6
      let t := if ready then s.hostWrite (2 ^ 16) p data else s
      let p' := if ready then p + data.length else p
      .next { t with hk := { t.hk with
        pointer := BitVec.ofNat 16 p', lastAck := ready || data.isEmpty,
        i2cIgnored := if ready || data.isEmpty then t.hk.i2cIgnored else satInc t.hk.i2cIgnored } }
    | _ => .next { s with hk := { s.hk with lastAck := true } }

/-- What a read returns before PHASE READY (R398): BOOT_STATUS at pointers 0–3, 0xFF elsewhere. -/
def State.earlyRead (s : State) (p n : Nat) : List Byte :=
  (List.range n).map fun i => (bytesBe 4 s.host.bootStatus.toNat).getD ((p + i) % 2 ^ 16) 0xFF

/-- I2C_TARGET_READ (R398, R400): from the pointer on. -/
def execI2cTargetRead (addr : BitVec 7) (len : Nat) (s : State) (more : Bool := false) : Host.Outcome State Fault Refusal :=
  if s.host.phase = 0 || bit s.flt.pfrBusy 11 || !s.hk.answers addr then
    .next { s with hk := { s.hk with lastRead := [], lastAck := false, tbusy := false } }
  else
    let s : State := { s with hk := { s.hk with tbusy := more } }
    let p := s.hk.pointer.toNat
    let (bs, t) := if s.host.phase = 5 || s.host.phase = 6 then s.hostRead (2 ^ 16) p len else (s.earlyRead p len, s)
    .next { t with hk := { t.hk with pointer := BitVec.ofNat 16 (p + len), lastRead := bs, lastAck := true } }

end Sys2Proof.Machine
end

