-- ==== Sys2Proof/Machine/RegReads.lean ====
section
/-! DEFINITION. The block registers as they read (R60–R62, R86–R89, R109, R110, R134, R158, R159, R220, R251, R311, R331, R348, R349, R369, R384, R385,
R400, R418, R432). Offsets are from 0x20_0000_0000; a 64-bit register has its low half at the lower address. -/

namespace Sys2Proof.Machine

/-- The half of a 64-bit value at offset 0 or 4. -/
def half (x : BitVec 64) (hi : Bool) : Word := x.extractLsb' (if hi then 32 else 0) 32

/-- MODE_STAT (R109). -/
def State.modeStat (s : State) : Word :=
  let m := s.mode
  let tgt : Nat := match m.pending with
    | some p => p.target.code.toNat
    | none => 0
  let w := BitVec.ofNat 32 (m.cause.toNat * 65536 + m.role.toNat * 4096 + tgt * 256 + m.previous.code.toNat * 16 + m.mode.code.toNat)
  setBit (setBit w 19 m.deep) 15 m.pending.isSome

/-- OWED of OVS_STAT (R123): of the requests held back, all but the pending one. -/
def State.owed (s : State) : Nat := Nat.min 64 ((s.tick.due.filter fun d => d.req < d.inst).length - 1)

/-- STATE of SYNC_STAT (R134). -/
def SyncState.num : SyncState → Nat
  | .down => 0 | .trained => 1 | .enumerated => 2 | .aligned => 3 | .locked => 4 | .lost => 5

/-- The registers of an encoder channel (R134). -/
def State.encRead (s : State) (ch : EncIx) (r : Nat) : Word × State :=
  let x := vget s.enc ch
  if r = 0x00 then (x.cfg, s)
  else if r = 0x04 then (half x.ext false, s)
  else if r = 0x08 then (half x.ext false, s)
  else if r = 0x0C then (half x.ext true, s)
  else if r = 0x10 then (x.zcap, s)
  else if r = 0x14 then (x.illegal.setWidth 32, { s with enc := vmod s.enc ch fun x => { x with illegal := 0 } })
  else (0, s)

/-- The registers of the tick sources, encoders and sync link (R134). -/
def State.tickRead (s : State) (o : Nat) : Word × State :=
  let tb : BitVec 64 := BitVec.ofNat 64 s.tb
  if o = 0x20000 then (half tb false, s)
  else if o = 0x20004 then (half tb true, s)
  else if o = 0x20010 then (s.tick.cfg, s)
  else if o = 0x20014 then (s.tick.ratio, s)
  else if o = 0x20018 then (s.tick.per, s)
  else if o = 0x2001C then (s.tick.pred, s)
  else if o = 0x20020 then (BitVec.ofNat 32 (s.tick.delayNs.toNat * 65536 + s.owed), s)
  else if o = 0x20024 then (s.tick.drops, { s with tick := { s.tick with drops := 0 } })
  else if 0x20100 ≤ o && o < 0x20140 then s.encRead (finOf 2 ((o - 0x20100) / 0x20)) (o % 0x20)
  else if o = 0x20200 then (s.sync.cfg, s)
  else if o = 0x20204 then (s.sync.geo, s)
  else if o = 0x20208 then (BitVec.ofNat 32 (s.sync.pos.toNat * 2 ^ 27 + s.sync.state.num * 2 ^ 24 + s.sync.offset.toNat), s)
  else if o = 0x2020C then (s.sync.delay.setWidth 32, s)
  else if o = 0x20210 then
    (BitVec.ofNat 32 (s.sync.badMsg.toNat * 65536 + s.sync.losses.toNat), s.onSync fun y => { y with badMsg := 0, losses := 0 })
  else (0, s)

/-- MAP_STAT (R61). -/
def Sensor.mapStat (x : Sensor) : Word :=
  setBit (setBit (BitVec.ofNat 32 (x.loadUs.toNat * 65536 + x.shadowSet.val * 16 + x.activeSet.val)) 9 x.loading) 8 x.shadowValid

/-- MARK_LEFT of TDI_STAT (R89): the lines that the exit row has still to hand on and that will carry VOID or FORMAT_CHANGE. In FRAME the numbers of
the gap between two frames hand nothing on (R106). -/
def State.markLeft (s : State) : Nat :=
  let x := s.sensor
  let h := x.leadHalf.getD CtxHalf.reset
  let next := x.lineNow - 254
  let handed (n : Nat) : Bool := s.arrayMode ≠ .frame || framePhase h x.enterAt (n + 255) < cStageCount h
  ((List.range (Nat.min 256 (Nat.max x.marks.void x.marks.format - next))).filter fun i => handed (next + i)).length

/-- TDI_STAT (R89). -/
def State.tdiStat (s : State) : Word :=
  let x := s.sensor
  let fmt : Nat := match x.leadHalf with
    | some h => cFmt h
    | none => 0
  setBit (BitVec.ofNat 32 (x.lead.val * 2 ^ 24 + x.pos.val * 2 ^ 20 + fmt * 2 ^ 18 + s.markLeft)) 17 x.dir

/-- The context register at an offset (R60, R86–R88, R110, R158, R220): the context and the register's place in the order of R274. -/
def ctxAt (o : Nat) : Option (CtxIx × Fin 12) :=
  let c : CtxIx := finOf 16 (o / 16)
  let w := o % 16 / 4
  if 0x40000 ≤ o && o < 0x40100 then some (c, finOf 12 w)
  else if 0x40400 ≤ o && o < 0x40500 && w < 3 then some (c, finOf 12 (4 + w))
  else if 0x50000 ≤ o && o < 0x50100 then some (c, finOf 12 (7 + w))
  else if 0x60000 ≤ o && o < 0x60100 && w = 0 then some (c, 11)
  else none

/-- CTX_STAT (R159). -/
def Ctx.stat (x : Ctx) : Word := setBit (setBit (setBit 0 2 x.inUse) 1 x.sched.isSome) 0 x.lockUntil.isSome

/-- The registers of the array, the contexts and the grooming pipeline: a context register reads its shadow half (R135). -/
def State.lineRead (s : State) (o : Nat) : Word × State :=
  match ctxAt o with
  | some (c, i) => (vget (vget s.ctx c).shadow i, s)
  | none =>
    if o = 0x40100 then (s.sensor.mapStat, s)
    else if 0x40200 ≤ o && o < 0x40300 then
      let i : Fin 16 := finOf 16 ((o - 0x40200) / 16)
      (if o % 16 = 0 then s.rcharOfs i else if o % 16 = 4 then s.rcharGain i else 0, s)
    else if o = 0x40300 then (s.tdiStat, s)
    else if o = 0x40304 then (s.sensor.reversals, { s with sensor := { s.sensor with reversals := 0 } })
    else if o = 0x40308 then (s.sensor.formatChanges, { s with sensor := { s.sensor with formatChanges := 0 } })
    else if 0x50200 ≤ o && o < 0x50240 then ((vget s.ctx (finOf 16 ((o - 0x50200) / 4))).stat, s)
    else if 0x50240 ≤ o && o < 0x50280 then ((vget s.ctx (finOf 16 ((o - 0x50240) / 4))).frame, s)
    else if 0x50300 ≤ o && o < 0x50340 then
      let k : StreamIx := finOf 16 ((o - 0x50300) / 4)
      (vget s.groom.lineTrunc k, { s with groom := { s.groom with lineTrunc := vset s.groom.lineTrunc k 0 } })
    else (0, s)

/-- STATE of BAY_STAT (R220). -/
def BayWork.code : BayWork → Nat
  | .idle => 0 | .line _ => 1 | .deep _ => 2 | .saving .. => 3 | .restoring _ => 4 | .reset => 5

/-- A deep job's slot state (R199). -/
def SlotState.code : SlotState → Nat
  | .empty => 0 | .ready => 1 | .running => 2 | .saved => 3 | .faulted => 4 | .lost => 5 | .done => 6

/-- BAY_STAT (R220). -/
def Bay.stat (y : Bay) : Word :=
  let lq : Nat := y.queue.length + match y.work with
    | .line _ => 1
    | _ => 0
  let ready := (y.slots.toList.filter fun d => d.state = .ready || d.state = .saved).length
  BitVec.ofNat 32 (y.work.code * 2 ^ 28 + Nat.min 31 lq * 2 ^ 23 + ready * 2 ^ 20 + (y.lastSlot.getD 0).val * 2 ^ 18)

/-- BAY_STAT and BAY_CNT of a bay; those of an absent bay read 0 (R14, R220). -/
def State.bayRead (s : State) (b : BayIx) (cnt : Bool) : Word × State :=
  let y := s.getBay b
  if !s.hasBay b then (0, s)
  else if cnt then (BitVec.ofNat 32 (y.missed.toNat * 65536 + y.faults.toNat), s.onBay b fun y => { y with missed := 0, faults := 0 })
  else (y.stat, s)

/-- STATE of CART_CTRL (R220). -/
def CartState.code : CartState → Nat
  | .idle => 0 | .running => 1 | .stopped => 2 | .reset => 3

/-- The registers of a cart (R220). -/
def Cart.read (c : Cart) (r : Nat) : Word :=
  if r = 0x00 then BitVec.ofNat 32 (c.owner.toNat * 2 ^ 20 + c.queue.length * 8 + c.state.code)
  else if r = 0x04 then c.prog
  else if r = 0x08 then half (c.dva.setWidth 64) false
  else if r = 0x0C then half (c.dva.setWidth 64) true
  else 0

/-- DJ_STAT (R220). -/
def DeepSlot.stat (d : DeepSlot) : Word := BitVec.ofNat 32 (d.asid.toNat * 256 + d.kslot.val * 16 + d.state.code)

/-- The registers of the bays, jobs and carts (R220). -/
def State.detRead (s : State) (o : Nat) : Word × State :=
  let d := s.det
  if o = 0x60100 then (d.jobCfg, s)
  else if 0x60200 ≤ o && o < 0x60280 then (half (vget d.kernEntry (finOf 16 ((o - 0x60200) / 8))) (o % 8 = 4), s)
  else if 0x60400 ≤ o && o < 0x60480 then (half (vget d.asBase (finOf 16 ((o - 0x60400) / 8))) (o % 8 = 4), s)
  else if o = 0x60500 then (setBit d.tlbInv 31 d.tlbBusy.isSome, s)
  else if o = 0x60508 then (half d.tlbInvVa false, s)
  else if o = 0x6050C then (half d.tlbInvVa true, s)
  else if o = 0x60600 then (BitVec.ofNat 32 (d.fltHead.toNat * 256 + d.fltTail.toNat), s)
  else if o = 0x60604 then (d.fltLost, { s with det := { d with fltLost := 0 } })
  else if 0x61000 ≤ o && o < 0x61400 then s.bayRead (finOf 128 ((o - 0x61000) / 8)) (o % 8 = 4)
  else if 0x62000 ≤ o && o < 0x62400 then ((s.getCart (finOf 32 ((o - 0x62000) / 0x20))).read (o % 0x20), s)
  else if 0x64000 ≤ o && o < 0x64800 then
    let i := (o - 0x64000) / 4
    let b : BayIx := finOf 128 (i / 4)
    (if s.hasBay b then ((s.getBay b).getSlot (finOf 4 i)).stat else 0, s)
  else (0, s)

/-- The registers of the ports (R251): those of an absent port read 0 (R14). -/
def State.portRead (s : State) (o : Nat) : Word × State :=
  if o < 0x70400 then
    let p : PortIx := finOf 4 ((o - 0x70000) / 0x100)
    let q := s.getPort p
    let r := o % 0x100
    (if !s.hasPort p then 0
     else if r = 0x00 then q.cfg
     else if r = 0x04 then BitVec.ofNat 32 (q.fillKib * 256 + q.state.code)
     else if r = 0x08 then q.sealCfg
     else if r = 0x0C then q.sessionWord
     else 0, s)
  else if 0x70800 ≤ o && o < 0x70880 then
    let l : Fin 32 := finOf 32 ((o - 0x70800) / 4)
    (if s.hasPort (finOf 4 (l.val / 8)) then vget s.port.lane l else 0, s)
  else if 0x71000 ≤ o && o < 0x71100 then
    let d := s.getStream (finOf 16 ((o - 0x71000) / 16))
    (if o % 16 = 0 then d.cfg else if o % 16 = 4 then d.seq.setWidth 32 else 0, s)
  else (0, s)

/-- STATE of TR_STAT (R311). -/
def TackState.code : TackState → Nat
  | .selftest => 0 | .operational => 1 | .error => 2 | .zeroizing => 3

/-- TR_STAT (R311). -/
def State.trStat (s : State) : Word :=
  let t := s.tack
  let live : BitVec 16 := BitVec.ofFnLE fun k => (vget t.sessions k).isSome
  let w := BitVec.ofNat 32 (t.state.code * 2 ^ 28 + t.failTest.toNat * 2 ^ 24 + live.toNat)
  setBit (setBit (setBit w 23 t.killed) 22 s.sekKey.isSome) 21 t.restartHold

/-- FUSE_STAT (R331). -/
def Fuses.stat (f : Fuses) : Word :=
  setBit (setBit (setBit (BitVec.ofNat 32 (f.source.toNat * 32)) 8 f.trimOk) 7 (vget f.shadow 0x17 ≠ 0)) 4 f.pulse.isSome

/-- The registers of the tack room, the fuses and MRAM (R311, R331). -/
def State.tackRead (s : State) (o : Nat) : Word × State :=
  if o = 0x80000 then (s.trStat, s)
  else if o = 0x80004 then (BitVec.ofNat 32 (s.tack.pauses.toNat * 65536 + s.tack.authFail.toNat), s)
  else if o = 0x90000 then (s.fuse.stat, s)
  else if o = 0x90010 then
    (BitVec.ofNat 32 (s.nvm.corrected.toNat * 65536 + s.nvm.uncorr.toNat), { s with nvm := { s.nvm with corrected := 0, uncorr := 0 } })
  else (0, s)

/-- BKP_STAT (R348). -/
def State.bkpStat (s : State) : Word :=
  let b := s.bkp
  setBit (setBit (setBit (setBit (setBit (setBit 0 7 b.shipArmed) 6 b.retFail) 4 (b.powered && !b.vaonGood)) 3 s.canaryOk) 2 b.rtcValid) 0 b.trusted

/-- STATE of CHG_STAT (R349). -/
def ChgState.num : ChgState → Nat
  | .off => 0 | .suspend => 1 | .precharge => 2 | .cc => 3 | .cv => 4 | .done => 5 | .fault => 6

/-- The registers of the backup domain and the charger (R348, R349). -/
def State.bkpRead (s : State) (o : Nat) : Word :=
  let b := s.bkp
  if o = 0xA0000 then s.bkpStat
  else if o = 0xA0008 then half s.rtcWord false
  else if o = 0xA000C then half s.rtcWord true
  else if o = 0xA0010 then b.adj.setWidth 32
  else if o = 0xA0018 then half b.mono false
  else if o = 0xA001C then half b.mono true
  else if o = 0xA0020 then b.chgCfg
  else if o = 0xA0024 then setBit (BitVec.ofNat 32 (b.chgSource.toNat * 128 + b.chgZone.toNat * 16 + b.chgState.num)) 9 b.cutback
  else if o = 0xA0028 then b.tbResid
  else if o = 0xA0030 then setBit (setBit (BitVec.ofNat 32 b.tampNext.val) 7 b.tampLost) 6 b.tampPending
  else if 0xA0100 ≤ o && o < 0xA0300 then (vget b.tampLog (finOf 32 ((o - 0xA0100) / 16))).extractLsb' (8 * (o % 16)) 32
  else 0

/-- CLK_STAT (R369). -/
def Clocks.stat (c : Clocks) : Word :=
  let locks : BitVec 4 := BitVec.ofFnLE fun p => vget c.lock (finOf 6 (2 + p.val))
  let w := BitVec.ofNat 32 (c.margin.toNat * 2 ^ 13 + locks.toNat * 64 + c.point.toNat * 16)
  let w := setBit (setBit (setBit w 12 (c.phaseLeft ≠ 0)) 11 c.profile.isSome) 10 c.refclkOk
  setBit (setBit (setBit (setBit w 3 c.fallback) 2 (vget c.lock 1)) 1 c.recovered) 0 (vget c.lock 0)

/-- The clock registers (R369). -/
def State.clkRead (s : State) (o : Nat) : Word × State :=
  let c := s.clk
  if o = 0xB0000 then (c.stat, s)
  else if 0xB0010 ≤ o && o < 0xB0028 then
    let q : PllIx := finOf 6 ((o - 0xB0010) / 4)
    ((vget c.loss q).setWidth 32, { s with clk := { c with loss := vset c.loss q 0 } })
  else if 0xB0100 ≤ o && o < 0xB0118 then (vget c.pllaOut (finOf 6 ((o - 0xB0100) / 4)), s)
  else if o = 0xB0180 then (setBit (setBit (c.phaseLeft.setWidth 32) 16 c.phaseRetard) 31 (c.phaseLeft ≠ 0), s)
  else if o = 0xB0200 then (c.pllbCfg, s)
  else if 0xB0240 ≤ o && o < 0xB0280 then (vget c.prof (finOf 16 ((o - 0xB0240) / 4)), s)
  else if o = 0xB0280 then (setBit (c.profLast.setWidth 32) 31 c.profile.isSome, s)
  else if 0xB0300 ≤ o && o < 0xB0310 then (vget c.portPll (finOf 4 ((o - 0xB0300) / 4)), s)
  else if 0xB1000 ≤ o && o < 0xB1600 then (vget (vget c.band (finOf 6 ((o - 0xB1000) / 0x100))) (finOf 64 (o % 0x100 / 4)), s)
  else (0, s)

/-- The watchdog registers (R418). -/
def State.wdtRead (s : State) (o : Nat) : Word :=
  let w := s.wdt
  if o = 0x101000 then
    setBit (setBit (setBit (setBit (w.periodMs.setWidth 32) 28 w.clkTb) 29 w.armed) 30 w.isOpen) 31 (!w.disabled)
  else if o = 0x101010 then w.evidPc
  else if o = 0x101018 then half (w.evidLine.setWidth 64) false
  else if o = 0x10101C then half (w.evidLine.setWidth 64) true
  else if o = 0x101020 then half (w.evidRtc.setWidth 64) false
  else if o = 0x101024 then half (w.evidRtc.setWidth 64) true
  else if o = 0x101028 then setBit (w.evidCause.setWidth 32) 8 w.evidValid
  else 0

/-- The fault counters and the watchdog (R418). -/
def State.fltRead (s : State) (o : Nat) : Word × State :=
  if 0x100000 ≤ o && o < 0x100054 then
    let k : Fin 21 := finOf 21 ((o - 0x100000) / 4)
    ((vget s.flt.cnt k).setWidth 32, { s with flt := { s.flt with cnt := vset s.flt.cnt k 0 } })
  else if o = 0x100080 then (s.flt.regLock.setWidth 32, { s with flt := { s.flt with regLock := 0 } })
  else if o = 0x100084 then (s.flt.restarts, s)
  else (s.wdtRead o, s)

/-- The code of a halt cause (R432). -/
def HaltWhy.code : HaltWhy → Nat
  | .none => 0 | .request => 1 | .step => 2 | .breakpoint => 3 | .watchpoint => 4 | .restart => 5

/-- The registers that debug alone reaches (R432). -/
def Debug.read (d : Debug) (o : Nat) : Word :=
  if 0x110000 ≤ o && o < 0x110040 then half (vget d.brk (finOf 8 ((o - 0x110000) / 8))) (o % 8 = 4)
  else if 0x110040 ≤ o && o < 0x110080 then
    let i : Fin 4 := finOf 4 ((o - 0x110040) / 16)
    if o % 16 = 0 then half (vget d.wptAddr i) false
    else if o % 16 = 4 then half (vget d.wptAddr i) true
    else if o % 16 = 8 then vget d.wptCtrl i
    else 0
  else if o = 0x110080 then
    BitVec.ofNat 32 (d.bayWhy.code * 4096 + d.bayIdx.toNat * 256 + d.cpWhy.code * 16 + d.cpIdx.toNat)
  else 0

/-- The direct register that an offset in the debug alias reaches, with the word of it (R428). -/
def aliasAt (o : Nat) : Option (Nat × Nat × Nat) :=
  if 0xF000000 ≤ o && o < 0xF010000 then
    match directMap.find? fun r => r.1 ≤ o - 0xF000000 && o - 0xF000000 < r.1 + r.2 with
    | some r => some (r.1, r.2, o - 0xF000000 - r.1)
    | none => none
  else none

/-- A direct register through the alias: its most significant word is at the lower address, as the host window has it (R8, R428). -/
def State.aliasRead (s : State) (o : Nat) : Word × State :=
  match aliasAt o with
  | some (r, width, k) =>
    let (v, t) := s.directRead r
    (v.extractLsb' (8 * (width - 4 - k)) 32, if k = 0 then t else s)
  | none => (0, s)

/-- The word of register space at an offset, and the side effect of reading it. Where no register is, it reads 0. -/
def State.regRead (s : State) (o : Nat) (dbg : Bool) : Word × State :=
  if o = 0x10000 then (s.modeStat, s)
  else if 0x20000 ≤ o && o < 0x30000 then s.tickRead o
  else if (0x40000 ≤ o && o < 0x60000) || (0x60000 ≤ o && o < 0x60100) then s.lineRead o
  else if 0x60100 ≤ o && o < 0x70000 then s.detRead o
  else if 0x70000 ≤ o && o < 0x80000 then s.portRead o
  else if 0x80000 ≤ o && o < 0xA0000 then s.tackRead o
  else if 0xA0000 ≤ o && o < 0xB0000 then (s.bkpRead o, s)
  else if 0xB0000 ≤ o && o < 0xC0000 then s.clkRead o
  else if 0xC0000 ≤ o && o < 0x100000 then (s.periphRead o).getD (0, s)
  else if 0x100000 ≤ o && o < 0x110000 then s.fltRead o
  else if 0x110000 ≤ o && o < 0x120000 then (if dbg then s.dbg.read o else 0, s)
  else s.aliasRead o

end Sys2Proof.Machine
end

