-- ==== Sys2Proof/Machine/RegWrites.lean ====
section
/-! DEFINITION. The writes of the block registers (R9, R10, R60, R86–R88, R134, R137, R139, R158, R220, R251, R349, R353, R369, R404, R418, R432). -/

namespace Sys2Proof.Machine

/-- One half of a 64-bit register written, the other kept. -/
def setHalf (x : BitVec 64) (hi : Bool) (w : Word) : BitVec 64 := setField x (if hi then 32 else 0) 32 w.toNat

/-- SRC, POLICY and the predictor settings change in STANDBY and READY alone (R111). -/
def State.tickOpen (s : State) : Bool := s.mode.mode = .standby || s.mode.mode = .ready

/-- TICK_CFG (R111, R134): another source is selected as TICK_SET selects it; in other modes SRC and POLICY stay. -/
def State.tickCfgWrite (s : State) (w : Word) : RegEnd :=
  let lag := field w 15 8
  if 6 ≤ field w 2 0 || lag = 0 || 64 < lag then .bad
  else
    let was := s.src
    let t := { s with tick := { s.tick with cfg := mergeMask (if s.tickOpen then 0x0000FF37#32 else 0x0000FF20#32) s.tick.cfg w } }
    .ok (if t.src = was then t else t.selectSource)

/-- The registers of the tick sources, encoders and sync link (R134). -/
def State.tickWrite (s : State) (o : Nat) (w : Word) : RegEnd :=
  if o = 0x20010 then s.tickCfgWrite w
  else if o = 0x20014 then
    if w.toNat < 0x1000 then .bad else .ok (State.refreshRequest { s with tick := s.tick.reanchor w })
  else if o = 0x20018 then .ok { s with tick := { s.tick with per := w } }
  else if o = 0x2001C then
    if field w 2 0 = 7 then .bad else if !s.tickOpen then .ok s
    else .ok { s with tick := { s.tick with pred := w &&& 0xFFFFFF07#32 } }
  else if o = 0x20100 || o = 0x20120 then
    if field w 5 4 = 3 || 2 ≤ field w 9 8 then .bad
    else .ok { s with enc := vmod s.enc (finOf 2 ((o - 0x20100) / 0x20)) fun x => { x with cfg := w &&& 0x0000037F#32 } }
  else if o = 0x20200 then
    if field w 31 16 < 500 || field w 15 14 = 3 then .bad else .ok (s.onSync fun y => { y with cfg := w &&& 0xFFFFC000#32 })
  else if o = 0x20204 then .ok (s.onSync fun y => { y with geo := w })
  else .ok s

/-- A context register: the write reaches the shadow half unless it is frozen or locked (R60, R135, R137, R139). -/
def State.ctxRegWrite (s : State) (c : CtxIx) (i : Fin 12) (w : Word) : State :=
  let x := vget s.ctx c
  if x.sched.isSome || x.lockUntil.isSome then s.lockedWrite
  else s.onCtx c fun x => { x with shadow := vset x.shadow i (w &&& vget ctxWritable i) }

/-- CART_CTRL (R216, R220). ABORT wins over RESUME. -/
def State.cartCtrlWrite (s : State) (q : CartIx) (w : Word) : State :=
  let s := s.onCart q fun c => { c with owner := w.extractLsb' 20 4 }
  if bit w 10 then s.cartAbort q else if bit w 9 then s.cartResume q else s

/-- The registers of the bays, jobs and carts (R220). -/
def State.detWrite (s : State) (o : Nat) (w : Word) : RegEnd :=
  let d := s.det
  let hi : Bool := o % 8 = 4
  if o = 0x60100 then .ok { s with det := { d with jobCfg := w &&& 0x3F#32 } }
  else if 0x60200 ≤ o && o < 0x60280 then
    let w := w &&& (if hi then 0xFF#32 else 0xFFFFFFFC#32)
    .ok { s with det := { d with kernEntry := vmod d.kernEntry (finOf 16 ((o - 0x60200) / 8)) fun x => setHalf x hi w } }
  else if 0x60400 ≤ o && o < 0x60480 then
    let w := w &&& (if hi then 0xFF#32 else 0xFFFFE001#32)
    .ok { s with det := { d with asBase := vmod d.asBase (finOf 16 ((o - 0x60400) / 8)) fun x => setHalf x hi w } }
  else if o = 0x60500 then .ok (s.tlbInvWrite w)
  else if o = 0x60508 || o = 0x6050C then
    let hi : Bool := o = 0x6050C
    .ok { s with det := { d with tlbInvVa := setHalf d.tlbInvVa hi (w &&& (if hi then 0xFF#32 else 0xFFFF0000#32)) } }
  else if o = 0x60600 then .ok { s with det := { d with fltTail := w.extractLsb' 0 8 } }
  else if 0x62000 ≤ o && o < 0x62400 && o % 0x20 = 0 then .ok (s.cartCtrlWrite (finOf 32 ((o - 0x62000) / 0x20)) w)
  else .ok s

/-- PORT_CFG (R94, R244, R251): RATE is written while the port is stopped alone; START starts a port in READY and the streaming modes. -/
def State.portCfgWrite (s : State) (p : PortIx) (w : Word) : RegEnd :=
  let q := s.getPort p
  let rate := field w 30 28
  if !s.hasPort p then .ok s
  else if 5 ≤ rate then .bad
  else
    let s :=
      if rate = field q.cfg 30 28 then s
      else if q.state = .stopped then s.onPort p fun q => { q with cfg := setField q.cfg 28 3 rate }
      else s.lockedWrite
    if bit w 31 then .ok (if s.mode.mode = .ready || s.mode.mode.streaming then s.askStart p else s)
    else .ok (s.askStop p)

/-- SEAL_CFG (R251): SEAL_EN is written while the port is stopped alone. -/
def State.sealCfgWrite (s : State) (p : PortIx) (w : Word) : RegEnd :=
  let q := s.getPort p
  let n := field w 10 0
  if !s.hasPort p then .ok s
  else if n < 16 || 1024 < n then .bad
  else
    let s := s.onPort p fun q => { q with sealCfg := setField q.sealCfg 0 11 n }
    if bit w 31 = bit q.sealCfg 31 then .ok s
    else if q.state = .stopped then .ok (s.onPort p fun q => { q with sealCfg := setBit q.sealCfg 31 (bit w 31) })
    else .ok s.lockedWrite

/-- STREAM_CFG (R239, R251): KIND, PORT and FIELD are written while the stream is disabled alone. -/
def State.streamCfgWrite (s : State) (k : StreamIx) (w : Word) : RegEnd :=
  let d := s.getStream k
  let new := w &&& 0xFE000000#32
  if field w 30 29 = 3 || !s.hasPort (finOf 4 (field w 28 27)) then .bad
  else if d.en then
    let s := if new &&& 0x7E000000#32 = d.cfg &&& 0x7E000000#32 then s else s.lockedWrite
    .ok (if bit w 31 then s else s.setEnable k false)
  else
    let t := s.onStream k fun d => { d with cfg := setBit new 31 false }
    if !bit w 31 then .ok t else if t.mayEnable k then .ok (t.setEnable k true) else .bad

/-- LANE_TX (R222, R251). -/
def State.laneWrite (s : State) (l : Fin 32) (w : Word) : RegEnd :=
  if !s.hasPort (finOf 4 (l.val / 8)) then .ok s
  else if !laneOk (field w 8 6) (field w 12 9) (field w 5 2) (field w 1 1) (field w 0 0) then .bad
  else .ok { s with port := { s.port with lane := vset s.port.lane l (w &&& 0x1FFF#32) } }

/-- The registers of the ports (R251). -/
def State.portWrite (s : State) (o : Nat) (w : Word) : RegEnd :=
  if o < 0x70400 then
    let p : PortIx := finOf 4 ((o - 0x70000) / 0x100)
    if o % 0x100 = 0x00 then s.portCfgWrite p w else if o % 0x100 = 0x08 then s.sealCfgWrite p w else .ok s
  else if 0x70800 ≤ o && o < 0x70880 then s.laneWrite (finOf 32 ((o - 0x70800) / 4)) w
  else if 0x71000 ≤ o && o < 0x71100 && o % 16 = 0 then s.streamCfgWrite (finOf 16 ((o - 0x71000) / 16)) w
  else .ok s

/-- PLLA_OUT (R353, R369): OUT0 is fixed, DELAY is locked by EN, and OUT1 and OUT2 are not disabled while the array is biased. Without OUT4 the strobe
engines stop as at a loss of PLL-A (R356). -/
def State.pllaOutWrite (s : State) (o : Fin 6) (w : Word) : RegEnd :=
  let old := vget s.clk.pllaOut o
  let en := bit w 16
  if o = 0 then .ok s
  else if (o = 1 || o = 2) && s.sensor.biased && bit old 16 && !en then .bad
  else
    let new := setBit old 16 en
    if bit old 16 then
      let s := { s with clk := { s.clk with pllaOut := vset s.clk.pllaOut o new } }
      let s := if o = 4 && !en then { s with ts := { s.ts with eng := s.ts.eng.map Engine.stop } } else s
      .ok s.lockedWrite
    else .ok { s with clk := { s.clk with pllaOut := vset s.clk.pllaOut o (setField new 0 6 (field w 5 0)) } }

/-- PLLA_PHASE and PLLB_PROF_CTRL by their writes, as their rows do. -/
def State.phaseWrite (s : State) (w : Word) : State := match execPllaPhaseWrite w s with
  | .next t => t
  | _ => s

def State.profCtrlWrite (s : State) (w : Word) : State := match execPllbProfileGo w s with
  | .next t => t
  | _ => s

/-- The clock registers (R369). -/
def State.clkWrite (s : State) (o : Nat) (w : Word) : RegEnd :=
  let c := s.clk
  if 0xB0100 ≤ o && o < 0xB0118 then s.pllaOutWrite (finOf 6 ((o - 0xB0100) / 4)) w
  else if o = 0xB0180 then .ok (s.phaseWrite w)
  else if o = 0xB0200 then
    if field w 31 30 = 3 || 10 < field w 29 26 then .bad
    else .ok { s with clk := { c with pllbCfg := mergeMask 0xFC000000#32 c.pllbCfg w } }
  else if 0xB0240 ≤ o && o < 0xB0280 then .ok { s with clk := { c with prof := vset c.prof (finOf 16 ((o - 0xB0240) / 4)) w } }
  else if o = 0xB0280 then .ok (s.profCtrlWrite w)
  else if 0xB0300 ≤ o && o < 0xB0310 then
    let p : PortIx := finOf 4 ((o - 0xB0300) / 4)
    if (s.getPort p).state ≠ .stopped then .ok s.lockedWrite
    else .ok { s with clk := { c with portPll := vset c.portPll p (w &&& 0xFFFF0000#32) } }
  else if 0xB1000 ≤ o && o < 0xB1600 then
    let b : Fin 64 := finOf 64 (o % 0x100 / 4)
    .ok { s with clk := { c with band := vmod c.band (finOf 6 ((o - 0xB1000) / 0x100)) fun t => vset t b (w &&& 0xBFFFFFFF#32) } }
  else .ok s

/-- The watchdog registers (R418). -/
def State.wdtWrite (s : State) (o : Nat) (w : Word) : State :=
  if o = 0x101000 then s.wdtCtrl w
  else if o = 0x101004 then s.wdtKey (w.extractLsb' 0 16)
  else if o = 0x101008 then s.wdtDis (w.extractLsb' 0 16)
  else if o = 0x101028 then { s with wdt := { s.wdt with evidValid := s.wdt.evidValid && !bit w 8 } }
  else s

/-- A breakpoint of the control processor needs ADDR[39:32] = 0 (R432). -/
def brkBad (x : BitVec 64) : Bool := !bit x 62 && field x 39 32 ≠ 0

/-- The registers that debug alone reaches (R432). -/
def State.dbgWrite (s : State) (o : Nat) (w : Word) : RegEnd :=
  let d := s.dbg
  if 0x110000 ≤ o && o < 0x110040 then
    let i : Fin 8 := finOf 8 ((o - 0x110000) / 8)
    let hi : Bool := o % 8 = 4
    let x := setHalf (vget d.brk i) hi (w &&& (if hi then 0xC00000FF#32 else 0xFFFFFFFC#32))
    if brkBad x then .bad else .ok { s with dbg := { d with brk := vset d.brk i x } }
  else if 0x110040 ≤ o && o < 0x110080 then
    let i : Fin 4 := finOf 4 ((o - 0x110040) / 16)
    let addr (hi : Bool) : RegEnd :=
      let x := setHalf (vget d.wptAddr i) hi (w &&& (if hi then 0xFF#32 else 0xFFFFFFFF#32))
      .ok { s with dbg := { d with wptAddr := vset d.wptAddr i x } }
    if o % 16 = 0 then addr false
    else if o % 16 = 4 then addr true
    else if o % 16 = 8 then
      if field w 29 28 = 0 || 16 < field w 4 0 then .bad
      else .ok { s with dbg := { d with wptCtrl := vset d.wptCtrl i (w &&& 0xF000001F#32) } }
    else .ok s
  else .ok s

/-- A direct register written through the alias (R428). -/
def State.aliasWrite (s : State) (o : Nat) (w : Word) : State :=
  match aliasAt o with
  | some (r, _, 0) => s.directWrite r w
  | _ => s

/-- CHG_CFG (R349). -/
def State.chgWrite (s : State) (w : Word) : RegEnd :=
  if 5 ≤ field w 13 11 then .bad else .ok (s.onBkp fun b => b.writeCfg (w &&& 0x0000F9FF#32))

/-- A word written in register space: fields are stored or act under their access codes; where no register is, nothing happens. -/
def State.regWriteEnd (s : State) (o : Nat) (w : Word) (dbg : Bool) : RegEnd :=
  match ctxAt o with
  | some (c, i) => .ok (s.ctxRegWrite c i w)
  | none =>
    if 0x20000 ≤ o && o < 0x30000 then s.tickWrite o w
    else if 0x60100 ≤ o && o < 0x70000 then s.detWrite o w
    else if 0x70000 ≤ o && o < 0x80000 then s.portWrite o w
    else if o = 0xA0020 then s.chgWrite w
    else if 0xB0000 ≤ o && o < 0xC0000 then s.clkWrite o w
    else if 0xC0000 ≤ o && o < 0x100000 then s.periphWrite o w
    else if 0x100000 ≤ o && o < 0x110000 then .ok (s.wdtWrite o w)
    else if 0x110000 ≤ o && o < 0x120000 then if dbg then s.dbgWrite o w else .ok s
    else .ok (s.aliasWrite o w)

/-- What a reserved value comes to: the setting stays and class CONFIG reports; in the tick generator's chapter a debug write also stops the
generator (R134, R251, R349, R369, R384, R385, R400, R432). -/
def State.regBad (s : State) (o : Nat) (dbg : Bool) : State :=
  let s := s.report .config
  if dbg && 0x20000 ≤ o && o < 0x30000 then { s with tick := { s.tick with stopped := true, request := none } } else s

/-- A write of one word of register space. -/
def State.regWrite (s : State) (o : Nat) (w : Word) (dbg : Bool) : State :=
  match s.regWriteEnd o w dbg with
  | .ok t => t
  | .bad => s.regBad o dbg
  | .none => s

/-- The 64-bit registers that can be written, by the offset of their low half. -/
def wide (o : Nat) : Bool :=
  o % 8 = 0 && ((0x60200 ≤ o && o < 0x60280) || (0x60400 ≤ o && o < 0x60480) || o = 0x60508 || (0x110000 ≤ o && o < 0x110040)
    || (0x110040 ≤ o && o < 0x110080 && o % 16 = 0))

/-- A register written whole, a 64-bit one with both its halves. A breakpoint's word that breaks R432 leaves both halves. -/
def State.regWriteWhole (s : State) (o : Nat) (v : BitVec 64) (dbg : Bool) : State :=
  if !wide o then s.regWrite o (half v false) dbg
  else if dbg && 0x110000 ≤ o && o < 0x110040 then
    let x := v &&& 0xC00000FFFFFFFFFC#64
    if brkBad x then s.regBad o dbg
    else { s with dbg := { s.dbg with brk := vset s.dbg.brk (finOf 8 ((o - 0x110000) / 8)) x } }
  else (s.regWrite o (half v false) dbg).regWrite (o + 4) (half v true) dbg

end Sys2Proof.Machine
end

