-- ==== Sys2Proof/Machine/DebugRows.lean ====
section
/-! DEFINITION. The debug port: the TAP, DBG_CTRL and DBG_ACCESS (R419–R432), and REGISTER_WRITE (R9). -/

namespace Sys2Proof.Machine

/-- The TAP works from the last rail good on (R419). -/
def State.tapUp (s : State) : Bool := s.pwr.rails.toList.all id

/-- The instruction register takes a value. -/
def State.setIr (s : State) (v : BitVec 5) : State := if s.tapUp then { s with dbg := { s.dbg with ir := v } } else s

/-- TAP_RESET (R419, R431): IDCODE is selected and DBG_CTRL is at its reset value; a halted bay stays halted. -/
def execTapReset (s : State) : Host.Outcome State Fault Refusal :=
  if s.tapUp then .next { s with dbg := { s.dbg with ir := 0x02, haltOnRestart := false, baySel := 0 } } else .next s

/-- EXTEST (R420): a value shifted in is driven from Update-DR on. -/
def execExtest (s : State) (drive : Option (List Bool) := none) : Host.Outcome State Fault Refusal :=
  let s := s.setIr 0x00
  .next (if s.tapUp then { s with dbg := { s.dbg with preload := drive.getD s.dbg.preload } } else s)

/-- SAMPLE_PRELOAD (R420): the pins as they stand join the boundary register; a value shifted in is kept for the instructions that drive it. -/
def execSamplePreload (pins : List Bool) (s : State) (preload : Option (List Bool) := none) : Host.Outcome State Fault Refusal :=
  if s.tapUp then .next { s with dbg := { s.dbg with ir := 0x01, boundary := pins, preload := preload.getD s.dbg.preload } } else .next s

/-- IDCODE (R420). -/
def execIdcode (s : State) : Host.Outcome State Fault Refusal := .next (s.setIr 0x02)

/-- CLAMP (R420). -/
def execClamp (s : State) : Host.Outcome State Fault Refusal := .next (s.setIr 0x03)

/-- HIGHZ (R420). -/
def execHighz (s : State) : Host.Outcome State Fault Refusal := .next (s.setIr 0x04)

/-- DBG_CTRL as it reads (R431). -/
def State.dbgCtrl (s : State) : Word :=
  let d := s.dbg
  let w := BitVec.ofNat 32 (s.debugScope * 2 ^ 24 + s.debugPolicy * 2 ^ 22 + d.baySel.val * 256)
  setBit (setBit (setBit w 21 (s.getBay d.baySel).halted) 20 d.cpHalted) 16 d.haltOnRestart

/-- The data register that a value of the instruction register selects (R420): every value not named selects bypass, and has no effect. -/
inductive DataReg where
  | boundary | idcode | ctrl | access | bypass
  deriving DecidableEq, Repr

def dataReg (ir : BitVec 5) : DataReg :=
  if ir = 0x00 || ir = 0x01 then .boundary
  else if ir = 0x02 then .idcode
  else if ir = 0x08 then .ctrl
  else if ir = 0x09 then .access
  else .bypass

/-- What Capture-IR loads (R420). -/
def irCapture : BitVec 5 := 0b00001

/-- The bits of a word, the lowest first, as they are shifted out. -/
def scanBits {n : Nat} (x : BitVec n) : List Bool := (List.range n).map fun i => bit x i

/-- What Capture-DR loads (R420, R427, R431): the pins, the identification, DBG_CTRL, the result of the latest access, or the bypass bit. -/
def State.captureDr (s : State) : List Bool :=
  match dataReg s.dbg.ir with
  | .boundary => s.dbg.boundary
  | .idcode => scanBits 0x1162574F#32
  | .ctrl => scanBits s.dbgCtrl
  | .access => scanBits s.dbg.result
  | .bypass => [false]

/-- What an output does at cell `i` of the boundary register (R420), where its function would have it at `level`: EXTEST and CLAMP drive it from the
boundary register, HIGHZ makes it high-impedance, which is none, and every other instruction leaves it its function. -/
def State.pinOut (s : State) (i : Nat) (level : Option Bool) : Option Bool :=
  if !s.tapUp then level
  else if s.dbg.ir = 0x00 || s.dbg.ir = 0x03 then s.dbg.preload[i]?
  else if s.dbg.ir = 0x04 then none
  else level

/-- CP_HALT (R422, R426): the halt lets the first disable key of the watchdog lapse. -/
def State.cpHalt (s : State) : State :=
  if s.dbg.cpHalted then s
  else { s with wdt := { s.wdt with disFirst := false }, dbg := { s.dbg.freshCp with cpHalted := true, cpWhy := .request, cpIdx := 0 } }

/-- The lowest breakpoint with TARGET = 0 that the control processor comes to when it is set running (R425, R432). DESIGN CHOICE: the firmware's
instructions are not given, so it is asked at a resume alone (log entry 100). -/
def Debug.cpBreak (d : Debug) : Option (Fin 8) :=
  (List.finRange 8).find? fun i =>
    let w := vget d.brk i
    bit w 63 && !bit w 62 && Config.cpMeets (4 * field w 31 2) d.cpSteps

/-- A watchpoint of the control processor (R425, R432). -/
def Debug.cpWatches (d : Debug) (i : Fin 4) : Bool := bit (vget d.wptCtrl i) 31 && !bit (vget d.wptCtrl i) 30

/-- The lowest watchpoint that an instruction of the control processor matches whose accesses are not known (log entry 100). -/
def Debug.cpTouch (d : Debug) : Option (Fin 4) := (List.finRange 4).find? fun i => d.cpWatches i && Config.cpTouches i.val d.cpSteps

/-- The lowest watchpoint that a write of `n` bytes by the control processor matches (R425, R432). -/
def Debug.cpWatch (d : Debug) (a n : Nat) : Option (Fin 4) :=
  (List.finRange 4).find? fun i =>
    let base := field (vget d.wptAddr i) 39 0
    d.cpWatches i && bit (vget d.wptCtrl i) 29 && a < base + 2 ^ field (vget d.wptCtrl i) 4 0 && base < a + n

/-- The control processor halts (R425, R432): its registers are as they are then. -/
def State.cpStop (s : State) (why : HaltWhy) (idx : Nat) : State :=
  { s with wdt := { s.wdt with disFirst := false },
           dbg := { s.dbg.freshCp with cpHalted := true, cpWhy := why, cpIdx := BitVec.ofNat 4 idx } }

/-- The control processor halts before the instruction of breakpoint `i` (R425): its PC is there. -/
def State.cpBroken (s : State) (i : Fin 8) : State :=
  let s := s.cpStop .breakpoint i.val
  { s with dbg := { s.dbg with cpRegs := vset s.dbg.cpRegs 32 (BitVec.ofNat 32 (4 * field (vget s.dbg.brk i) 31 2)) } }

/-- CP_RESUME (R422–R425): what the firmware held back goes on: answers, then the doorbells in the order rung; a restart held before the boot
ROM runs on. A breakpoint or a watchpoint that it meets first halts it again. -/
def State.cpResume (s : State) : State :=
  if !s.dbg.cpHalted then s
  else if let some i := s.dbg.cpBreak then s.cpBroken i
  else if let some i := s.dbg.cpTouch then s.cpStop .watchpoint i.val
  else
    let boot := s.dbg.restartHeld
    let s := { s with dbg := { s.dbg with cpHalted := false, cpWhy := .none, restartHeld := false } }
    if boot then s.bootRom
    else
      let (held, order) := (s.host.held, s.host.order)
      let s := { s with host := { s.host with held := [] } }
      let s := held.foldl (fun s x => s.writeAnswer x.1 x.2.1 x.2.2.1 x.2.2.2) s
      let s := { s with host := { s.host with order := [] } }
      order.foldl (fun s k => if bit s.host.ring k.val then s.serve k else s) s

/-- CP_STEP (R422, R425): the halted control processor executes one instruction, whose access a watchpoint may match. -/
def State.cpStepOne (s : State) : State :=
  if !s.dbg.cpHalted then s
  else
    let (why, idx) : HaltWhy × BitVec 4 := match s.dbg.cpTouch with
      | some i => (.watchpoint, BitVec.ofNat 4 i.val)
      | none => (.step, 0)
    { s with dbg := { s.dbg.freshCp with cpWhy := why, cpIdx := idx } }

/-- BAY_HALT (R422): the selected bay stops before its next instruction. -/
def State.bayHalt (s : State) : State :=
  let b := s.dbg.baySel
  if !s.hasBay b || (s.getBay b).halted then s else s.haltBay b .request 0

/-- A halted bay goes on (R422): from a breakpoint, past the instruction that matched. -/
def State.freeBay (s : State) (b : BayIx) : State :=
  let at_ : Bool := s.dbg.bayWhy = .breakpoint
  let s := s.onBay b fun y => if y.halted then { y with halted := false, skipBrk := at_ } else y
  { s with dbg := { s.dbg with bayWhy := .none, bayIdx := 0 } }

/-- BAY_RESUME (R422). -/
def State.bayResume (s : State) : State := if (s.getBay s.dbg.baySel).halted then s.freeBay s.dbg.baySel else s

/-- BAY_STEP (R422): the halted bay executes one instruction and is halted again. A bay without a job that can run stays as it is. -/
def State.bayStep (s : State) : State :=
  let b := s.dbg.baySel
  let t := s.onBay b fun y => { y with halted := false, skipBrk := true }
  if !(s.getBay b).halted || !t.canIssue b then s
  else
    let t := { t with dbg := { t.dbg with bayWhy := .step, bayIdx := 0 } }
    (t.runOne b).onBay b fun y => { y with halted := true }

/-- SEL_WR (R431): another bay is selected, and the one selected before goes on. An absent bay is not selected. -/
def State.selWr (s : State) (bay : BitVec 7) : State :=
  let b : BayIx := bay.toFin
  if !s.hasBay b || s.dbg.baySel = b then s
  else let s := s.freeBay s.dbg.baySel; { s with dbg := { s.dbg with baySel := b } }

/-- A write of DBG_CTRL (R431): each control bit acts within the scope alone (R421), a bay's bits on the bay then selected. A HALT and a RESUME
together leave the target halted. -/
def State.dbgCtrlWrite (s : State) (w : Word) : State :=
  let scope := s.debugScope
  let on (s : State) (least n : Nat) (act : State → State) : State := if least ≤ scope && bit w n then act s else s
  let s := if scope = 2 then { s with dbg := { s.dbg with haltOnRestart := bit w 16 } } else s
  let s := on s 1 15 fun s => s.selWr (w.extractLsb' 8 7)
  let s := on s 1 5 State.bayStep
  let s := on s 1 4 fun s => if bit w 3 then s else s.bayResume
  let s := on s 1 3 State.bayHalt
  let s := on s 2 2 State.cpStepOne
  let s := on s 2 1 fun s => if bit w 0 then s else s.cpResume
  on s 2 0 State.cpHalt

/-- A row of DBG_CTRL: the word written, with the row's bit at 1 (R431). -/
def State.dbgCtrlRow (s : State) (w : Word) (n : Nat) : Host.Outcome State Fault Refusal :=
  let s := s.newStep.setIr 0x08
  if s.tapUp then .next (s.dbgCtrlWrite (setBit w n true)) else .next s

/-- CP_HALT, CP_RESUME and CP_STEP (R422, R431). -/
def execCpHalt (s : State) (value : Word := 0) : Host.Outcome State Fault Refusal := s.dbgCtrlRow value 0
def execCpResume (s : State) (value : Word := 0) : Host.Outcome State Fault Refusal := s.dbgCtrlRow value 1
def execCpStep (s : State) (value : Word := 0) : Host.Outcome State Fault Refusal := s.dbgCtrlRow value 2

/-- BAY_HALT, BAY_RESUME and BAY_STEP (R422, R431). -/
def execBayHalt (s : State) (value : Word := 0) : Host.Outcome State Fault Refusal := s.dbgCtrlRow value 3
def execBayResume (s : State) (value : Word := 0) : Host.Outcome State Fault Refusal := s.dbgCtrlRow value 4
def execBayStep (s : State) (value : Word := 0) : Host.Outcome State Fault Refusal := s.dbgCtrlRow value 5

/-- SEL_WR (R431). -/
def execSelWr (value : Word) (s : State) : Host.Outcome State Fault Refusal := s.dbgCtrlRow value 15

/-- STATUS of an access (R427). -/
inductive DbgStatus where
  | ok | busy | denied | error
  deriving DecidableEq, Repr

def DbgStatus.code : DbgStatus → Nat
  | .ok => 0 | .busy => 1 | .denied => 2 | .error => 3

/-- What an access comes to: STATUS, the data read and the state after it. -/
abbrev DbgEnd := DbgStatus × Word × State

/-- An access that does nothing. -/
def State.dbgNo (s : State) (st : DbgStatus) : DbgEnd := (st, 0, s)

/-- An aligned word of memory (R428): a poisoned word is an error. -/
def State.dbgMem (s : State) (a : Nat) (write : Bool) (data : Word) : DbgEnd :=
  let z := s.correct [a / 8]
  if s.mem.poisoned (a / 8) then s.dbgNo .error
  else if write then (.ok, 0, { z with mem := z.mem.store (cellsAt a (bytesLe 4 data.toNat)) })
  else (.ok, BitVec.ofNat 32 (s.mem.num a 4), z)

/-- A word of a loft (R195, R428): the ring is read only. -/
def State.dbgLoft (s : State) (b : BayIx) (off : Nat) (write : Bool) (data : Word) : DbgEnd :=
  if off < s.jobArea then s.dbgMem (loftAddr b off) write data
  else if write then s.dbgNo .error
  else (.ok, BitVec.ofNat 32 (natLe ((List.range 4).map fun i => Config.ringByte b.val (off + i) s.sensor.ticks)), s)

/-- With bay scope a breakpoint or watchpoint register is read, and written, for TARGET = bay alone (R421); TARGET is set to bay in one that is not
enabled. -/
def Debug.bayMay (d : Debug) (o : Nat) (write : Bool) (w : Word) : Bool :=
  if o < 0x110040 then
    let x := vget d.brk (finOf 8 ((o - 0x110000) / 8))
    if write && o % 8 = 4 then bit w 30 && (bit x 62 || !bit x 63) else bit x 62
  else
    let c := vget d.wptCtrl (finOf 4 ((o - 0x110040) / 16))
    if write && o % 16 = 8 then bit w 30 && (bit c 30 || !bit c 31) else bit c 30

/-- A word of register space (R428): of the tack room, TR_STAT and TR_CNT are read. -/
def State.dbgReg (s : State) (o : Nat) (write : Bool) (data : Word) : DbgEnd :=
  if 0x80000 ≤ o && o < 0x90000 && (write || (o ≠ 0x80000 && o ≠ 0x80004)) then s.dbgNo .error
  else if write then (.ok, 0, s.regWrite o data true)
  else
    let (v, t) := s.regRead o true
    (.ok, v, t)

/-- SPACE 0b00 (R204, R421, R428): with bay scope the lofts and the breakpoint and watchpoint registers with TARGET = bay alone. The hayloft's device
area is the device's own. -/
def State.dbgPhys (s : State) (full : Bool) (a : Nat) (write : Bool) (data : Word) : DbgEnd :=
  let o := a - 0x2000000000
  match placeOf s.isSmall a with
  | .loft b off => s.dbgLoft b off write data
  | .regs =>
    if full || (0x110000 ≤ o && o < 0x110080 && s.dbg.bayMay o write data) then s.dbgReg o write data else s.dbgNo .denied
  | .hbm => if !full then s.dbgNo .denied else if s.hbmDown then s.dbgNo .error else s.dbgMem a write data
  | .hayloft => if full then s.dbgMem a write data else s.dbgNo .denied
  | .device | .ownLoft _ | .mram | .hole => s.dbgNo (if full then .error else .denied)

/-- SPACE 0b01 (R429): the registers of the halted control processor. -/
def State.dbgCp (s : State) (a : Nat) (write : Bool) (data : Word) : DbgEnd :=
  if 0x22 ≤ a then s.dbgNo .error
  else if !s.dbg.cpHalted then s.dbgNo .busy
  else if write then (.ok, 0, { s with dbg := { s.dbg with cpRegs := vset s.dbg.cpRegs (finOf 34 a) data } })
  else (.ok, vget s.dbg.cpRegs (finOf 34 a), s)

/-- The state of a job as R429 numbers it. -/
inductive BayReg where
  | s (i : SReg)
  | v (k : VReg) (w : Fin 16)
  | p (i : PReg)
  | pcLo
  | pcHi
  | csr (i : Nat)

def bayRegAt (a : Nat) : Option BayReg :=
  if a < 0x10 then some (.s (finOf 16 a))
  else if 0x100 ≤ a && a < 0x300 then some (.v (finOf 32 ((a - 0x100) / 16)) (finOf 16 a))
  else if 0x300 ≤ a && a < 0x308 then some (.p (finOf 8 a))
  else if a = 0x310 then some .pcLo
  else if a = 0x311 then some .pcHi
  else if 0x400 ≤ a && a < 0x40E then some (.csr (a - 0x400))
  else none

/-- Word w of a vector register: lanes 2w and 2w + 1. -/
def JobRegs.vecWord (r : JobRegs) (k : VReg) (w : Fin 16) : Word :=
  r.lane16 k (finOf 32 (2 * w.val + 1)) ++ r.lane16 k (finOf 32 (2 * w.val))

def JobRegs.setVecWord (r : JobRegs) (k : VReg) (w : Fin 16) (x : Word) : JobRegs :=
  { r with v := vmod r.v k fun l => vset (vset l (finOf 32 (2 * w.val)) (x.extractLsb' 0 16)) (finOf 32 (2 * w.val + 1)) (x.extractLsb' 16 16) }

/-- A piece of bay state read, and written (R162, R429). -/
def State.bayGet (s : State) (b : BayIx) (x : BayReg) : Word :=
  let r := (s.getBay b).regs
  match x with
  | .s i => r.getS i
  | .v k w => r.vecWord k w
  | .p i => r.getP i
  | .pcLo => r.pc.extractLsb' 0 32
  | .pcHi => (r.pc.extractLsb' 32 8).setWidth 32
  | .csr i => s.csr b i

def JobRegs.put (r : JobRegs) (x : BayReg) (w : Word) : JobRegs :=
  match x with
  | .s i => r.setS i w
  | .v k j => r.setVecWord k j w
  | .p i => r.setP i w
  | .pcLo => { r with pc := r.pc.extractLsb' 32 8 ++ (w &&& 0xFFFFFFFC#32) }
  | .pcHi => { r with pc := w.extractLsb' 0 8 ++ r.pc.extractLsb' 0 32 }
  | .csr i => r.csrWrite i w

/-- SPACE 0b10 (R429): the state of the halted selected bay. -/
def State.dbgBay (s : State) (a : Nat) (write : Bool) (data : Word) : DbgEnd :=
  let b := s.dbg.baySel
  match bayRegAt a with
  | none => s.dbgNo .error
  | some x =>
    if !(s.getBay b).halted then s.dbgNo .busy
    else if write then (.ok, 0, s.onBay b fun y => { y with regs := y.regs.put x data })
    else
      let t := match x with
        | .csr i => s.csrRead b i
        | _ => s
      (.ok, s.bayGet b x, t)

/-- The access that an 80-bit value describes (R421, R427). -/
def State.dbgRun (s : State) (dr : BitVec 80) : DbgEnd :=
  let a := field dr 71 32
  let (write, data) := (bit dr 72, dr.extractLsb' 0 32)
  let space := field dr 75 74
  if s.debugScope = 0 then s.dbgNo .denied
  else if field dr 79 78 ≠ 0 || space = 3 then s.dbgNo .error
  else if space = 0 then s.dbgPhys (s.debugScope = 2) (a / 4 * 4) write data
  else if space = 1 then if s.debugScope = 2 then s.dbgCp a write data else s.dbgNo .denied
  else s.dbgBay a write data

/-- DBG_ACCESS (R427, R430): the next Capture-DR returns the result, with SPACE, QUIET, WRITE and ADDR as written. A read with QUIET changes
nothing. -/
def execDbgAccess (dr : BitVec 80) (s : State) : Host.Outcome State Fault Refusal :=
  if !s.tapUp then .next s
  else
    let s := s.newStep.setIr 0x09
    let (st, v, t) := s.dbgRun dr
    let t := if bit dr 73 && !bit dr 72 then s else t
    let head : BitVec 80 := setField (setField dr 76 4 st.code) 0 32 v.toNat
    .next { t with dbg := { t.dbg with result := head } }

/-- A write of the firmware at a physical address (R9, R203, R204): of a register; of a word of HBM, of the general hayloft or of a loft's job area;
at any other address it is a bus error, and nothing is written. -/
def State.firmwareWrite (s : State) (a : Nat) (v : BitVec 64) : State :=
  let word (a : Nat) : State := match s.fwWrite a (bytesLe 4 (half v false).toNat) with
    | some t => t
    | none => s.fwWriteFault a 4
  match placeOf s.isSmall a with
  | .regs => s.regWriteWhole (a - 0x2000000000) v false
  | .hbm | .hayloft => word a
  | .loft _ off => if off < s.jobArea then word a else s
  | .device | .ownLoft _ | .mram | .hole => s

/-- The access of debug that REGISTER_WRITE stands for (R421, R428): a register is written whole. -/
def State.debugWrite (s : State) (a : Nat) (v : BitVec 64) : State :=
  let full : Bool := s.debugScope = 2
  if s.debugScope = 0 then s
  else if full && placeOf s.isSmall a = .regs && !(0x2000080000 ≤ a && a < 0x2000090000) then s.regWriteWhole (a - 0x2000000000) v true
  else (s.dbgPhys full a true (half v false)).2.2

/-- REGISTER_WRITE (R9): a write by the firmware while it runs, which may match a watchpoint of the control processor (R425), or by debug. -/
def execRegisterWrite (addr : BitVec 40) (value : BitVec 64) (byDebug : Bool) (s : State) : Host.Outcome State Fault Refusal :=
  let a := addr.toNat / 4 * 4
  let s := if s.host.phase = 0 then s else s.newStep
  if s.host.phase = 0 || (!byDebug && s.dbg.cpHalted) then .next s
  else if byDebug then .next (s.debugWrite a value)
  else
    let t := s.firmwareWrite a value
    match s.dbg.cpWatch a (if placeOf s.isSmall a = .regs && wide (a - 0x2000000000) then 8 else 4) with
    | some i => .next (t.cpStop .watchpoint i.val)
    | none => .next t

end Sys2Proof.Machine
end

