-- ==== Sys2Proof/Machine/ModeRows.lean ====
section
/-! DEFINITION. The two rows that end a mode transition outside a tick: a timed transition's end (R91–R96) and the time-out of an entry (R98). -/

namespace Sys2Proof.Machine

/-- A timed transition can end: PLL-A has locked where DEEP STANDBY is left, every port has stopped and every committed tick has fired where the mode
has none, PLL-B's ramp has ended, and the converters have converged and read the array's rails within their limits where it is to be biased (R92, R94, R96,
R437). -/
def State.timedReady (s : State) (p : Pending) : Bool :=
  let leavesDeep := s.mode.deep && !(p.target = .standby && p.deep)
  let idle := (List.finRange 4).all fun q => (s.getPort q).state = .stopped
  let biases := p.target = .ready && !s.sensor.biased
  (!leavesDeep || (vget s.clk.lock 0 && s.tbRun)) && s.clk.profile.isNone && (p.target = .ready || (idle && s.tick.due.isEmpty)) && (!biases || (s.hk.conv.toList.all (fun c => c.calOk) && s.railsGood))

/-- The end of a timed transition: the leader of a string settles it first by the answers it has (R130; log entry 77). -/
def State.finishTimed (s : State) (p : Pending) : State :=
  match s.sync.switch with
  | none => s.timedDone p
  | some w =>
    if s.isLeader then
      let t := s.settle w State.dropMove
      if t.mode.pending.isSome then t.timedDone p else t
    else (s.onSync fun y => { y with switch := none }).timedDone p

/-- MODE_TRANSITION_DONE: while the control processor is halted its steps wait (R426). -/
def execModeTransitionDone (t : Nat) (s : State) : Host.Outcome State Fault Refusal :=
  let s := (s.atTb t).newStep
  match s.mode.pending with
  | none => .next s
  | some p => if p.phase = .timed && !s.dbg.cpHalted && s.timedReady p then .next (s.finishTimed p) else .next s

/-- MODE_SET_TIMEOUT: no tick fired within 10 s of acceptance (R98); the context stays unapplied, in the whole string where a leader commanded it
(R130). -/
def execModeSetTimeout (t : Nat) (s : State) : Host.Outcome State Fault Refusal :=
  let s := s.atTb t
  match s.mode.pending with
  | none => .next s
  | some p =>
    match p.phase with
    | .enter _ => if p.since + 10000000000 ≤ s.tb && (!s.sensor.anyTick || s.sensor.lastTb ≤ p.since) then .next ((s.cancelSwitch.setPending none).answerTo p.slot stTimeout []) else .next s
    | .timed | .switch _ | .exit_ _ | .drain .. => .next s

end Sys2Proof.Machine
end

