-- ==== Sys2Proof/Machine/Dispatch.lean ====
section
/-! DEFINITION. One arm per command: each is one call of the command's meaning. -/

namespace Sys2Proof.Machine

/-- The effect of a command on everything but the queue. -/
def exec (i : Instr) (s : State) : Host.Outcome State Fault Refusal :=
  match i with
  | .lineTick light => Sys2Proof.Machine.execLineTick light s
  | .shutterTimeout t => Sys2Proof.Machine.execShutterTimeout t s
  | .mapShadowLoadDone us => Sys2Proof.Machine.execMapShadowLoadDone us s
  | .modeTransitionDone t => Sys2Proof.Machine.execModeTransitionDone t s
  | .modeSetTimeout t => Sys2Proof.Machine.execModeSetTimeout t s
  | .yardTempSample t temps => Sys2Proof.Machine.execYardTempSample t temps s
  | .hayloftScrub t bank found => Sys2Proof.Machine.execHayloftScrub t bank found s
  | .mramScrub t found => Sys2Proof.Machine.execMramScrub t found s
  | .hbmRefresh forced => Sys2Proof.Machine.execHbmRefresh forced s
  | .logFlush t => Sys2Proof.Machine.execLogFlush t s
  | .telemetrySnapshot t => Sys2Proof.Machine.execTelemetrySnapshot t s
  | .pllBandCheck t q inside => Sys2Proof.Machine.execPllBandCheck t q inside s
  | .flawCreditRefill t => Sys2Proof.Machine.execFlawCreditRefill t s
  | .encoderEdge ch a b t held => Sys2Proof.Machine.execEncoderEdge ch a b t s held
  | .zCapture ch => Sys2Proof.Machine.execZCapture ch s
  | .predictorTimeout ch t => Sys2Proof.Machine.execPredictorTimeout ch t s
  | .tickRequest t => Sys2Proof.Machine.execTickRequest t s
  | .tickCommit t => Sys2Proof.Machine.execTickCommit t s
  | .trigEdge t rising => Sys2Proof.Machine.execTrigEdge t rising s
  | .internalPeriod t => Sys2Proof.Machine.execInternalPeriod t s
  | .ticksAllowed t => Sys2Proof.Machine.execTicksAllowed t s
  | .tick t frame => Sys2Proof.Machine.execTick t frame s
  | .ctxAt frame => Sys2Proof.Machine.execCtxAt frame s
  | .ctxAck frame => Sys2Proof.Machine.execCtxAck frame s
  | .ctxCancelMsg frame => Sys2Proof.Machine.execCtxCancelMsg frame s
  | .dreq t2 t3 frame => Sys2Proof.Machine.execDreq t2 t3 frame s
  | .drsp t4 frame => Sys2Proof.Machine.execDrsp t4 frame s
  | .hopMeasureDue t1 => Sys2Proof.Machine.execHopMeasureDue t1 s
  | .enum frame => Sys2Proof.Machine.execEnum frame s
  | .enumAck frame => Sys2Proof.Machine.execEnumAck frame s
  | .aligned frame => Sys2Proof.Machine.execAligned frame s
  | .lost fromAbove frame => Sys2Proof.Machine.execLost fromAbove frame s
  | .joinReq frame => Sys2Proof.Machine.execJoinReq frame s
  | .joinAt frame => Sys2Proof.Machine.execJoinAt frame s
  | .syncLoss cause => Sys2Proof.Machine.execSyncLoss cause s
  | .syncLinkRecovered => Sys2Proof.Machine.execSyncLinkRecovered s
  | .hopSymbolLock => Sys2Proof.Machine.execHopSymbolLock s
  | .write op addr data crc => Sys2Proof.Machine.execWrite op addr data crc s
  | .read addr len => Sys2Proof.Machine.execRead addr len s
  | .quadOn => Sys2Proof.Machine.execQuadOn s
  | .quadOff => Sys2Proof.Machine.execQuadOff s
  | .registerWrite addr value byDebug => Sys2Proof.Machine.execRegisterWrite addr value byDebug s
  | .mbxDoorbell ring => Sys2Proof.Machine.execMbxDoorbell ring s
  | .fltClassClear mask => Sys2Proof.Machine.execFltClassClear mask s
  | .nop slot h data => Sys2Proof.Machine.execNop slot h data s
  | .identify slot h => Sys2Proof.Machine.execIdentify slot h s
  | .getStatus slot h => Sys2Proof.Machine.execGetStatus slot h s
  | .fwRestart slot h => Sys2Proof.Machine.execFwRestart slot h s
  | .shipMode slot h => Sys2Proof.Machine.execShipMode slot h s
  | .objChunk slot h offset bulk => Sys2Proof.Machine.execObjChunk slot h offset bulk s
  | .objEnd slot h => Sys2Proof.Machine.execObjEnd slot h s
  | .objAbort slot h => Sys2Proof.Machine.execObjAbort slot h s
  | .modeSet slot h mode ctx opts start => Sys2Proof.Machine.execModeSet slot h mode ctx opts start s
  | .ctxSet slot h ctx mask values => Sys2Proof.Machine.execCtxSet slot h ctx mask values s
  | .ctxGet slot h ctx half => Sys2Proof.Machine.execCtxGet slot h ctx half s
  | .ctxSchedule slot h ctx line => Sys2Proof.Machine.execCtxSchedule slot h ctx line s
  | .ctxCancel slot h ctx => Sys2Proof.Machine.execCtxCancel slot h ctx s
  | .ctxLockTimeout slot => Sys2Proof.Machine.execCtxLockTimeout slot s
  | .ctxStore slot h ctx store => Sys2Proof.Machine.execCtxStore slot h ctx store s
  | .ctxLoad slot h store ctx => Sys2Proof.Machine.execCtxLoad slot h store ctx s
  | .tickSet slot h src policy lagLimit trigEdge perNs velWin revHyst accMax => Sys2Proof.Machine.execTickSet slot h src policy lagLimit trigEdge perNs velWin revHyst accMax s
  | .ratioSet slot h ratio => Sys2Proof.Machine.execRatioSet slot h ratio s
  | .encSet slot h ch filtNs decode invert zmode => Sys2Proof.Machine.execEncSet slot h ch filtNs decode invert zmode s
  | .calBegin slot h type index arg total crc => Sys2Proof.Machine.execCalBegin slot h type index arg total crc s
  | .calCapture slot h lines pa => Sys2Proof.Machine.execCalCapture slot h lines pa s
  | .calCaptureDone => Sys2Proof.Machine.execCalCaptureDone s
  | .calStatus slot h yard => Sys2Proof.Machine.execCalStatus slot h yard s
  | .stringSet slot h role colOfs asym leadNs => Sys2Proof.Machine.execStringSet slot h role colOfs asym leadNs s
  | .stringForm slot h => Sys2Proof.Machine.execStringForm slot h s
  | .stringFormDone timedOut => Sys2Proof.Machine.execStringFormDone timedOut s
  | .stringLeave slot h => Sys2Proof.Machine.execStringLeave slot h s
  | .stringStatus slot h => Sys2Proof.Machine.execStringStatus slot h s
  | .kernBegin slot h kslot pa entry total crc => Sys2Proof.Machine.execKernBegin slot h kslot pa entry total crc s
  | .asSet slot h asid l1 en => Sys2Proof.Machine.execAsSet slot h asid l1 en s
  | .memWrite slot h pa bulk => Sys2Proof.Machine.execMemWrite slot h pa bulk s
  | .memRead slot h pa len => Sys2Proof.Machine.execMemRead slot h pa len s
  | .tlbInv slot h asid scope va => Sys2Proof.Machine.execTlbInv slot h asid scope va s
  | .jobSet slot h loftSplit => Sys2Proof.Machine.execJobSet slot h loftSplit s
  | .djFill slot h bay djSlot kslot asid => Sys2Proof.Machine.execDjFill slot h bay djSlot kslot asid s
  | .djResume slot h bay djSlot => Sys2Proof.Machine.execDjResume slot h bay djSlot s
  | .djDiscard slot h bay djSlot => Sys2Proof.Machine.execDjDiscard slot h bay djSlot s
  | .cartSet slot h cart owner => Sys2Proof.Machine.execCartSet slot h cart owner s
  | .cartCtrlResume slot h cart => Sys2Proof.Machine.execCartCtrlResume slot h cart s
  | .cartCtrlAbort slot h cart => Sys2Proof.Machine.execCartCtrlAbort slot h cart s
  | .faultRead slot h max => Sys2Proof.Machine.execFaultRead slot h max s
  | .portSet slot h port rate sealEn sealN => Sys2Proof.Machine.execPortSet slot h port rate sealEn sealN s
  | .portStart slot h port => Sys2Proof.Machine.execPortStart slot h port s
  | .portStop slot h port => Sys2Proof.Machine.execPortStop slot h port s
  | .laneSet slot h lane pre post swing zdiff pol => Sys2Proof.Machine.execLaneSet slot h lane pre post swing zdiff pol s
  | .streamSet slot h stream kind port field => Sys2Proof.Machine.execStreamSet slot h stream kind port field s
  | .streamEnable slot h stream en => Sys2Proof.Machine.execStreamEnable slot h stream en s
  | .portStatus slot h port => Sys2Proof.Machine.execPortStatus slot h port s
  | .authChallenge slot h role index => Sys2Proof.Machine.execAuthChallenge slot h role index s
  | .authResponse slot h sig => Sys2Proof.Machine.execAuthResponse slot h sig s
  | .sessionEnd slot h => Sys2Proof.Machine.execSessionEnd slot h s
  | .enrol slot h role index key => Sys2Proof.Machine.execEnrol slot h role index key s
  | .revoke slot h role index => Sys2Proof.Machine.execRevoke slot h role index s
  | .timeSet slot h rtc sig => Sys2Proof.Machine.execTimeSet slot h rtc sig s
  | .sealExportSet slot h bulk => Sys2Proof.Machine.execSealExportSet slot h bulk s
  | .zeroize slot h => Sys2Proof.Machine.execZeroize slot h s
  | .debugUnlock slot h => Sys2Proof.Machine.execDebugUnlock slot h s
  | .fwBegin slot h bank total crc => Sys2Proof.Machine.execFwBegin slot h bank total crc s
  | .fwActivate slot h bank => Sys2Proof.Machine.execFwActivate slot h bank s
  | .fuseRead slot h word => Sys2Proof.Machine.execFuseRead slot h word s
  | .fuseProgram slot h word bit vpp => Sys2Proof.Machine.execFuseProgram slot h word bit s vpp
  | .fuseProgramInst slot h bit vpp => Sys2Proof.Machine.execFuseProgramInst slot h bit s vpp
  | .fusePulseDone verified => Sys2Proof.Machine.execFusePulseDone verified s
  | .nvmStatus slot h => Sys2Proof.Machine.execNvmStatus slot h s
  | .telemRead slot h => Sys2Proof.Machine.execTelemRead slot h s
  | .logRead slot h index count => Sys2Proof.Machine.execLogRead slot h index count s
  | .auditRead slot h index count => Sys2Proof.Machine.execAuditRead slot h index count s
  | .periphSet slot h block unit reg value => Sys2Proof.Machine.execPeriphSet slot h block unit reg value s
  | .periphGet slot h block unit reg => Sys2Proof.Machine.execPeriphGet slot h block unit reg s
  | .periphGo slot h block mask => Sys2Proof.Machine.execPeriphGo slot h block mask s
  | .strobeBegin slot h engine total crc => Sys2Proof.Machine.execStrobeBegin slot h engine total crc s
  | .dacSet slot h dac range code => Sys2Proof.Machine.execDacSet slot h dac range code s
  | .i2cXfer slot h addr wlen rlen wdata => Sys2Proof.Machine.execI2cXfer slot h addr wlen rlen wdata s
  | .i2cXferDone result index rdata => Sys2Proof.Machine.execI2cXferDone result index rdata s
  | .hkRead slot h conv ch => Sys2Proof.Machine.execHkRead slot h conv ch s
  | .lockstepFault => Sys2Proof.Machine.execLockstepFault s
  | .mailboxesReady => Sys2Proof.Machine.execMailboxesReady s
  | .sessionExpiry slot rtc => Sys2Proof.Machine.execSessionExpiry slot rtc s
  | .challengeExpiry slot rtc => Sys2Proof.Machine.execChallengeExpiry slot rtc s
  | .lockoutEnd role index rtc => Sys2Proof.Machine.execLockoutEnd role index rtc s
  | .lockoutJournalWrite role index rtc => Sys2Proof.Machine.execLockoutJournalWrite role index rtc s
  | .entropyHealthFail test => Sys2Proof.Machine.execEntropyHealthFail test s
  | .tamperVoltage detector rtc => Sys2Proof.Machine.execTamperVoltage detector rtc s
  | .tamperClock detector rtc => Sys2Proof.Machine.execTamperClock detector rtc s
  | .tamperTemperature rtc => Sys2Proof.Machine.execTamperTemperature rtc s
  | .lidLight rtc => Sys2Proof.Machine.execLidLight rtc s
  | .tamperPauseEnd => Sys2Proof.Machine.execTamperPauseEnd s
  | .lastRailGood vddioB33 => Sys2Proof.Machine.execLastRailGood vddioB33 s
  | .porRelease addrPins => Sys2Proof.Machine.execPorRelease addrPins s
  | .fuseLoadDone => Sys2Proof.Machine.execFuseLoadDone s
  | .selftestDone failTest => Sys2Proof.Machine.execSelftestDone failTest s
  | .fwVerified => Sys2Proof.Machine.execFwVerified s
  | .hbmTrained => Sys2Proof.Machine.execHbmTrained s
  | .railLoss rail => Sys2Proof.Machine.execRailLoss rail s
  | .resetN => Sys2Proof.Machine.execResetN s
  | .resetNRelease addrPins => Sys2Proof.Machine.execResetNRelease addrPins s
  | .vaonInGood => Sys2Proof.Machine.execVaonInGood s
  | .vaonInLoss => Sys2Proof.Machine.execVaonInLoss s
  | .backupDomainPor => Sys2Proof.Machine.execBackupDomainPor s
  | .reconciliation t rtc => Sys2Proof.Machine.execReconciliation t rtc s
  | .rtcTrim => Sys2Proof.Machine.execRtcTrim s
  | .chargerDetect auxHeld vddioB30 => Sys2Proof.Machine.execChargerDetect auxHeld vddioB30 s
  | .chargerZoneRead ntcOpen temp => Sys2Proof.Machine.execChargerZoneRead ntcOpen temp s
  | .chargerVbatThreshold vbatMv => Sys2Proof.Machine.execChargerVbatThreshold vbatMv s
  | .chargerTimeout rtc => Sys2Proof.Machine.execChargerTimeout s rtc
  | .chargerCutback vaonMv => Sys2Proof.Machine.execChargerCutback vaonMv s
  | .svcBtnLongPress => Sys2Proof.Machine.execSvcBtnLongPress s
  | .svcBtnResetEnd => Sys2Proof.Machine.execSvcBtnResetEnd s
  | .refclkLoss => Sys2Proof.Machine.execRefclkLoss s
  | .pllaLockLoss t => Sys2Proof.Machine.execPllaLockLoss t s
  | .pllaRelockAttempt => Sys2Proof.Machine.execPllaRelockAttempt s
  | .pllaLock t => Sys2Proof.Machine.execPllaLock t s
  | .pllbLockLoss => Sys2Proof.Machine.execPllbLockLoss s
  | .pllbRelockAttempt => Sys2Proof.Machine.execPllbRelockAttempt s
  | .pllbLock => Sys2Proof.Machine.execPllbLock s
  | .portPllLockLoss p => Sys2Proof.Machine.execPortPllLockLoss p s
  | .portPllRelockAttempt p => Sys2Proof.Machine.execPortPllRelockAttempt p s
  | .portPllLock p => Sys2Proof.Machine.execPortPllLock p s
  | .pllaPhaseWrite value => Sys2Proof.Machine.execPllaPhaseWrite value s
  | .phaseStep t => Sys2Proof.Machine.execPhaseStep s t
  | .pllbProfileGo value => Sys2Proof.Machine.execPllbProfileGo value s
  | .pllbProfileSegmentEnd => Sys2Proof.Machine.execPllbProfileSegmentEnd s
  | .tmrGo mask => Sys2Proof.Machine.execTmrGo mask s
  | .tmrStop tmr => Sys2Proof.Machine.execTmrStop tmr s
  | .timerCountStep tmr => Sys2Proof.Machine.execTimerCountStep tmr s
  | .timerEventStart tmr => Sys2Proof.Machine.execTimerEventStart tmr s
  | .timerCapture tmr => Sys2Proof.Machine.execTimerCapture tmr s
  | .tmrCapRead tmr => Sys2Proof.Machine.execTmrCapRead tmr s
  | .stbGo mask => Sys2Proof.Machine.execStbGo mask s
  | .stbStop e => Sys2Proof.Machine.execStbStop e s
  | .strobeStep e pins => Sys2Proof.Machine.execStrobeStep e pins s
  | .preLt t => Sys2Proof.Machine.execPreLt t s
  | .stbTxWrite e word => Sys2Proof.Machine.execStbTxWrite e word s
  | .stbRxRead e => Sys2Proof.Machine.execStbRxRead e s
  | .hkRegularPass conv t => Sys2Proof.Machine.execHkRegularPass conv s t
  | .hkConversion conv code checkCode t => Sys2Proof.Machine.execHkConversion conv code checkCode s t
  | .hkResult conv t => Sys2Proof.Machine.execHkResult conv s t
  | .hkInjectTrigger conv t => Sys2Proof.Machine.execHkInjectTrigger conv t s
  | .dacWrite d value => Sys2Proof.Machine.execDacWrite d value s
  | .dacRangeHoldEnd d t => Sys2Proof.Machine.execDacRangeHoldEnd d s t
  | .dacSlewDone d => Sys2Proof.Machine.execDacSlewDone d s
  | .i2cTargetWrite addr bytes more => Sys2Proof.Machine.execI2cTargetWrite addr bytes s more
  | .i2cTargetRead addr len more => Sys2Proof.Machine.execI2cTargetRead addr len s more
  | .i2cTimeout target index rdata => Sys2Proof.Machine.execI2cTimeout target index rdata s
  | .wdtArm => Sys2Proof.Machine.execWdtArm s
  | .wdtService => Sys2Proof.Machine.execWdtService s
  | .wdtDisarm => Sys2Proof.Machine.execWdtDisarm s
  | .wdtWindowOpen => Sys2Proof.Machine.execWdtWindowOpen s
  | .wdtExpiry => Sys2Proof.Machine.execWdtExpiry s
  | .wdtClkstop => Sys2Proof.Machine.execWdtClkstop s
  | .wdtDisable first second => Sys2Proof.Machine.execWdtDisable first second s
  | .pfrF0 => Sys2Proof.Machine.execPfrF0 s
  | .pfrPort p => Sys2Proof.Machine.execPfrPort p s
  | .pfrGrooming => Sys2Proof.Machine.execPfrGrooming s
  | .pfrBays oneShed shed => Sys2Proof.Machine.execPfrBays oneShed shed s
  | .pfrCarts => Sys2Proof.Machine.execPfrCarts s
  | .pfrHbm => Sys2Proof.Machine.execPfrHbm s
  | .pfrStrobes => Sys2Proof.Machine.execPfrStrobes s
  | .pfrHousekeeping => Sys2Proof.Machine.execPfrHousekeeping s
  | .pfrI2c => Sys2Proof.Machine.execPfrI2c s
  | .pfrSync => Sys2Proof.Machine.execPfrSync s
  | .pfrDone fn => Sys2Proof.Machine.execPfrDone fn s
  | .portCfgStart p => Sys2Proof.Machine.execPortCfgStart p s
  | .portCfgStop p => Sys2Proof.Machine.execPortCfgStop p s
  | .portStartDone p t => Sys2Proof.Machine.execPortStartDone p t s
  | .portStopDone p => Sys2Proof.Machine.execPortStopDone p s
  | .portPeriod t => Sys2Proof.Machine.execPortPeriod t s
  | .alignmentMarker p => Sys2Proof.Machine.execAlignmentMarker p s
  | .statusDue p t => Sys2Proof.Machine.execStatusDue p t s
  | .timeDue p t rtc => Sys2Proof.Machine.execTimeDue p t rtc s
  | .sealSigDue p rtc => Sys2Proof.Machine.execSealSigDue p rtc s
  | .sealBlockTimeout p t => Sys2Proof.Machine.execSealBlockTimeout p t s
  | .idleDue p t => Sys2Proof.Machine.execIdleDue p t s
  | .saveFrameWritten b failed bus => Sys2Proof.Machine.execSaveFrameWritten b s failed bus
  | .cartDescriptorStart q => Sys2Proof.Machine.execCartDescriptorStart q s
  | .cartChunk q => Sys2Proof.Machine.execCartChunk q s
  | .cartDescriptorDone q => Sys2Proof.Machine.execCartDescriptorDone q s
  | .cartResume q => Sys2Proof.Machine.execCartResume q s
  | .cartAbort q => Sys2Proof.Machine.execCartAbort q s
  | .tlbInvGo value => Sys2Proof.Machine.execTlbInvGo value s
  | .tlbInvDone => Sys2Proof.Machine.execTlbInvDone s
  | .illegalInstruction b word => Sys2Proof.Machine.execIllegalInstruction b word s
  | .add b sd sa sb => Sys2Proof.Machine.execAdd b sd sa sb s
  | .sub b sd sa sb => Sys2Proof.Machine.execSub b sd sa sb s
  | .and b sd sa sb => Sys2Proof.Machine.execAnd b sd sa sb s
  | .or b sd sa sb => Sys2Proof.Machine.execOr b sd sa sb s
  | .xor b sd sa sb => Sys2Proof.Machine.execXor b sd sa sb s
  | .andn b sd sa sb => Sys2Proof.Machine.execAndn b sd sa sb s
  | .sll b sd sa sb => Sys2Proof.Machine.execSll b sd sa sb s
  | .srl b sd sa sb => Sys2Proof.Machine.execSrl b sd sa sb s
  | .sra b sd sa sb => Sys2Proof.Machine.execSra b sd sa sb s
  | .rol b sd sa sb => Sys2Proof.Machine.execRol b sd sa sb s
  | .ror b sd sa sb => Sys2Proof.Machine.execRor b sd sa sb s
  | .setlt b sd sa sb => Sys2Proof.Machine.execSetlt b sd sa sb s
  | .setltu b sd sa sb => Sys2Proof.Machine.execSetltu b sd sa sb s
  | .min b sd sa sb => Sys2Proof.Machine.execMin b sd sa sb s
  | .max b sd sa sb => Sys2Proof.Machine.execMax b sd sa sb s
  | .minu b sd sa sb => Sys2Proof.Machine.execMinu b sd sa sb s
  | .maxu b sd sa sb => Sys2Proof.Machine.execMaxu b sd sa sb s
  | .mul b sd sa sb => Sys2Proof.Machine.execMul b sd sa sb s
  | .mulhs b sd sa sb => Sys2Proof.Machine.execMulhs b sd sa sb s
  | .mulhu b sd sa sb => Sys2Proof.Machine.execMulhu b sd sa sb s
  | .div b sd sa sb => Sys2Proof.Machine.execDiv b sd sa sb s
  | .divu b sd sa sb => Sys2Proof.Machine.execDivu b sd sa sb s
  | .rem b sd sa sb => Sys2Proof.Machine.execRem b sd sa sb s
  | .remu b sd sa sb => Sys2Proof.Machine.execRemu b sd sa sb s
  | .clz b sd sa => Sys2Proof.Machine.execClz b sd sa s
  | .popc b sd sa => Sys2Proof.Machine.execPopc b sd sa s
  | .addk b sd sa imm => Sys2Proof.Machine.execAddk b sd sa imm s
  | .andk b sd sa imm => Sys2Proof.Machine.execAndk b sd sa imm s
  | .ork b sd sa imm => Sys2Proof.Machine.execOrk b sd sa imm s
  | .xork b sd sa imm => Sys2Proof.Machine.execXork b sd sa imm s
  | .setltk b sd sa imm => Sys2Proof.Machine.execSetltk b sd sa imm s
  | .setltuk b sd sa imm => Sys2Proof.Machine.execSetltuk b sd sa imm s
  | .rsubk b sd sa imm => Sys2Proof.Machine.execRsubk b sd sa imm s
  | .kset b sd imm => Sys2Proof.Machine.execKset b sd imm s
  | .khi b sd imm => Sys2Proof.Machine.execKhi b sd imm s
  | .pcadd b sd imm => Sys2Proof.Machine.execPcadd b sd imm s
  | .slli b sd sa amt => Sys2Proof.Machine.execSlli b sd sa amt s
  | .srli b sd sa amt => Sys2Proof.Machine.execSrli b sd sa amt s
  | .srai b sd sa amt => Sys2Proof.Machine.execSrai b sd sa amt s
  | .roli b sd sa amt => Sys2Proof.Machine.execRoli b sd sa amt s
  | .rori b sd sa amt => Sys2Proof.Machine.execRori b sd sa amt s
  | .bcEq b sa sb off => Sys2Proof.Machine.execBcEq b sa sb off s
  | .bcNe b sa sb off => Sys2Proof.Machine.execBcNe b sa sb off s
  | .bcLt b sa sb off => Sys2Proof.Machine.execBcLt b sa sb off s
  | .bcGe b sa sb off => Sys2Proof.Machine.execBcGe b sa sb off s
  | .bcLtu b sa sb off => Sys2Proof.Machine.execBcLtu b sa sb off s
  | .bcGeu b sa sb off => Sys2Proof.Machine.execBcGeu b sa sb off s
  | .bcLe b sa sb off => Sys2Proof.Machine.execBcLe b sa sb off s
  | .bcGt b sa sb off => Sys2Proof.Machine.execBcGt b sa sb off s
  | .bcTz b sa sb off => Sys2Proof.Machine.execBcTz b sa sb off s
  | .bcTnz b sa sb off => Sys2Proof.Machine.execBcTnz b sa sb off s
  | .jrel b sd off => Sys2Proof.Machine.execJrel b sd off s
  | .jreg b sd sa imm => Sys2Proof.Machine.execJreg b sd sa imm s
  | .bpany b pa off => Sys2Proof.Machine.execBpany b pa off s
  | .bpnone b pa off => Sys2Proof.Machine.execBpnone b pa off s
  | .ldB b sd sa imm => Sys2Proof.Machine.execLdB b sd sa imm s
  | .ldBu b sd sa imm => Sys2Proof.Machine.execLdBu b sd sa imm s
  | .ldH b sd sa imm => Sys2Proof.Machine.execLdH b sd sa imm s
  | .ldHu b sd sa imm => Sys2Proof.Machine.execLdHu b sd sa imm s
  | .ldW b sd sa imm => Sys2Proof.Machine.execLdW b sd sa imm s
  | .stB b s_ sa imm => Sys2Proof.Machine.execStB b s_ sa imm s
  | .stH b s_ sa imm => Sys2Proof.Machine.execStH b s_ sa imm s
  | .stW b s_ sa imm => Sys2Proof.Machine.execStW b s_ sa imm s
  | .vld b vd sa pg off => Sys2Proof.Machine.execVld b vd sa pg off s
  | .vst b vd sa pg off => Sys2Proof.Machine.execVst b vd sa pg off s
  | .vlds b vd sa sb pg => Sys2Proof.Machine.execVlds b vd sa sb pg s
  | .vsts b vd sa sb pg => Sys2Proof.Machine.execVsts b vd sa sb pg s
  | .vldbu b vd sa pg off => Sys2Proof.Machine.execVldbu b vd sa pg off s
  | .vstb b vd sa pg off => Sys2Proof.Machine.execVstb b vd sa pg off s
  | .lfr b vd sa age fld => Sys2Proof.Machine.execLfr b vd sa age fld s
  | .emit b va => Sys2Proof.Machine.execEmit b va s
  | .yield b => Sys2Proof.Machine.execYield b s
  | .halt b => Sys2Proof.Machine.execHalt b s
  | .cpost b sd sa sb => Sys2Proof.Machine.execCpost b sd sa sb s
  | .cwait b flag => Sys2Proof.Machine.execCwait b flag s
  | .mfc b s_ csr => Sys2Proof.Machine.execMfc b s_ csr s
  | .mtc b s_ csr => Sys2Proof.Machine.execMtc b s_ csr s
  | .fence b => Sys2Proof.Machine.execFence b s
  | .vadd b vd va vb pg w => Sys2Proof.Machine.execVadd b vd va vb pg w s
  | .vsub b vd va vb pg w => Sys2Proof.Machine.execVsub b vd va vb pg w s
  | .vadds b vd va vb pg w => Sys2Proof.Machine.execVadds b vd va vb pg w s
  | .vsubs b vd va vb pg w => Sys2Proof.Machine.execVsubs b vd va vb pg w s
  | .vaddus b vd va vb pg w => Sys2Proof.Machine.execVaddus b vd va vb pg w s
  | .vsubus b vd va vb pg w => Sys2Proof.Machine.execVsubus b vd va vb pg w s
  | .vneg b vd va pg w => Sys2Proof.Machine.execVneg b vd va pg w s
  | .vnegs b vd va pg w => Sys2Proof.Machine.execVnegs b vd va pg w s
  | .vabs b vd va pg w => Sys2Proof.Machine.execVabs b vd va pg w s
  | .vabss b vd va pg w => Sys2Proof.Machine.execVabss b vd va pg w s
  | .vabsdu b vd va vb pg w => Sys2Proof.Machine.execVabsdu b vd va vb pg w s
  | .vavgu b vd va vb pg w => Sys2Proof.Machine.execVavgu b vd va vb pg w s
  | .vand b vd va vb pg w => Sys2Proof.Machine.execVand b vd va vb pg w s
  | .vor b vd va vb pg w => Sys2Proof.Machine.execVor b vd va vb pg w s
  | .vxor b vd va vb pg w => Sys2Proof.Machine.execVxor b vd va vb pg w s
  | .vandn b vd va vb pg w => Sys2Proof.Machine.execVandn b vd va vb pg w s
  | .vmin b vd va vb pg w => Sys2Proof.Machine.execVmin b vd va vb pg w s
  | .vmax b vd va vb pg w => Sys2Proof.Machine.execVmax b vd va vb pg w s
  | .vminu b vd va vb pg w => Sys2Proof.Machine.execVminu b vd va vb pg w s
  | .vmaxu b vd va vb pg w => Sys2Proof.Machine.execVmaxu b vd va vb pg w s
  | .vmul b vd va vb pg w => Sys2Proof.Machine.execVmul b vd va vb pg w s
  | .vmulhs b vd va vb pg w => Sys2Proof.Machine.execVmulhs b vd va vb pg w s
  | .vmulhu b vd va vb pg w => Sys2Proof.Machine.execVmulhu b vd va vb pg w s
  | .vmulq b vd va vb pg => Sys2Proof.Machine.execVmulq b vd va vb pg s
  | .vmulus b vd va vb pg w => Sys2Proof.Machine.execVmulus b vd va vb pg w s
  | .vmac b vd va vb pg w => Sys2Proof.Machine.execVmac b vd va vb pg w s
  | .vmacs b vd va vb pg w => Sys2Proof.Machine.execVmacs b vd va vb pg w s
  | .vmacus b vd va vb pg w => Sys2Proof.Machine.execVmacus b vd va vb pg w s
  | .vmsub b vd va vb pg w => Sys2Proof.Machine.execVmsub b vd va vb pg w s
  | .vmacw b vd va vb pg => Sys2Proof.Machine.execVmacw b vd va vb pg s
  | .vmacwu b vd va vb pg => Sys2Proof.Machine.execVmacwu b vd va vb pg s
  | .vmacws b vd va vb pg => Sys2Proof.Machine.execVmacws b vd va vb pg s
  | .vsadw b vd va vb pg => Sys2Proof.Machine.execVsadw b vd va vb pg s
  | .vcmpEq b pd va vb pg w => Sys2Proof.Machine.execVcmpEq b pd va vb pg w s
  | .vcmpNe b pd va vb pg w => Sys2Proof.Machine.execVcmpNe b pd va vb pg w s
  | .vcmpLt b pd va vb pg w => Sys2Proof.Machine.execVcmpLt b pd va vb pg w s
  | .vcmpLe b pd va vb pg w => Sys2Proof.Machine.execVcmpLe b pd va vb pg w s
  | .vcmpGt b pd va vb pg w => Sys2Proof.Machine.execVcmpGt b pd va vb pg w s
  | .vcmpGe b pd va vb pg w => Sys2Proof.Machine.execVcmpGe b pd va vb pg w s
  | .vcmpLtu b pd va vb pg w => Sys2Proof.Machine.execVcmpLtu b pd va vb pg w s
  | .vcmpLeu b pd va vb pg w => Sys2Proof.Machine.execVcmpLeu b pd va vb pg w s
  | .vcmpGtu b pd va vb pg w => Sys2Proof.Machine.execVcmpGtu b pd va vb pg w s
  | .vcmpGeu b pd va vb pg w => Sys2Proof.Machine.execVcmpGeu b pd va vb pg w s
  | .vcmpTest b pd va vb pg w => Sys2Proof.Machine.execVcmpTest b pd va vb pg w s
  | .vsll b vd va vb pg w => Sys2Proof.Machine.execVsll b vd va vb pg w s
  | .vsrl b vd va vb pg w => Sys2Proof.Machine.execVsrl b vd va vb pg w s
  | .vsra b vd va vb pg w => Sys2Proof.Machine.execVsra b vd va vb pg w s
  | .vrol b vd va vb pg w => Sys2Proof.Machine.execVrol b vd va vb pg w s
  | .vror b vd va vb pg w => Sys2Proof.Machine.execVror b vd va vb pg w s
  | .vsrar b vd va vb pg w => Sys2Proof.Machine.execVsrar b vd va vb pg w s
  | .vsrlr b vd va vb pg w => Sys2Proof.Machine.execVsrlr b vd va vb pg w s
  | .vslls b vd va vb pg w => Sys2Proof.Machine.execVslls b vd va vb pg w s
  | .vext b vd va vb sc w => Sys2Proof.Machine.execVext b vd va vb sc w s
  | .vslup b vd va sc w => Sys2Proof.Machine.execVslup b vd va sc w s
  | .vsldn b vd va sc w => Sys2Proof.Machine.execVsldn b vd va sc w s
  | .vrot b vd va sc w => Sys2Proof.Machine.execVrot b vd va sc w s
  | .vrev b vd va w => Sys2Proof.Machine.execVrev b vd va w s
  | .vtbl b vd va vb w => Sys2Proof.Machine.execVtbl b vd va vb w s
  | .vsplat b vd va sc w => Sys2Proof.Machine.execVsplat b vd va sc w s
  | .vzipl b vd va vb w => Sys2Proof.Machine.execVzipl b vd va vb w s
  | .vziph b vd va vb w => Sys2Proof.Machine.execVziph b vd va vb w s
  | .vuzpe b vd va vb w => Sys2Proof.Machine.execVuzpe b vd va vb w s
  | .vuzpo b vd va vb w => Sys2Proof.Machine.execVuzpo b vd va vb w s
  | .vrsum b sd va pg w => Sys2Proof.Machine.execVrsum b sd va pg w s
  | .vrsumu b sd va pg w => Sys2Proof.Machine.execVrsumu b sd va pg w s
  | .vrmin b sd va pg w => Sys2Proof.Machine.execVrmin b sd va pg w s
  | .vrmax b sd va pg w => Sys2Proof.Machine.execVrmax b sd va pg w s
  | .vrminu b sd va pg w => Sys2Proof.Machine.execVrminu b sd va pg w s
  | .vrmaxu b sd va pg w => Sys2Proof.Machine.execVrmaxu b sd va pg w s
  | .vrband b sd va pg w => Sys2Proof.Machine.execVrband b sd va pg w s
  | .vrbor b sd va pg w => Sys2Proof.Machine.execVrbor b sd va pg w s
  | .vrargmax b sd va pg w => Sys2Proof.Machine.execVrargmax b sd va pg w s
  | .vrargmin b sd va pg w => Sys2Proof.Machine.execVrargmin b sd va pg w s
  | .vmov b vd va pg w => Sys2Proof.Machine.execVmov b vd va pg w s
  | .vsel b vd va vb pg w => Sys2Proof.Machine.execVsel b vd va vb pg w s
  | .viota b vd pg w => Sys2Proof.Machine.execViota b vd pg w s
  | .vins b vd k sb w => Sys2Proof.Machine.execVins b vd k sb w s
  | .vextr b sd va k w => Sys2Proof.Machine.execVextr b sd va k w s
  | .vextru b sd va k w => Sys2Proof.Machine.execVextru b sd va k w s
  | .vwiden b vd va pg => Sys2Proof.Machine.execVwiden b vd va pg s
  | .vwidenu b vd va pg => Sys2Proof.Machine.execVwidenu b vd va pg s
  | .vnarrow b vd va pg => Sys2Proof.Machine.execVnarrow b vd va pg s
  | .vnarrows b vd va pg => Sys2Proof.Machine.execVnarrows b vd va pg s
  | .vnarrowus b vd va pg => Sys2Proof.Machine.execVnarrowus b vd va pg s
  | .pand b pd pa pb => Sys2Proof.Machine.execPand b pd pa pb s
  | .por b pd pa pb => Sys2Proof.Machine.execPor b pd pa pb s
  | .pxor b pd pa pb => Sys2Proof.Machine.execPxor b pd pa pb s
  | .pandn b pd pa pb => Sys2Proof.Machine.execPandn b pd pa pb s
  | .pnot b pd pa => Sys2Proof.Machine.execPnot b pd pa s
  | .pset b pd => Sys2Proof.Machine.execPset b pd s
  | .pclr b pd => Sys2Proof.Machine.execPclr b pd s
  | .pfirst b pd pa => Sys2Proof.Machine.execPfirst b pd pa s
  | .ptos b pa s_ => Sys2Proof.Machine.execPtos b pa s_ s
  | .stop b pd s_ => Sys2Proof.Machine.execStop b pd s_ s
  | .pcnt b pa s_ => Sys2Proof.Machine.execPcnt b pa s_ s
  | .vli b vd imm => Sys2Proof.Machine.execVli b vd imm s
  | .tapReset => Sys2Proof.Machine.execTapReset s
  | .extest drive => Sys2Proof.Machine.execExtest s drive
  | .samplePreload pins preload => Sys2Proof.Machine.execSamplePreload pins s preload
  | .idcode => Sys2Proof.Machine.execIdcode s
  | .clamp => Sys2Proof.Machine.execClamp s
  | .highz => Sys2Proof.Machine.execHighz s
  | .cpHalt value => Sys2Proof.Machine.execCpHalt s value
  | .cpResume value => Sys2Proof.Machine.execCpResume s value
  | .cpStep value => Sys2Proof.Machine.execCpStep s value
  | .bayHalt value => Sys2Proof.Machine.execBayHalt s value
  | .bayResume value => Sys2Proof.Machine.execBayResume s value
  | .bayStep value => Sys2Proof.Machine.execBayStep s value
  | .selWr value => Sys2Proof.Machine.execSelWr value s
  | .dbgAccess dr => Sys2Proof.Machine.execDbgAccess dr s
  | .refclkReturn => Sys2Proof.Machine.execRefclkReturn s
  | .childLinkLoss => Sys2Proof.Machine.execChildLinkLoss s
  | .frameRestoreDone b => Sys2Proof.Machine.execFrameRestoreDone b s
  | .hkCalConverged conv => Sys2Proof.Machine.execHkCalConverged conv s
  | .nvmDeferredWrite item => Sys2Proof.Machine.execNvmDeferredWrite item s
  | .choreAgeLimit chore t => Sys2Proof.Machine.execChoreAgeLimit chore t s
  | .calCaptureTimeout t => Sys2Proof.Machine.execCalCaptureTimeout t s
  | .chargerSourceLoss aux => Sys2Proof.Machine.execChargerSourceLoss aux s
  | .chargeTermination => Sys2Proof.Machine.execChargeTermination s

end Sys2Proof.Machine
end

