-- ==== Sys2Proof/Safety.lean ====
section
/-! DEFINITION. The terms that statements use: when a bay executes, how an instruction leaves the registers of its job, when the firmware serves
a command, and the forms of memory that every operation keeps. -/

namespace Sys2Proof.Machine

/-- The canonical form of memory: the listed addresses rise strictly, no listed byte is one that memory need not list, and the marked words rise
strictly. -/
def Memory.wf (m : Memory) : Bool :=
  decide (m.cells.Pairwise fun c d => c.1 < d.1) && m.cells.all (fun c => Memory.lists c.1 c.2) && decide (m.poison.Pairwise (· < ·))

/-- The registers of the job on a bay. -/
def State.regsOf (s : State) (b : BayIx) : JobRegs := (s.getBay b).regs

/-- Bay `b` executes its next instruction: it can issue, and no breakpoint stops it before (R425). -/
def State.executes (s : State) (b : BayIx) : Prop :=
  s.canIssue b = true ∧ ((s.getBay b).skipBrk = true ∨ s.breakAt b (s.regsOf b).pc = none)

/-- The state after bay `b` has executed one instruction that leaves its job the registers `q`. Only that bay changes, and of it only the
registers and the cycle count. -/
def State.ran (s : State) (b : BayIx) (q : JobRegs) : State :=
  let y := s.getBay b
  let z := { y with regs := q, cyc := y.cyc + 1 + BitVec.ofNat 64 (Config.bayExtraCycles b.val y.cyc), skipBrk := false }
  { s with det := { s.det with bays := vset s.det.bays b z } }

/-- The command completes on bay `b`, and the registers of the job before and after are in the relation `rel`. -/
def RunsTo (c : Instr) (s : State) (b : BayIx) (rel : JobRegs → JobRegs → Prop) : Prop :=
  ∃ q, exec c s = .next (s.ran b q) ∧ rel (s.regsOf b) q

/-- PC moved by `k` words on PC[31:0], PC[39:32] kept (R166). -/
def pcMoved (pc : BitVec 40) (k : Int) (pc' : BitVec 40) : Prop :=
  pc'.extractLsb' 32 8 = pc.extractLsb' 32 8 ∧ pc'.extractLsb' 0 32 = pc.extractLsb' 0 32 + BitVec.ofInt 32 (4 * k)

/-- The scalar registers after a write of `x` to `sd`: a write to s0 is discarded (R162). -/
def ScalarsSet (r q : JobRegs) (sd : SReg) (x : Word) : Prop :=
  ∀ k, q.getS k = if k = sd ∧ sd ≠ 0 then x else r.getS k

/-- `sd` gets `x`, the sticky scalar flags in `f` are set, the next instruction follows, and every other register of the job stays. -/
def ScalarTo (sd : SReg) (x f : Word) (r q : JobRegs) : Prop :=
  ScalarsSet r q sd x ∧ pcMoved r.pc 1 q.pc ∧ q = { r with s := q.s, pc := q.pc, sflags := r.sflags ||| f }

/-- A branch or jump: `sd` gets the return address where the instruction links, the PC is as `tgt` says, and every other register of the
job stays. -/
def JumpTo (link : Option SReg) (tgt : BitVec 40 → Prop) (r q : JobRegs) : Prop :=
  (match link with
    | some sd => ScalarsSet r q sd (r.pc.extractLsb' 0 32 + 4)
    | none => q.s = r.s) ∧ tgt q.pc ∧ q = { r with s := q.s, pc := q.pc }

/-- The registers that lane instructions of width `laneWidth W` on `v` touch: `v`, or the pair (R163). -/
def inPair (W : Bool) (v x : VReg) : Prop := x = v ∨ (W = true ∧ x = v + 1)

/-- Every lane of `vd` as `f` says, VOV and VSAT gaining the bits that `ov` and `sat` say, the next instruction following, and every
other register of the job staying (R163, R164). -/
def LanesTo (W : Bool) (vd : VReg) (f : Fin 32 → BitVec (laneWidth W)) (ov sat : Fin 32 → Bool) (r q : JobRegs) : Prop :=
  (∀ i, q.lane W vd i = f i) ∧ (∀ x, ¬ inPair W vd x → vget q.v x = vget r.v x)
    ∧ (∀ i : Fin 32, bit q.vov i.val = (bit r.vov i.val || ov i)) ∧ (∀ i : Fin 32, bit q.vsat i.val = (bit r.vsat i.val || sat i))
    ∧ pcMoved r.pc 1 q.pc ∧ q = { r with v := q.v, pc := q.pc, vov := q.vov, vsat := q.vsat }

/-- What one active lane receives: its value, whether it overflows and whether it is clamped. -/
abbrev LaneRule (w : Nat) := BitVec w × Bool × Bool

/-- A result that sets no flag. -/
def bare {w : Nat} (x : BitVec w) : LaneRule w := (x, false, false)

/-- The low bits of an exact signed result, VOV outside MIN–MAX (R163, R189). -/
def wrapping {w : Nat} (x : Int) : LaneRule w := (BitVec.ofInt w x, decide (x < -(2 ^ (w - 1)) ∨ 2 ^ (w - 1) ≤ x), false)

/-- The value nearest to an exact result in `lo`–`hi`, VSAT when it lies outside (R189). -/
def clamping {w : Nat} (lo hi x : Int) : LaneRule w := (BitVec.ofInt w (max lo (min hi x)), false, decide (x < lo ∨ hi < x))

/-- The nearest signed value. -/
def clampingS {w : Nat} (x : Int) : LaneRule w := clamping (-(2 ^ (w - 1))) (2 ^ (w - 1) - 1) x

/-- The nearest unsigned value. -/
def clampingU {w : Nat} (x : Int) : LaneRule w := clamping 0 (2 ^ w - 1) x

/-- A predicated lane instruction: an active lane as `f` says of it, an inactive lane unchanged and without a flag (R164). -/
def ActiveLanesTo (W : Bool) (vd : VReg) (pg : PReg) (f : JobRegs → Fin 32 → LaneRule (laneWidth W)) (r q : JobRegs) : Prop :=
  LanesTo W vd (fun i => if r.active pg i then (f r i).1 else r.lane W vd i)
    (fun i => r.active pg i && (f r i).2.1) (fun i => r.active pg i && (f r i).2.2) r q

/-- A predicate register gets `x`, a write to p0 discarded, the next instruction follows and every other register stays (R162). -/
def PredTo (pd : PReg) (x : Word) (r q : JobRegs) : Prop :=
  (∀ k, q.getP k = if k = pd ∧ pd ≠ 0 then x else r.getP k) ∧ pcMoved r.pc 1 q.pc ∧ q = { r with p := q.p, pc := q.pc }

/-- The operands that R169 asks of an instruction of lane width `laneWidth W`: with W = 1 each vector register is even. -/
def evens (W : Bool) (vs : List VReg) : Prop := W = true → ∀ v ∈ vs, v.val % 2 = 0

/-- A second source that is even, or a scalar. -/
def evenSrc (W : Bool) (b : VSrc) : Prop := W = true → b.even = true

/-- The state after bay `b` has executed a memory instruction: as `State.ran`, with the entries of the bay's TLB after it (R209). -/
def State.ranTlb (s : State) (b : BayIx) (q : JobRegs) (tl : List TlbEntry) : State :=
  (s.ran b q).onBay b fun y => { y with tlb := tl }

/-- Every access of bay `b` at the virtual addresses `vas` is translated and allowed (R206–R210): `pas` are the physical addresses reached and
`tl` the TLB after it. -/
def State.reaches (s : State) (b : BayIx) (k : Access) (vas : List (BitVec 40)) (pas : List Nat) (tl : List TlbEntry) : Prop :=
  s.accessAll ((s.getBay b).requester b) k (s.getBay b).tlb vas = .ok (pas, tl)

/-- The virtual address of a scalar access of `n` bytes (R174). -/
def scalarVa (r : JobRegs) (sa : SReg) (imm : BitVec 14) (n : Nat) : BitVec 40 :=
  r.dseg.extractLsb' 0 8 ++ ((r.getS sa + imm.signExtend 32 * BitVec.ofNat 32 n) &&& ~~~(BitVec.ofNat 32 (n - 1)))

/-- The virtual address of lane `i` of a vector access to a block of `32 * n` bytes (R175). -/
def blockVa (r : JobRegs) (sa : SReg) (off : BitVec 13) (n : Nat) (i : Fin 32) : BitVec 40 :=
  r.dseg.extractLsb' 0 8 ++
    (((r.getS sa + off.signExtend 32 * BitVec.ofNat 32 (32 * n)) &&& ~~~(BitVec.ofNat 32 (32 * n - 1))) + BitVec.ofNat 32 (n * i.val))

/-- The virtual address of lane `i` of a strided access (R175). -/
def strideVa (r : JobRegs) (sa sb : SReg) (i : Fin 32) : BitVec 40 :=
  r.dseg.extractLsb' 0 8 ++ ((r.getS sa + BitVec.ofNat 32 i.val * r.getS sb) &&& ~~~(1#32))

/-- The state of bay `b`'s memory after accesses at `vas` that succeed (R211): the words that their walks read and the words `data` are
corrected where their ECC corrects an error, each correction being counted in telemetry. -/
def State.afterReads (s : State) (b : BayIx) (vas : List (BitVec 40)) (data : List Nat) : State :=
  s.met ((s.getBay b).requester b) (s.getBay b).tlb vas data

/-- A scalar load of `n` bytes completes where its address is reached, holds no poison and meets no watchpoint: `sd` gets `ext` of the
little-endian number there, the words read are corrected where they need it, every byte of memory reads as before, and nothing else changes
but PC, the TLB and the cycle count. -/
def LoadsScalar (c : Instr) (s : State) (b : BayIx) (n : Nat) (sd sa : SReg) (imm : BitVec 14) (ext : Nat → Word) : Prop :=
  ∀ pa tl, s.reaches b .load [scalarVa (s.regsOf b) sa imm n] [pa] tl → s.mem.poisoned (pa / 8) = false →
    s.watchAt b [(scalarVa (s.regsOf b) sa imm n, n, false)] = none →
    ∃ q t, t = s.afterReads b [scalarVa (s.regsOf b) sa imm n] [pa / 8] ∧ exec c s = .next (t.ranTlb b q tl)
      ∧ ScalarTo sd (ext (s.mem.num pa n)) 0 (s.regsOf b) q ∧ (s.mem.wf = true → ∀ a, t.mem.get a = s.mem.get a)

/-- A vector load of `n` bytes for each active lane at `va i` completes where every address is reached, holds no poison and meets no
watchpoint: each active lane gets the number there, the words read are corrected where they need it, every byte of memory reads as before,
and nothing else changes but PC, the TLB and the cycle count. -/
def LoadsLanes (c : Instr) (s : State) (b : BayIx) (n : Nat) (vd : VReg) (pg : PReg) (va : Fin 32 → BitVec 40) : Prop :=
  let r := s.regsOf b
  ∀ (pa : Fin 32 → Nat) tl, s.reaches b .load ((r.actives pg).map va) ((r.actives pg).map pa) tl →
    (∀ i ∈ r.actives pg, s.mem.poisoned (pa i / 8) = false) →
    s.watchAt b ((r.actives pg).map fun i => (va i, n, false)) = none →
    ∃ q t, t = s.afterReads b ((r.actives pg).map va) ((r.actives pg).map fun i => pa i / 8) ∧ exec c s = .next (t.ranTlb b q tl)
      ∧ LanesTo false vd (fun i => if r.active pg i then BitVec.ofNat 16 (s.mem.num (pa i) n) else r.lane16 vd i)
        (fun _ => false) (fun _ => false) r q
      ∧ (s.mem.wf = true → ∀ a, t.mem.get a = s.mem.get a)

/-- With memory in canonical form, a scalar store of `n` bytes completes where its address is reached, no poisoned word is partly written (R211) and no watchpoint is met.
The `n` bytes stored are the low bytes of `x`, little-endian; every other byte of memory reads as before, the word is corrected where it needs it,
and nothing else changes but PC, the TLB and the cycle count. -/
def StoresScalar (c : Instr) (s : State) (b : BayIx) (n : Nat) (sa : SReg) (imm : BitVec 14) (x : Word) : Prop :=
  let va := scalarVa (s.regsOf b) sa imm n
  s.mem.wf = true → ∀ pa tl, s.reaches b .store [va] [pa] tl → s.mem.poisoned (pa / 8) = false → s.watchAt b [(va, n, true)] = none →
    ∃ q m, exec c s = .next ({ s.afterReads b [va] [pa / 8] with mem := m }.ranTlb b q tl)
      ∧ q = { s.regsOf b with pc := q.pc } ∧ pcMoved (s.regsOf b).pc 1 q.pc
      ∧ (∀ k, k < n → m.get (pa + k) = BitVec.ofNat 8 (x.toNat / 256 ^ k))
      ∧ (∀ a, (a < pa ∨ pa + n ≤ a) → m.get a = s.mem.get a) ∧ m.poison = s.mem.poison

/-- Active lanes that store `n` bytes each at `pa` store every byte of word `w`. -/
def storesWhole (r : JobRegs) (pg : PReg) (pa : Fin 32 → Nat) (n w : Nat) : Bool :=
  (List.range 8).all fun k => (r.actives pg).any fun i => decide (pa i ≤ 8 * w + k ∧ 8 * w + k < pa i + n)

/-- With memory in canonical form, a vector store of the low `n` bytes of each active lane at `va i` completes where every address is reached, no poisoned word is
stored in part and no watchpoint is met. A byte that several active lanes store holds that of the highest one, every byte that none stores reads
as before, the poison of every word that is stored whole is cleared, the words stored in part are corrected where they need it, and nothing else changes
but PC, the TLB and the cycle count (R175, R211). -/
def StoresLanes (c : Instr) (s : State) (b : BayIx) (n : Nat) (vs : VReg) (pg : PReg) (va : Fin 32 → BitVec 40) : Prop :=
  let r := s.regsOf b
  s.mem.wf = true → ∀ (pa : Fin 32 → Nat) tl, s.reaches b .store ((r.actives pg).map va) ((r.actives pg).map pa) tl →
    (∀ i ∈ r.actives pg, s.mem.poisoned (pa i / 8) = true → storesWhole r pg pa n (pa i / 8) = true) →
    s.watchAt b ((r.actives pg).map fun i => (va i, n, true)) = none →
    ∃ q m, exec c s = .next ({ s.afterReads b ((r.actives pg).map va)
          (partWords ((r.actives pg).flatMap fun i => cellsAt (pa i) (bytesLe n ((r.lane16 vs i).toNat % 2 ^ (8 * n))))) with mem := m }.ranTlb b q tl)
      ∧ q = { r with pc := q.pc } ∧ pcMoved r.pc 1 q.pc ∧ m.poison = s.mem.poison.filter (fun w => !storesWhole r pg pa n w)
      ∧ (∀ i k, r.active pg i → k < n → (∀ j, r.active pg j → i < j → ¬ (pa j ≤ pa i + k ∧ pa i + k < pa j + n)) →
          m.get (pa i + k) = BitVec.ofNat 8 ((r.lane16 vs i).toNat / 256 ^ k))
      ∧ (∀ a, (∀ i, r.active pg i → ¬ (pa i ≤ a ∧ a < pa i + n)) → m.get a = s.mem.get a)

/-- A load of which every access is reached but some reads a poisoned word (R211): the instruction has no effect on registers and memory, and the job
takes the ECC fault of the first access that does. -/
def PoisonFaults (c : Instr) (s : State) (b : BayIx) (vas : List (BitVec 40)) : Prop :=
  ∀ pas tl (i : Nat) va pa, s.reaches b .load vas pas tl → vas[i]? = some va → pas[i]? = some pa → s.mem.poisoned (pa / 8) = true →
    (∀ j < i, ∀ p, pas[j]? = some p → s.mem.poisoned (p / 8) = false) →
    ∃ m, c.toMyvik = some (b, m) ∧ exec c s = .next
      ((s.tickCycle b).bayFault b { cls := .ecc, walk := false, loft := false, page := false, va := va, found := some (pa / 8) } 0 (myvikEncode m))

/-- A vector store of which some lane stores a poisoned word in part (R211): nothing is stored, and the job takes the ECC fault of the first such lane. -/
def PartPoisonFaults (c : Instr) (s : State) (b : BayIx) (n : Nat) (pg : PReg) (va : Fin 32 → BitVec 40) : Prop :=
  let r := s.regsOf b
  ∀ (pa : Fin 32 → Nat) tl (i : Fin 32), s.reaches b .store ((r.actives pg).map va) ((r.actives pg).map pa) tl → r.active pg i = true →
    s.mem.poisoned (pa i / 8) = true → storesWhole r pg pa n (pa i / 8) = false →
    (∀ j < i, r.active pg j = true → s.mem.poisoned (pa j / 8) = true → storesWhole r pg pa n (pa j / 8) = true) →
    ∃ m, c.toMyvik = some (b, m) ∧ exec c s = .next
      ((s.tickCycle b).bayFault b { cls := .ecc, walk := false, loft := false, page := false, va := va i, found := some (pa i / 8) } 0 (myvikEncode m))

/-- The registers after an instruction that changes nothing but PC. -/
def NextPc (r q : JobRegs) : Prop := q = { r with pc := q.pc } ∧ pcMoved r.pc 1 q.pc

/-- The canonical form of the bytes of the host window's slots and sub-windows: rising addresses, no byte 0 listed. -/
def hostWf (bytes : List Host.Cell) : Bool := decide (bytes.Pairwise fun c d => c.1 < d.1) && bytes.all fun c => c.2 ≠ 0

/-- A host address in a slot or in its sub-window (R252). -/
def inSlot (slot : Slot) (a : Nat) : Prop :=
  (slotAddr slot ≤ a ∧ a < slotAddr slot + 0x100) ∨ (bulkAddr slot ≤ a ∧ a < bulkAddr slot + 0x1000)

/-- A command posted on a slot with header `h` passes steps 1–6 and 8 of R266: the firmware runs in PHASE READY and is not halted by debug, the slot is
the host's, the header is well formed, the session is `ses`, MAINT is not another session's or the command is exempt, the session may issue it
(0 any caller, 1–3 that role or a higher one, 4 any live session), the mode allows it, and where it is audited the log has room. -/
def State.admits (s : State) (slot : Slot) (h : CmdHeader) (role : Nat) (modes : Mode → Bool) (exempt audited : Bool) (ses : Option Session) :
    Prop :=
  (s.host.phase = 5 ∧ s.dbg.cpHalted = false ∧ bit s.host.ring slot.val = false ∧ hostWf s.host.bytes = true)
    ∧ (h.reserved = 0 ∧ h.flags.toNat < 2 ∧ h.status = 0 ∧ h.elapsed = 0)
    ∧ s.sessionOf slot h.session = some ses ∧ (exempt = true ∨ s.busyMaint slot ses = false)
    ∧ (role = 0 ∨ ∃ x, ses = some x ∧ (role = 4 ∨ role ≤ x.role.toNat)) ∧ modes s.mode.mode = true ∧ (audited = true → s.logFull = false)

/-- `u` is `s` with a command posted on the slot: RING set, DONE cleared, its bytes in the slot and sub-window alone, what its audit entry will say
kept, the TB of the doorbell taken, the idle timer of the slot's session restarted where the command came under it (R294), and no sync frame sent yet
by this command. -/
def State.posted_ (s u : State) (slot : Slot) : Prop :=
  ∃ b a x, (∀ y, ¬ inSlot slot y → hostGet b y = hostGet s.host.bytes y)
    ∧ (x = vget s.tack.sessions slot ∨ ∃ y, vget s.tack.sessions slot = some y ∧ x = some { y with since := s.tack.periods, held := true })
    ∧ u = { s with
        sync := { s.sync with sentUp := [], sentDown := [] },
        tack := { s.tack with sessions := vset s.tack.sessions slot x },
        host := { s.host with
          bytes := b, ring := setBit s.host.ring slot.val true, done := setBit s.host.done slot.val false, audits := vset s.host.audits slot a,
          rungTb := vset s.host.rungTb slot s.tb } }

/-- The command is answered at once with that status, payload and bulk data, after the effect `eff` and nothing else. -/
def Replies (c : Instr) (s : State) (slot : Slot) (st : Byte) (payload bulk : List Byte) (eff : State → State) : Prop :=
  ∃ u, s.posted_ u slot ∧ exec c s = .next ((eff u).writeAnswer slot st payload bulk)

/-- The command is accepted and waits on its slot for the event `w`, after the effect `eff` and nothing else (R267). -/
def Waits (c : Instr) (s : State) (slot : Slot) (w : Wait) (eff : State → State) : Prop :=
  ∃ u, s.posted_ u slot ∧ exec c s = .next { eff u with host := { (eff u).host with waits := vset (eff u).host.waits slot (some w) } }

/-- Every mode of the command tables. -/
def anyMode (m : Mode) : Bool := decide (m ≠ .boot)

/-- One of some modes. -/
def modeIn (ms : List Mode) (m : Mode) : Bool := ms.contains m

end Sys2Proof.Machine
end

