-- ==== Sys2Proof/Certificates/Slice0/Obligations.lean ====
section
/-! DEFINITION. The statements about the model. -/

open Sys2Proof Sys2Proof.Machine

/-- R171, R190, R191: each three-register scalar instruction on a bay that executes it completes. `sd` gets the value of the tables, only
DIV, DIVU, REM and REMU set a flag, and nothing else changes but PC and the cycle count. -/
def Obligations.ScalarInstructionsWriteTheirResult : Prop :=
  ∀ (s : State) (b : BayIx) (sd sa sb : SReg), s.executes b →
    let x := (s.regsOf b).getS sa
    let y := (s.regsOf b).getS sb
    let n := y.toNat % 256
    let one (c : Bool) : Word := if c then 1 else 0
    let corner := x = 0x80000000#32 ∧ y = 0xFFFFFFFF#32
    RunsTo (.add b sd sa sb) s b (ScalarTo sd (x + y) 0) ∧ RunsTo (.sub b sd sa sb) s b (ScalarTo sd (x - y) 0)
    ∧ RunsTo (.and b sd sa sb) s b (ScalarTo sd (x &&& y) 0) ∧ RunsTo (.or b sd sa sb) s b (ScalarTo sd (x ||| y) 0)
    ∧ RunsTo (.xor b sd sa sb) s b (ScalarTo sd (x ^^^ y) 0) ∧ RunsTo (.andn b sd sa sb) s b (ScalarTo sd (x &&& ~~~y) 0)
    ∧ RunsTo (.sll b sd sa sb) s b (ScalarTo sd (x <<< n) 0) ∧ RunsTo (.srl b sd sa sb) s b (ScalarTo sd (x >>> n) 0)
    ∧ RunsTo (.sra b sd sa sb) s b (ScalarTo sd (x.sshiftRight n) 0)
    ∧ RunsTo (.rol b sd sa sb) s b (ScalarTo sd ((x <<< (n % 32)) ||| (x >>> ((32 - n % 32) % 32))) 0)
    ∧ RunsTo (.ror b sd sa sb) s b (ScalarTo sd ((x >>> (n % 32)) ||| (x <<< ((32 - n % 32) % 32))) 0)
    ∧ RunsTo (.setlt b sd sa sb) s b (ScalarTo sd (one (decide (x.toInt < y.toInt))) 0)
    ∧ RunsTo (.setltu b sd sa sb) s b (ScalarTo sd (one (decide (x.toNat < y.toNat))) 0)
    ∧ RunsTo (.min b sd sa sb) s b (ScalarTo sd (BitVec.ofInt 32 (min x.toInt y.toInt)) 0)
    ∧ RunsTo (.max b sd sa sb) s b (ScalarTo sd (BitVec.ofInt 32 (max x.toInt y.toInt)) 0)
    ∧ RunsTo (.minu b sd sa sb) s b (ScalarTo sd (BitVec.ofNat 32 (min x.toNat y.toNat)) 0)
    ∧ RunsTo (.maxu b sd sa sb) s b (ScalarTo sd (BitVec.ofNat 32 (max x.toNat y.toNat)) 0)
    ∧ RunsTo (.mul b sd sa sb) s b (ScalarTo sd (x * y) 0)
    ∧ RunsTo (.mulhs b sd sa sb) s b (ScalarTo sd ((x.signExtend 64 * y.signExtend 64).extractLsb' 32 32) 0)
    ∧ RunsTo (.mulhu b sd sa sb) s b (ScalarTo sd ((x.setWidth 64 * y.setWidth 64).extractLsb' 32 32) 0)
    ∧ RunsTo (.div b sd sa sb) s b (ScalarTo sd
        (if y = 0 then (if 0 ≤ x.toInt then 0x7FFFFFFF#32 else 0x80000000#32) else BitVec.ofInt 32 (x.toInt.tdiv y.toInt))
        (if y = 0 then 2 else if corner then 1 else 0))
    ∧ RunsTo (.divu b sd sa sb) s b (ScalarTo sd (if y = 0 then 0xFFFFFFFF#32 else BitVec.ofNat 32 (x.toNat / y.toNat))
        (if y = 0 then 2 else 0))
    ∧ RunsTo (.rem b sd sa sb) s b (ScalarTo sd (if y = 0 then x else BitVec.ofInt 32 (x.toInt.tmod y.toInt))
        (if y = 0 then 2 else if corner then 1 else 0))
    ∧ RunsTo (.remu b sd sa sb) s b (ScalarTo sd (if y = 0 then x else BitVec.ofNat 32 (x.toNat % y.toNat)) (if y = 0 then 2 else 0))
    ∧ RunsTo (.clz b sd sa) s b (ScalarTo sd x.clz 0) ∧ RunsTo (.popc b sd sa) s b (ScalarTo sd x.cpop 0)

/-- R172, R191: the immediate, constant and shift-immediate instructions complete with the value of the tables, set no flag and change
nothing else but PC and the cycle count. -/
def Obligations.ImmediateInstructionsWriteTheirResult : Prop :=
  ∀ (s : State) (b : BayIx) (sd sa : SReg) (imm : BitVec 14) (amt : Byte) (k : BitVec 19) (h : BitVec 16), s.executes b →
    let x := (s.regsOf b).getS sa
    let n := amt.toNat
    let one (c : Bool) : Word := if c then 1 else 0
    RunsTo (.addk b sd sa imm) s b (ScalarTo sd (x + imm.signExtend 32) 0)
    ∧ RunsTo (.andk b sd sa imm) s b (ScalarTo sd (x &&& imm.setWidth 32) 0)
    ∧ RunsTo (.ork b sd sa imm) s b (ScalarTo sd (x ||| imm.setWidth 32) 0)
    ∧ RunsTo (.xork b sd sa imm) s b (ScalarTo sd (x ^^^ imm.setWidth 32) 0)
    ∧ RunsTo (.setltk b sd sa imm) s b (ScalarTo sd (one (decide (x.toInt < imm.toInt))) 0)
    ∧ RunsTo (.setltuk b sd sa imm) s b (ScalarTo sd (one (decide (x.toNat < imm.toNat))) 0)
    ∧ RunsTo (.rsubk b sd sa imm) s b (ScalarTo sd (imm.signExtend 32 - x) 0)
    ∧ RunsTo (.kset b sd k) s b (ScalarTo sd (BitVec.ofInt 32 k.toInt) 0)
    ∧ RunsTo (.khi b sd h) s b (ScalarTo sd ((h.setWidth 32 <<< 16) ||| ((s.regsOf b).getS sd &&& 0xFFFF#32)) 0)
    ∧ RunsTo (.pcadd b sd k) s b (ScalarTo sd ((s.regsOf b).pc.extractLsb' 0 32 + k.signExtend 32 * 4) 0)
    ∧ RunsTo (.slli b sd sa amt) s b (ScalarTo sd (x <<< n) 0) ∧ RunsTo (.srli b sd sa amt) s b (ScalarTo sd (x >>> n) 0)
    ∧ RunsTo (.srai b sd sa amt) s b (ScalarTo sd (x.sshiftRight n) 0)
    ∧ RunsTo (.roli b sd sa amt) s b (ScalarTo sd ((x <<< (n % 32)) ||| (x >>> ((32 - n % 32) % 32))) 0)
    ∧ RunsTo (.rori b sd sa amt) s b (ScalarTo sd ((x >>> (n % 32)) ||| (x <<< ((32 - n % 32) % 32))) 0)

/-- R173: a branch whose condition holds moves PC by its offset in words, and otherwise PC goes to the next instruction; JREL and JREG
link and jump, PC[39:32] staying; nothing else changes but the cycle count. A branch word with a reserved condition is illegal. -/
def Obligations.BranchesAndJumpsMoveThePc : Prop :=
  ∀ (s : State) (b : BayIx) (sa sb sd : SReg) (pa : PReg) (off : BitVec 13) (far : BitVec 21) (imm : BitVec 14) (po : BitVec 17) (u : Word),
    s.executes b →
    let r := s.regsOf b
    let x := r.getS sa
    let y := r.getS sb
    let goes (c : Instr) (taken : Prop) (k : Int) : Prop :=
      RunsTo c s b (JumpTo none fun pc => (taken → pcMoved r.pc k pc) ∧ (¬ taken → pcMoved r.pc 1 pc))
    goes (.bcEq b sa sb off) (x = y) off.toInt ∧ goes (.bcNe b sa sb off) (x ≠ y) off.toInt
    ∧ goes (.bcLt b sa sb off) (x.toInt < y.toInt) off.toInt ∧ goes (.bcGe b sa sb off) (y.toInt ≤ x.toInt) off.toInt
    ∧ goes (.bcLtu b sa sb off) (x.toNat < y.toNat) off.toInt ∧ goes (.bcGeu b sa sb off) (y.toNat ≤ x.toNat) off.toInt
    ∧ goes (.bcLe b sa sb off) (x.toInt ≤ y.toInt) off.toInt ∧ goes (.bcGt b sa sb off) (y.toInt < x.toInt) off.toInt
    ∧ goes (.bcTz b sa sb off) (x &&& y = 0) off.toInt ∧ goes (.bcTnz b sa sb off) (x &&& y ≠ 0) off.toInt
    ∧ goes (.bpany b pa po) (r.getP pa ≠ 0) po.toInt ∧ goes (.bpnone b pa po) (r.getP pa = 0) po.toInt
    ∧ RunsTo (.jrel b sd far) s b (JumpTo (some sd) fun pc => pcMoved r.pc far.toInt pc)
    ∧ RunsTo (.jreg b sd sa imm) s b (JumpTo (some sd) fun pc =>
        pc.extractLsb' 32 8 = r.pc.extractLsb' 32 8 ∧ pc.extractLsb' 0 32 = (x + imm.signExtend 32) &&& 0xFFFFFFFC#32)
    ∧ (field u 31 25 = 0x10 → 0xA ≤ field u 16 13 → exec (.illegalInstruction b u) s = .next ((s.tickCycle b).bayIllegal b u))

/-- R163, R164, R180, R189: each VALU instruction with even registers where W = 1 completes. Each active lane gets the result of the
table and the flag bit that the table says, inactive lanes stay, flags are sticky, and nothing else changes but PC and the cycle count. -/
def Obligations.LaneArithmeticWritesActiveLanes : Prop :=
  ∀ (s : State) (b : BayIx) (vd va : VReg) (vb : VSrc) (pg : PReg) (W : Bool),
    s.executes b → evens W [vd, va] → evenSrc W vb →
    let w := laneWidth W
    let two (c : Instr) (f : BitVec w → BitVec w → LaneRule w) : Prop :=
      RunsTo c s b (ActiveLanesTo W vd pg fun r i => f (r.lane W va i) (r.src W vb i))
    let one (c : Instr) (f : BitVec w → LaneRule w) : Prop := RunsTo c s b (ActiveLanesTo W vd pg fun r i => f (r.lane W va i))
    two (.vadd b vd va vb pg W) (fun x y => wrapping (x.toInt + y.toInt))
    ∧ two (.vsub b vd va vb pg W) (fun x y => wrapping (x.toInt - y.toInt))
    ∧ two (.vadds b vd va vb pg W) (fun x y => clampingS (x.toInt + y.toInt))
    ∧ two (.vsubs b vd va vb pg W) (fun x y => clampingS (x.toInt - y.toInt))
    ∧ two (.vaddus b vd va vb pg W) (fun x y => clampingU ((x.toNat : Int) + y.toNat))
    ∧ two (.vsubus b vd va vb pg W) (fun x y => clampingU ((x.toNat : Int) - y.toNat))
    ∧ one (.vneg b vd va pg W) (fun x => (-x, decide (x = BitVec.intMin w), false))
    ∧ one (.vnegs b vd va pg W) (fun x => if x = BitVec.intMin w then (BitVec.intMax w, false, true) else bare (-x))
    ∧ one (.vabs b vd va pg W) (fun x => (if x.toInt < 0 then -x else x, decide (x = BitVec.intMin w), false))
    ∧ one (.vabss b vd va pg W)
        (fun x => if x = BitVec.intMin w then (BitVec.intMax w, false, true) else bare (if x.toInt < 0 then -x else x))
    ∧ two (.vabsdu b vd va vb pg W) (fun x y => bare (if x.toNat ≤ y.toNat then y - x else x - y))
    ∧ two (.vavgu b vd va vb pg W) (fun x y => bare (BitVec.ofNat w ((x.toNat + y.toNat + 1) / 2)))
    ∧ two (.vand b vd va vb pg W) (fun x y => bare (x &&& y)) ∧ two (.vor b vd va vb pg W) (fun x y => bare (x ||| y))
    ∧ two (.vxor b vd va vb pg W) (fun x y => bare (x ^^^ y)) ∧ two (.vandn b vd va vb pg W) (fun x y => bare (x &&& ~~~y))
    ∧ two (.vmin b vd va vb pg W) (fun x y => bare (BitVec.ofInt w (min x.toInt y.toInt)))
    ∧ two (.vmax b vd va vb pg W) (fun x y => bare (BitVec.ofInt w (max x.toInt y.toInt)))
    ∧ two (.vminu b vd va vb pg W) (fun x y => bare (BitVec.ofNat w (min x.toNat y.toNat)))
    ∧ two (.vmaxu b vd va vb pg W) (fun x y => bare (BitVec.ofNat w (max x.toNat y.toNat)))
    ∧ two (.vmul b vd va vb pg W) (fun x y => wrapping (x.toInt * y.toInt))
    ∧ two (.vmulhs b vd va vb pg W) (fun x y => bare (BitVec.ofInt w (x.toInt * y.toInt / 2 ^ w)))
    ∧ two (.vmulhu b vd va vb pg W) (fun x y => bare (BitVec.ofNat w (x.toNat * y.toNat / 2 ^ w)))
    ∧ RunsTo (.vmulq b vd va vb pg) s b
        (ActiveLanesTo false vd pg fun r i => clampingS (((r.lane16 va i).toInt * (r.src false vb i).toInt + 2 ^ 14) / 2 ^ 15))
    ∧ two (.vmulus b vd va vb pg W) (fun x y => clampingU ((x.toNat : Int) * y.toNat))

/-- R181: VMAC adds the exact product to the destination lane and then wraps or clamps once; the widening forms read 16-bit lanes and
accumulate into the even pair at vd. Nothing else changes but the flags of the table, PC and the cycle count. -/
def Obligations.MultiplyAccumulateAddsToTheDestination : Prop :=
  ∀ (s : State) (b : BayIx) (vd va : VReg) (vb : VSrc) (pg : PReg) (W : Bool), s.executes b →
    let w := laneWidth W
    let mac (c : Instr) (f : BitVec w → BitVec w → BitVec w → LaneRule w) : Prop :=
      RunsTo c s b (ActiveLanesTo W vd pg fun r i => f (r.lane W vd i) (r.lane W va i) (r.src W vb i))
    let wide (c : Instr) (f : Word → BitVec 16 → BitVec 16 → LaneRule 32) : Prop :=
      RunsTo c s b (ActiveLanesTo true vd pg fun r i => f (r.lane32 vd i) (r.lane16 va i) (r.src false vb i))
    (evens W [vd, va] → evenSrc W vb →
      mac (.vmac b vd va vb pg W) (fun d x y => wrapping (d.toInt + x.toInt * y.toInt))
      ∧ mac (.vmacs b vd va vb pg W) (fun d x y => clampingS (d.toInt + x.toInt * y.toInt))
      ∧ mac (.vmacus b vd va vb pg W) (fun d x y => clampingU ((d.toNat : Int) + x.toNat * y.toNat))
      ∧ mac (.vmsub b vd va vb pg W) (fun d x y => wrapping (d.toInt - x.toInt * y.toInt)))
    ∧ (vd.val % 2 = 0 →
      wide (.vmacw b vd va vb pg) (fun d x y => wrapping (d.toInt + x.toInt * y.toInt))
      ∧ wide (.vmacwu b vd va vb pg) (fun d x y => bare (d + x.setWidth 32 * y.setWidth 32))
      ∧ wide (.vmacws b vd va vb pg) (fun d x y => clampingS (d.toInt + x.toInt * y.toInt))
      ∧ wide (.vsadw b vd va vb pg) (fun d x y => bare (d + (if x.toNat ≤ y.toNat then y - x else x - y).setWidth 32)))

/-- R164, R182: a compare writes 1 to the bits of the active lanes whose condition holds and 0 to every other bit of pd; a write to p0 is
discarded; nothing else changes but PC and the cycle count. A compare word with a reserved condition or a bit of vd[24:23] is illegal. -/
def Obligations.ComparesWriteThePredicate : Prop :=
  ∀ (s : State) (b : BayIx) (pd pg : PReg) (va : VReg) (vb : VSrc) (W : Bool) (u : Word), s.executes b → evens W [va] → evenSrc W vb →
    let r := s.regsOf b
    let w := laneWidth W
    let cmp (c : Instr) (p : BitVec w → BitVec w → Bool) : Prop :=
      RunsTo c s b (PredTo pd (BitVec.ofFnLE fun i : Fin 32 => r.active pg i && p (r.lane W va i) (r.src W vb i)))
    cmp (.vcmpEq b pd va vb pg W) (fun x y => decide (x = y)) ∧ cmp (.vcmpNe b pd va vb pg W) (fun x y => decide (x ≠ y))
    ∧ cmp (.vcmpLt b pd va vb pg W) (fun x y => decide (x.toInt < y.toInt))
    ∧ cmp (.vcmpLe b pd va vb pg W) (fun x y => decide (x.toInt ≤ y.toInt))
    ∧ cmp (.vcmpGt b pd va vb pg W) (fun x y => decide (y.toInt < x.toInt))
    ∧ cmp (.vcmpGe b pd va vb pg W) (fun x y => decide (y.toInt ≤ x.toInt))
    ∧ cmp (.vcmpLtu b pd va vb pg W) (fun x y => decide (x.toNat < y.toNat))
    ∧ cmp (.vcmpLeu b pd va vb pg W) (fun x y => decide (x.toNat ≤ y.toNat))
    ∧ cmp (.vcmpGtu b pd va vb pg W) (fun x y => decide (y.toNat < x.toNat))
    ∧ cmp (.vcmpGeu b pd va vb pg W) (fun x y => decide (y.toNat ≤ x.toNat))
    ∧ cmp (.vcmpTest b pd va vb pg W) (fun x y => decide (x &&& y ≠ 0))
    ∧ (field u 31 25 = 0x42 → 0xB ≤ field u 4 0 ∨ field u 24 23 ≠ 0 →
        exec (.illegalInstruction b u) s = .next ((s.tickCycle b).bayIllegal b u))

/-- R183, R191: the lane shifts. Logical shifts by the width or more give 0, arithmetic ones sign fill, rotates use the amount modulo
the width, the rounding shifts round half to even (R71) and VSLLS clamps. -/
def Obligations.LaneShiftsFollowTheirTable : Prop :=
  ∀ (s : State) (b : BayIx) (vd va : VReg) (vb : VSrc) (pg : PReg) (W : Bool),
    s.executes b → evens W [vd, va] → evenSrc W vb →
    let w := laneWidth W
    let sh (c : Instr) (f : BitVec w → Nat → LaneRule w) : Prop :=
      RunsTo c s b (ActiveLanesTo W vd pg fun r i => f (r.lane W va i) ((r.src W vb i).toNat % 256))
    sh (.vsll b vd va vb pg W) (fun x n => bare (x <<< n)) ∧ sh (.vsrl b vd va vb pg W) (fun x n => bare (x >>> n))
    ∧ sh (.vsra b vd va vb pg W) (fun x n => bare (x.sshiftRight n))
    ∧ sh (.vrol b vd va vb pg W) (fun x n => bare ((x <<< (n % w)) ||| (x >>> ((w - n % w) % w))))
    ∧ sh (.vror b vd va vb pg W) (fun x n => bare ((x >>> (n % w)) ||| (x <<< ((w - n % w) % w))))
    ∧ sh (.vsrar b vd va vb pg W) (fun x n => bare (BitVec.ofInt w (rhe x.toInt n)))
    ∧ sh (.vsrlr b vd va vb pg W) (fun x n => bare (BitVec.ofInt w (rhe x.toNat n)))
    ∧ sh (.vslls b vd va vb pg W) (fun x n => clampingS (x.toInt * 2 ^ n))

/-- R184: each permute writes every lane of vd with the lane the table names, from the values before it, sets no flag and changes
nothing else but PC and the cycle count. With W = 1 the lanes are those of pairs. -/
def Obligations.PermutesMoveLanes : Prop :=
  ∀ (s : State) (b : BayIx) (vd va vb : VReg) (sc : SReg) (W : Bool), s.executes b → evens W [vd, va, vb] →
    let r := s.regsOf b
    let w := laneWidth W
    let k := ((r.getS sc).toNat) % 256
    let a (j : Nat) : BitVec w := if h : j < 32 then r.lane W va ⟨j, h⟩ else 0
    let both (j : Nat) : BitVec w := if j < 32 then a j else if h : j < 64 then r.lane W vb ⟨j - 32, by omega⟩ else 0
    let mv (c : Instr) (f : Nat → BitVec w) : Prop := RunsTo c s b (LanesTo W vd (fun i => f i.val) (fun _ => false) (fun _ => false))
    mv (.vext b vd va vb sc W) (fun i => both (i + k)) ∧ mv (.vslup b vd va sc W) (fun i => if k ≤ i then a (i - k) else 0)
    ∧ mv (.vsldn b vd va sc W) (fun i => a (i + k)) ∧ mv (.vrot b vd va sc W) (fun i => a ((i + k) % 32))
    ∧ mv (.vrev b vd va W) (fun i => a (31 - i))
    ∧ mv (.vtbl b vd va vb W) (fun i => if h : i < 32 then a (r.lane W vb ⟨i, h⟩).toNat else 0)
    ∧ mv (.vsplat b vd va sc W) (fun _ => a k)
    ∧ mv (.vzipl b vd va vb W) (fun i => if i % 2 = 0 then a (i / 2) else both (32 + i / 2))
    ∧ mv (.vziph b vd va vb W) (fun i => if i % 2 = 0 then a (16 + i / 2) else both (48 + i / 2))
    ∧ mv (.vuzpe b vd va vb W) (fun i => both (2 * i)) ∧ mv (.vuzpo b vd va vb W) (fun i => both (2 * i + 1))

/-- R185: each reduction over the active lanes writes its scalar. The sums set OV when they leave 32 bits; a minimum or maximum over some
active lane is the value of one and a bound of all; an index is the lowest one; with no active lane the table's value results. -/
def Obligations.ReductionsCombineActiveLanes : Prop :=
  ∀ (s : State) (b : BayIx) (sd : SReg) (va : VReg) (pg : PReg) (W : Bool), s.executes b → evens W [va] →
    let r := s.regsOf b
    let w := laneWidth W
    let lanes : List (BitVec w) := (r.actives pg).map (r.lane W va)
    let gets (c : Instr) (p : Word → Prop) : Prop := ∃ x, p x ∧ RunsTo c s b (ScalarTo sd x 0)
    let best (c : Instr) (empty : BitVec w) (ext : BitVec w → Word) (le : BitVec w → BitVec w → Prop) : Prop :=
      gets c fun x => (lanes = [] → x = ext empty) ∧ (lanes ≠ [] → ∃ m ∈ lanes, x = ext m ∧ ∀ l ∈ lanes, le m l)
    let arg (c : Instr) (le : BitVec w → BitVec w → Prop) : Prop :=
      gets c fun x => (lanes = [] → x = 32) ∧ ∀ i : Fin 32, r.active pg i → (x = BitVec.ofNat 32 i.val ↔
        (∀ j, r.active pg j → le (r.lane W va i) (r.lane W va j)) ∧
        ∀ j, r.active pg j → j < i → ¬ le (r.lane W va j) (r.lane W va i))
    let sum := (lanes.map (·.toInt)).sum
    let sumU := (lanes.map (·.toNat)).sum
    RunsTo (.vrsum b sd va pg W) s b (ScalarTo sd (BitVec.ofInt 32 sum) (if sum < -(2 ^ 31) ∨ 2 ^ 31 ≤ sum then 1 else 0))
    ∧ RunsTo (.vrsumu b sd va pg W) s b (ScalarTo sd (BitVec.ofNat 32 sumU) (if 2 ^ 32 ≤ sumU then 1 else 0))
    ∧ best (.vrmin b sd va pg W) (BitVec.intMax w) (·.signExtend 32) (fun m l => m.toInt ≤ l.toInt)
    ∧ best (.vrmax b sd va pg W) (BitVec.intMin w) (·.signExtend 32) (fun m l => l.toInt ≤ m.toInt)
    ∧ best (.vrminu b sd va pg W) (BitVec.allOnes w) (·.setWidth 32) (fun m l => m.toNat ≤ l.toNat)
    ∧ best (.vrmaxu b sd va pg W) 0 (·.setWidth 32) (fun m l => l.toNat ≤ m.toNat)
    ∧ RunsTo (.vrband b sd va pg W) s b (ScalarTo sd (BitVec.setWidth 32 (lanes.foldr (· &&& ·) (BitVec.allOnes w))) 0)
    ∧ RunsTo (.vrbor b sd va pg W) s b (ScalarTo sd (BitVec.setWidth 32 (lanes.foldr (· ||| ·) 0)) 0)
    ∧ arg (.vrargmax b sd va pg W) (fun m l => l.toInt ≤ m.toInt) ∧ arg (.vrargmin b sd va pg W) (fun m l => m.toInt ≤ l.toInt)

/-- R186, R188: the vector moves, conversions and VLI complete. VMOV and VIOTA write active lanes, VSEL and VINS every lane, VEXTR and VEXTRU a
scalar; the widening and narrowing forms extend, take or clamp 16-bit and 32-bit lanes with VSAT where they clamp; VLI sets every lane of vd to
its immediate. Nothing else changes but the flags of the table, PC and the cycle count. -/
def Obligations.MovesAndConversionsWriteLanes : Prop :=
  ∀ (s : State) (b : BayIx) (vd va : VReg) (vb : VSrc) (sb sd : SReg) (pg : PReg) (k : Fin 32) (W : Bool) (imm : BitVec 16),
    s.executes b →
    let r := s.regsOf b
    let w := laneWidth W
    let all (c : Instr) (W : Bool) (f : Fin 32 → BitVec (laneWidth W)) : Prop :=
      RunsTo c s b (LanesTo W vd f (fun _ => false) (fun _ => false))
    (evens W [vd, va] →
      RunsTo (.vmov b vd va pg W) s b (ActiveLanesTo W vd pg fun r i => bare (r.lane W va i))
      ∧ (evenSrc W vb → all (.vsel b vd va vb pg W) W fun i => if r.active pg i then r.lane W va i else r.src W vb i))
    ∧ (evens W [vd] →
      RunsTo (.viota b vd pg W) s b (ActiveLanesTo W vd pg fun _ i => bare (BitVec.ofNat w i.val))
      ∧ all (.vins b vd k sb W) W fun i => if i = k then (r.getS sb).setWidth w else r.lane W vd i)
    ∧ (evens W [va] →
      RunsTo (.vextr b sd va k W) s b (ScalarTo sd ((r.lane W va k).signExtend 32) 0)
      ∧ RunsTo (.vextru b sd va k W) s b (ScalarTo sd ((r.lane W va k).setWidth 32) 0))
    ∧ (vd.val % 2 = 0 →
      RunsTo (.vwiden b vd va pg) s b (ActiveLanesTo true vd pg fun r i => bare ((r.lane16 va i).signExtend 32))
      ∧ RunsTo (.vwidenu b vd va pg) s b (ActiveLanesTo true vd pg fun r i => bare ((r.lane16 va i).setWidth 32)))
    ∧ (va.val % 2 = 0 →
      RunsTo (.vnarrow b vd va pg) s b (ActiveLanesTo false vd pg fun r i => bare ((r.lane32 va i).extractLsb' 0 16))
      ∧ RunsTo (.vnarrows b vd va pg) s b (ActiveLanesTo false vd pg fun r i => clamping (-32768) 32767 (r.lane32 va i).toInt)
      ∧ RunsTo (.vnarrowus b vd va pg) s b (ActiveLanesTo false vd pg fun r i => clamping 0 65535 (r.lane32 va i).toInt))
    ∧ all (.vli b vd imm) false fun _ => imm

/-- R162, R187: the predicate instructions complete with the value of the table in pd or in the scalar register; a write to p0 or s0 is
discarded, p0 reads all ones, and nothing else changes but PC and the cycle count. -/
def Obligations.PredicateInstructionsWriteTheirResult : Prop :=
  ∀ (s : State) (b : BayIx) (pd pa pb : PReg) (sc : SReg), s.executes b →
    let x := (s.regsOf b).getP pa
    let y := (s.regsOf b).getP pb
    RunsTo (.pand b pd pa pb) s b (PredTo pd (x &&& y)) ∧ RunsTo (.por b pd pa pb) s b (PredTo pd (x ||| y))
    ∧ RunsTo (.pxor b pd pa pb) s b (PredTo pd (x ^^^ y)) ∧ RunsTo (.pandn b pd pa pb) s b (PredTo pd (x &&& ~~~y))
    ∧ RunsTo (.pnot b pd pa) s b (PredTo pd (~~~x)) ∧ RunsTo (.pset b pd) s b (PredTo pd 0xFFFFFFFF#32)
    ∧ RunsTo (.pclr b pd) s b (PredTo pd 0)
    ∧ RunsTo (.pfirst b pd pa) s b (PredTo pd (BitVec.ofFnLE fun i : Fin 32 => bit x i.val && decide (∀ j < i.val, bit x j = false)))
    ∧ RunsTo (.ptos b pa sc) s b (ScalarTo sc x 0) ∧ RunsTo (.stop b pd sc) s b (PredTo pd ((s.regsOf b).getS sc))
    ∧ RunsTo (.pcnt b pa sc) s b (ScalarTo sc x.cpop 0)

/-- R165, R174, R175: the loads. Each address is translated and checked before any byte moves; the value is little-endian and extended as
the table says; inactive lanes stay. All of memory reads as before.
Where the manual leaves a choice it follows log entries 5, 9 and 86. -/
def Obligations.LoadsReadMemory : Prop :=
  ∀ (s : State) (b : BayIx) (sd sa sb : SReg) (vd : VReg) (pg : PReg) (imm : BitVec 14) (off : BitVec 13), s.executes b →
    let r := s.regsOf b
    LoadsScalar (.ldB b sd sa imm) s b 1 sd sa imm (fun x => (BitVec.ofNat 8 x).signExtend 32)
    ∧ LoadsScalar (.ldBu b sd sa imm) s b 1 sd sa imm (fun x => (BitVec.ofNat 8 x).setWidth 32)
    ∧ LoadsScalar (.ldH b sd sa imm) s b 2 sd sa imm (fun x => (BitVec.ofNat 16 x).signExtend 32)
    ∧ LoadsScalar (.ldHu b sd sa imm) s b 2 sd sa imm (fun x => (BitVec.ofNat 16 x).setWidth 32)
    ∧ LoadsScalar (.ldW b sd sa imm) s b 4 sd sa imm (BitVec.ofNat 32)
    ∧ LoadsLanes (.vld b vd sa pg off) s b 2 vd pg (blockVa r sa off 2)
    ∧ LoadsLanes (.vlds b vd sa sb pg) s b 2 vd pg (strideVa r sa sb)
    ∧ LoadsLanes (.vldbu b vd sa pg off) s b 1 vd pg (blockVa r sa off 1)

/-- R165, R174, R175: the stores write the bytes of the form's width at the addresses the tables give, and every other byte of memory reads
as before. A vector store that covers a poisoned word clears its poison.
Where the manual leaves a choice it follows log entries 5, 9 and 86. -/
def Obligations.StoresWriteOnlyTheirBytes : Prop :=
  ∀ (s : State) (b : BayIx) (sc sa sb : SReg) (vs : VReg) (pg : PReg) (imm : BitVec 14) (off : BitVec 13), s.executes b →
    let r := s.regsOf b
    StoresScalar (.stB b sc sa imm) s b 1 sa imm (r.getS sc) ∧ StoresScalar (.stH b sc sa imm) s b 2 sa imm (r.getS sc)
    ∧ StoresScalar (.stW b sc sa imm) s b 4 sa imm (r.getS sc)
    ∧ StoresLanes (.vst b vs sa pg off) s b 2 vs pg (blockVa r sa off 2)
    ∧ StoresLanes (.vsts b vs sa sb pg) s b 2 vs pg (strideVa r sa sb)
    ∧ StoresLanes (.vstb b vs sa pg off) s b 1 vs pg (blockVa r sa off 1)

/-- R165, R208, R211, R217, R219: a load, store or CPOST of which one access fails has no effect on its registers and memory: the bay takes the
fault of the first access that fails. Where every access is reached, a load or CPOST that reads a poisoned word and a store that needs other bytes of one
take the ECC fault of the first access that meets one.
Where the manual leaves a choice it follows log entries 9 and 27. -/
def Obligations.FailedAccessFaultsTheJob : Prop :=
  ∀ (s : State) (b : BayIx) (sd sa sb : SReg) (vd : VReg) (pg : PReg) (imm : BitVec 14) (off : BitVec 13) (f : AccFault),
    s.executes b →
    let y := s.getBay b
    let r := y.regs
    let fails (c : Instr) (k : Access) (vas : List (BitVec 40)) : Prop :=
      s.accessAll (y.requester b) k y.tlb vas = .error f →
      ∃ i, c.toMyvik = some (b, i) ∧ exec c s = .next ((s.tickCycle b).bayFault b f 0 (myvikEncode i))
    fails (.ldB b sd sa imm) .load [scalarVa r sa imm 1] ∧ fails (.ldBu b sd sa imm) .load [scalarVa r sa imm 1]
    ∧ fails (.ldH b sd sa imm) .load [scalarVa r sa imm 2] ∧ fails (.ldHu b sd sa imm) .load [scalarVa r sa imm 2]
    ∧ fails (.ldW b sd sa imm) .load [scalarVa r sa imm 4]
    ∧ fails (.stB b sd sa imm) .store [scalarVa r sa imm 1] ∧ fails (.stH b sd sa imm) .store [scalarVa r sa imm 2]
    ∧ fails (.stW b sd sa imm) .store [scalarVa r sa imm 4]
    ∧ fails (.vld b vd sa pg off) .load ((r.actives pg).map (blockVa r sa off 2))
    ∧ fails (.vst b vd sa pg off) .store ((r.actives pg).map (blockVa r sa off 2))
    ∧ fails (.vlds b vd sa sb pg) .load ((r.actives pg).map (strideVa r sa sb))
    ∧ fails (.vsts b vd sa sb pg) .store ((r.actives pg).map (strideVa r sa sb))
    ∧ fails (.vldbu b vd sa pg off) .load ((r.actives pg).map (blockVa r sa off 1))
    ∧ fails (.vstb b vd sa pg off) .store ((r.actives pg).map (blockVa r sa off 1))
    ∧ ((vget s.det.carts (finOf 32 ((r.getS sb).toNat % 32))).fullFor y.asid = false →
        let vas := [0, 8, 16, 24].map fun k => (r.dseg.extractLsb' 0 8 ++ (r.getS sa &&& 0xFFFFFFE0#32)) + BitVec.ofNat 40 k
        fails (.cpost b sd sa sb) .load vas ∧ PoisonFaults (.cpost b sd sa sb) s b vas)
    ∧ PoisonFaults (.ldB b sd sa imm) s b [scalarVa r sa imm 1] ∧ PoisonFaults (.ldBu b sd sa imm) s b [scalarVa r sa imm 1]
    ∧ PoisonFaults (.ldH b sd sa imm) s b [scalarVa r sa imm 2] ∧ PoisonFaults (.ldHu b sd sa imm) s b [scalarVa r sa imm 2]
    ∧ PoisonFaults (.ldW b sd sa imm) s b [scalarVa r sa imm 4]
    ∧ PoisonFaults (.vld b vd sa pg off) s b ((r.actives pg).map (blockVa r sa off 2))
    ∧ PoisonFaults (.vlds b vd sa sb pg) s b ((r.actives pg).map (strideVa r sa sb))
    ∧ PoisonFaults (.vldbu b vd sa pg off) s b ((r.actives pg).map (blockVa r sa off 1))
    ∧ PartPoisonFaults (.vst b vd sa pg off) s b 2 pg (blockVa r sa off 2)
    ∧ PartPoisonFaults (.vsts b vd sa sb pg) s b 2 pg (strideVa r sa sb)
    ∧ PartPoisonFaults (.vstb b vd sa pg off) s b 1 pg (blockVa r sa off 1)
    ∧ (∀ (c : Instr) n pa tl, (c, n) ∈ [(Instr.stB b sd sa imm, 1), (.stH b sd sa imm, 2), (.stW b sd sa imm, 4)] →
        s.reaches b .store [scalarVa r sa imm n] [pa] tl → s.mem.poisoned (pa / 8) = true →
        ∃ m, c.toMyvik = some (b, m) ∧ exec c s = .next ((s.tickCycle b).bayFault b
          { cls := .ecc, walk := false, loft := false, page := false, va := scalarVa r sa imm n, found := some (pa / 8) } 0 (myvikEncode m)))

/-- R176, R195: LFR of a line job whose line the ring still holds, with the field carried, reads position p + i of the segment into lane i:
column 128·segment + p + i − 8, and 0 for a position above 143 or a column outside 0–16,383. Without the line or the field, and in a deep
job, every lane reads 0 and FEEDGAP is set. Nothing else changes but PC and the cycle count.
Where the manual leaves a choice it follows log entry 29. -/
def Obligations.LineFeedReadsTheLoftRing : Prop :=
  ∀ (s : State) (b : BayIx) (vd : VReg) (sa : SReg) (age : BitVec 4) (fld : BitVec 2), s.executes b →
    let r := s.regsOf b
    let p := (r.getS sa).toNat % 256
    let held (j : LineJob) (x : RingLine) : Prop :=
      s.det.ring.find? (fun x => x.line + age.toNat = j.line) = some x ∧ fld.toNat ≤ x.fields.val
    let gap : Prop := RunsTo (.lfr b vd sa age fld) s b fun r q =>
      q.sflags = r.sflags ||| 4 ∧ LanesTo false vd (fun _ => 0) (fun _ => false) (fun _ => false) { r with sflags := r.sflags ||| 4 } q
    match (s.getBay b).work with
    | .line j =>
      (∀ x vs, held j x → x.values[fld.toNat]? = some vs → RunsTo (.lfr b vd sa age fld) s b
        (LanesTo false vd (fun i =>
            let c : Int := 128 * (j.seg.val : Int) + (p + i.val : Nat) - 8
            if p + i.val ≤ 143 ∧ 0 ≤ c ∧ c ≤ 16383 then BitVec.ofNat 16 ((stripGet? vs c.toNat).getD 0) else 0)
          (fun _ => false) (fun _ => false)))
      ∧ ((∀ x, ¬ held j x) → gap)
    | _ => gap

/-- R30, R177: EMIT of a column and an age in range takes a credit and queues the record with the line {LINE_HI, LINE_LO} − age, KERNEL, the
bay and the next record ID; without a credit it is discarded and counted; out of range it is discarded, counted and sets EMITBAD. That the count of
those saturates (log entry 69), and what counts the discarded ones and their first line (log entry 70), are the model's choice. -/
def Obligations.EmitQueuesOrCountsARecord : Prop :=
  ∀ (s : State) (b : BayIx) (va : VReg), s.executes b →
    let r := s.regsOf b
    let l (k : Fin 32) := r.lane16 va k
    let bad := 16383 < (l 0).toNat ∨ 15 < (l 5).toNat
    let line := ((r.lineHi.extractLsb' 0 16 ++ r.lineLo) - (l 5).setWidth 48).toNat
    ∃ q d, exec (.emit b va) s = .next ({ s with det := d }.ran b q) ∧ pcMoved r.pc 1 q.pc
      ∧ q = { r with pc := q.pc, sflags := if bad then r.sflags ||| 8 else r.sflags }
      ∧ (bad → d = { s.det with emitBad := satInc s.det.emitBad })
      ∧ (¬ bad → s.det.credits = 0 → d = { s.det with
          flawLost := s.det.flawLost + 1, flawLostFirst := some (s.det.flawLostFirst.getD line) })
      ∧ (¬ bad → s.det.credits ≠ 0 → d = { s.det with
          credits := s.det.credits - 1, flawId := s.det.flawId + 1,
          flawOut := s.det.flawOut ++ [.record line b #v[l 0, l 1, l 2, l 3, l 4] (r.kernel.extractLsb' 0 16) (s.det.flawId + 1)] })

/-- R178, R179, R9: MFC reads the CSR of the table, a read of CYC_LO latching CYC_HI; MTC writes it under its access code: a W1C register
clears the bits written as 1, an RW register takes its bits that are not reserved. Nothing else changes but PC and the cycle count.
Where the manual leaves a choice it follows log entry 8. -/
def Obligations.CsrsReadAndWriteAsTheTableSays : Prop :=
  ∀ (s : State) (b : BayIx) (sc : SReg), s.executes b →
    let y := s.getBay b
    let r := y.regs
    let x := r.getS sc
    let reads (csr : Byte) (v : Word) : Prop := RunsTo (.mfc b sc csr) s b (ScalarTo sc v 0)
    let writes (csr : Byte) (f : JobRegs → JobRegs) : Prop :=
      RunsTo (.mtc b sc csr) s b fun r q => NextPc (f r) q
    reads 0x00 r.vov ∧ reads 0x01 r.vsat ∧ reads 0x02 (r.sflags &&& 0xF#32)
    ∧ reads 0x03 (BitVec.ofNat 32 (b.val + 128 * (b.val / 8)))
    ∧ reads 0x04 (match y.work with
        | .line j => BitVec.ofNat 32 (2 * j.ctx.val + 32 * j.fields.val + 128 * j.asid.toNat)
        | _ => BitVec.ofNat 32 (1 + 128 * y.asid.toNat))
    ∧ reads 0x05 (match y.work with
        | .line j => BitVec.ofNat 32 (128 * j.seg.val)
        | _ => 0)
    ∧ reads 0x06 r.lineLo ∧ reads 0x07 (r.lineHi &&& 0xFFFF#32)
    ∧ reads 0x08 (match y.work with
        | .line j => BitVec.ofNat 32 j.left
        | _ => 0xFFFFFFFF#32)
    ∧ reads 0x09 (r.bflag &&& 0xFFFF#32) ∧ reads 0x0B y.cycHi ∧ reads 0x0C (r.kernel &&& 0xFFFF#32) ∧ reads 0x0D (r.dseg &&& 0xFF#32)
    ∧ (∃ q, exec (.mfc b sc 0x0A) s = .next ((s.ran b q).onBay b fun z => { z with cycHi := y.cyc.extractLsb' 32 32 })
        ∧ ScalarTo sc (y.cyc.extractLsb' 0 32) 0 r q)
    ∧ writes 0x00 (fun r => { r with vov := r.vov &&& ~~~x }) ∧ writes 0x01 (fun r => { r with vsat := r.vsat &&& ~~~x })
    ∧ writes 0x02 (fun r => { r with sflags := r.sflags &&& ~~~x }) ∧ writes 0x06 (fun r => { r with lineLo := x })
    ∧ writes 0x07 (fun r => { r with lineHi := x &&& 0xFFFF#32 }) ∧ writes 0x09 (fun r => { r with bflag := r.bflag &&& ~~~x })
    ∧ writes 0x0C (fun r => { r with kernel := x &&& 0xFFFF#32 }) ∧ writes 0x0D (fun r => { r with dseg := x &&& 0xFF#32 })

/-- R178, R196, R199, R200, R213: the job-control instructions. FENCE only goes on; CWAIT takes a set flag, and otherwise is executed
again; YIELD does nothing in a line job or without another runnable slot, and else begins the save of the deep job; HALT ends the job, a deep job's slot
being DONE, and the bay goes on with its oldest queued line job, else with a deep slot, from its entry or by a restore of its frame, and else
falls idle; CPOST to a cart that takes it queues the 32 bytes at {DSEG, sa} and gives 0, and
else gives 1.
Where the manual leaves a choice it follows log entries 8, 25, 30 and 86. -/
def Obligations.JobControlInstructions : Prop :=
  ∀ (s : State) (b : BayIx) (sd sa sb : SReg) (flag : BitVec 4), s.executes b →
    let y := s.getBay b
    let r := y.regs
    let cart := finOf 32 ((r.getS sb).toNat % 32)
    let va : BitVec 40 := r.dseg.extractLsb' 0 8 ++ (r.getS sa &&& 0xFFFFFFE0#32)
    let vas := [0, 8, 16, 24].map fun k => va + BitVec.ofNat 40 k
    let full := (vget s.det.carts cart).queue.length ≥ 16 ∨ (vget s.det.carts cart).owner ≠ y.asid
      ∨ (vget s.det.carts cart).state = .reset
    let other (j : Fin 4) : Prop := ∃ i, i ≠ j ∧ (y.getSlot i).runnable = true
    let ended (z : Bay) : Bay := match y.work with
      | .deep j => z.onSlot j fun d => { d with state := .done }
      | _ => z
    RunsTo (.fence b) s b NextPc
    ∧ RunsTo (.cwait b flag) s b (fun r q =>
        if bit r.bflag flag.toNat then NextPc { r with bflag := setBit r.bflag flag.toNat false } q else q = r)
    ∧ ((∀ j, y.work = .deep j → ¬ other j) → RunsTo (.yield b) s b NextPc)
    ∧ (∀ j, y.work = .deep j → other j →
        ∃ q, NextPc r q ∧ exec (.yield b) s = .next ((s.ran b q).onBay b fun z => { z with work := .saving j .yield }))
    ∧ (y.queue = [] → (ended y).pick = none →
        ∃ q, NextPc r q ∧ exec (.halt b) s = .next ((s.ran b q).onBay b fun z => { ended z with work := .idle }))
    ∧ (∀ k ks, y.queue = k :: ks →
        ∃ q, q = startRegs (s.kernelEntry k.kslot) k.kslot k.line
          ∧ exec (.halt b) s = .next ((s.ran b q).onBay b fun z => { ended z with work := .line k, queue := ks }))
    ∧ (∀ i, y.queue = [] → (ended y).pick = some i →
        let d := (ended y).getSlot i
        (d.state = .ready → d.fresh = true → ∃ q, q = startRegs (s.kernelEntry d.kslot) d.kslot 0
          ∧ exec (.halt b) s = .next ((s.ran b q).onBay b fun z => (ended z).runSlot i q))
        ∧ (d.state = .saved ∨ d.fresh = false →
          ∃ q, NextPc r q ∧ exec (.halt b) s = .next ((s.ran b q).onBay b fun z => { ended z with work := .restoring i })))
    ∧ (full → RunsTo (.cpost b sd sa sb) s b (ScalarTo sd 1 0))
    ∧ (¬ full → ∀ pas tl, s.reaches b .load vas pas tl → (∀ a ∈ pas, s.mem.poisoned (a / 8) = false) →
        s.watchAt b (vas.map fun va => (va, 8, false)) = none →
        ∃ q bytes, ScalarTo sd 0 0 r q ∧ bytes = pas.flatMap (fun a => s.mem.gets a 8)
          ∧ exec (.cpost b sd sa sb) s = .next (((s.afterReads b vas (pas.map (· / 8))).ranTlb b q tl).onCart cart fun c => { c with
              queue := c.queue ++ [{ raw := some (BitVec.ofNat 256 (natLe bytes)), va := va, asid := y.asid, poster := y.poster b, chained := false }] }))

/-- R165, R169, R170, R198, R217, R218: an instruction with an odd register of a pair, a reserved CSR or an MTC to a read-only CSR raises
ILLEGAL_INSTRUCTION before any effect, with its own word, and so does a word that is no instruction. In a line job the bay's count rises, the record with
the PC and the word is written at the fault ring's HEAD, which moves unless it would meet TAIL, class JOB is reported and an INCOMPLETE marker joins the flaw
path. The saturating counts are the model's choice of log entry 69; the record's count, POINT and faulting VA are those of log entry 106. -/
def Obligations.IllegalInstructionAbortsTheJob : Prop :=
  (∀ (s : State) (b : BayIx) (c : Instr) (i : Myvik), c.toMyvik = some (b, i) → s.executes b → i.legal = false →
    exec c s = .next ((s.tickCycle b).bayIllegal b (myvikEncode i)))
  ∧ (∀ (s : State) (b : BayIx) (w : Word), s.executes b → myvikDecode w = none →
    exec (.illegalInstruction b w) s = .next ((s.tickCycle b).bayIllegal b w))
  ∧ (∀ (s : State) (b : BayIx) (w : Word) (j : LineJob), (s.getBay b).work = .line j → (s.getBay b).queue = [] →
    (s.getBay b).pick = none →
    let t := s.bayIllegal b w
    let y := s.getBay b
    (t.getBay b).illegal = satInc y.illegal ∧ (t.getBay b).work = .idle ∧ (t.getBay b).regs = y.regs
    ∧ (t.getBay b).faults = satInc y.faults
    ∧ t.det.flawOut = s.det.flawOut ++ [.incomplete j.line j.seg b (y.regs.kernel.extractLsb' 0 16)]
    ∧ bit t.flt.cls 12 = true ∧ t.det.fltRecords = s.det.fltRecords + 1
    ∧ (s.det.fltHead + 1 = s.det.fltTail → t.det.fltHead = s.det.fltHead ∧ t.mem = s.mem ∧ t.det.fltLost = satInc s.det.fltLost)
    ∧ (s.det.fltHead + 1 ≠ s.det.fltTail → t.det.fltHead = s.det.fltHead + 1 ∧ t.det.fltLost = s.det.fltLost
        ∧ t.mem.gets (faultRing + 32 * s.det.fltHead.toNat) 32
          = [5, 0, BitVec.ofNat 8 b.val, BitVec.ofNat 8 y.asid.toNat] ++ bytesLe 8 y.regs.pc.toNat ++ bytesLe 4 w.toNat
            ++ bytesLe 8 y.regs.pc.toNat ++ bytesLe 6 j.line ++ bytesLe 2 t.det.fltRecords.toNat
        ∧ ∀ a, (a < faultRing + 32 * s.det.fltHead.toNat ∨ faultRing + 32 * s.det.fltHead.toNat + 32 ≤ a) →
            t.mem.get a = s.mem.get a))

/-- R422, R425: a bay that cannot issue is not changed by an instruction, and a breakpoint that matches the PC halts the bay before the
instruction has any effect. That an instruction for a bay without a job leaves the state unchanged is this model's reading (log entry 25). -/
def Obligations.NoEffectWithoutIssue : Prop :=
  ∀ (s : State) (b : BayIx) (c : Instr) (i : Myvik), c.toMyvik = some (b, i) →
    (s.canIssue b = false → exec c s = .next s)
    ∧ (∀ k, s.canIssue b = true → (s.getBay b).skipBrk = false → s.breakAt b (s.regsOf b).pc = some k →
        exec c s = .next { (s.onBay b fun y => { y with halted := true }) with
          dbg := { s.dbg with bayWhy := .breakpoint, bayIdx := BitVec.ofNat 4 k.val } })

/-- R167, R168, R169: encoding and decoding agree on every legal Myvik instruction, with every operand at every value the encoding
admits, and a decoded instruction is legal and has exactly the word it was read from. -/
def Obligations.DecodeOfEncodeIsTheInstruction : Prop :=
  (∀ i : Myvik, i.legal = true → myvikDecode (myvikEncode i) = some i)
  ∧ (∀ (w : Word) (i : Myvik), myvikDecode w = some i → i.legal = true ∧ myvikEncode i = w)

/-- R204, R206, R207, R208, R209, R210, R220: the translation of one access, for every requester. In address spaces 1–15 an access with EN = 0 is a translation
fault; else the TLB's entry is used, or the two tables are walked from AS_BASE, an entry of which that lies elsewhere is a bus error, one that is poisoned an
ECC fault and one that is not valid a translation fault; then POISON, permission and bus are checked in that order, and the access reaches the page.
Under address space 0 every virtual address is the physical address. The TLB after the access (a miss fills one entry, address space 0 none) is the
model's choice of log entry 31. Several accesses are made in order, up to the first that fails.
Where the manual leaves a choice it follows log entry 5. -/
def Obligations.TranslationFollowsTheTables : Prop :=
  ∀ (s : State) (q : Requester) (t : List TlbEntry) (k : Access) (va : BitVec 40),
    let fault (c : FaultCls) : AccFault := { cls := c, walk := false, loft := false, page := false, va := va, found := none }
    let inMem (a : Nat) : Prop := (a < 0x400000000 ∧ s.hbmDown = false) ∨ (0x1000200000 ≤ a ∧ a < 0x1002000000)
    let allowed (leaf : BitVec 64) : Prop := bit leaf 5 = false ∧ match k with
      | .load => bit leaf 1 = true ∧ bit leaf 4 = true
      | .store => bit leaf 2 = true ∧ bit leaf 4 = true
      | .fetch => bit leaf 3 = true ∧ bit leaf 4 = true
      | .cartRead => bit leaf 1 = true
      | .cartWrite => bit leaf 2 = true
    let ends (a : Nat) (t' : List TlbEntry) : Prop :=
      (inMem a → s.access q t k va = .ok (a, t'))
      ∧ ((0x400000000 ≤ a ∧ a < 0x1000200000) ∨ (0x1002000000 ≤ a ∧ a < 0x1100000000) ∨ 0x3000000000 ≤ a ∨ (a < 0x400000000 ∧ s.hbmDown = true) →
          s.access q t k va = .error (fault .bus))
      ∧ (∀ off, a = 0x11FFFF0000 + off → off < 0x10000 → (∀ b deep, q.ownLoft = some b → q.deepJob = some deep →
            (off < s.jobArea → (if deep then s.loftSplit ≤ off else off < s.loftSplit) → s.access q t k va = .ok (0x1100000000 + 0x10000 * b.val + off, t'))
            ∧ (¬ (off < s.jobArea ∧ if deep then s.loftSplit ≤ off else off < s.loftSplit) →
                s.access q t k va = .error { fault .permission with loft := true }))
          ∧ (q.ownLoft = none → s.access q t k va = .error (fault .bus)))
      ∧ (∀ (b : BayIx) off, a = 0x1100000000 + 0x10000 * b.val + off → off < 0x10000 → s.isSmall = false → q.deepJob = none →
          (off < s.jobArea → s.access q t k va = .ok (a, t')) ∧ (s.jobArea ≤ off → s.access q t k va = .error (fault .bus)))
    let checks (e : TlbEntry) (t' : List TlbEntry) : Prop :=
      (bit e.leaf 6 = true → s.access q t k va = .error { fault .ecc with page := true })
      ∧ (bit e.leaf 6 = false → ¬ allowed e.leaf → s.access q t k va = .error (fault .permission))
      ∧ (bit e.leaf 6 = false → allowed e.leaf →
          ends (0x10000 * field e.leaf 39 16 + va.toNat % (if e.big then 2 ^ 21 else 2 ^ 16)) t')
    let read (a : Nat) (p : BitVec 64 → Prop) : Prop :=
      (¬ inMem a → s.access q t k va = .error { fault .bus with walk := true })
      ∧ (inMem a → s.mem.poisoned (a / 8) = true → s.access q t k va = .error { fault .ecc with walk := true, found := some (a / 8) })
      ∧ (inMem a → s.mem.poisoned (a / 8) = false → p (BitVec.ofNat 64 (s.mem.num a 8)))
    let base := vget s.det.asBase q.asid.toFin
    (q.asid = 0 → ends va.toNat t)
    ∧ (q.asid ≠ 0 → bit base 0 = false → s.access q t k va = .error (fault .translation))
    ∧ (q.asid ≠ 0 → bit base 0 = true → ∀ e, s.tlbHit q t va = some e → checks e t)
    ∧ (q.asid ≠ 0 → bit base 0 = true → s.tlbHit q t va = none →
        read (0x2000 * field base 39 13 + 8 * (va.toNat / 2 ^ 30)) fun e1 =>
          let big := bit e1 1
          let bad1 := bit e1 0 = false ∨ field e1 63 40 ≠ 0 ∨ field e1 11 2 ≠ 0 ∨ (big = false ∧ field e1 16 12 ≠ 0)
          (bad1 → s.access q t k va = .error (fault .translation))
          ∧ (¬ bad1 → read (0x1000 * field e1 39 12 + 8 * (if big then va.toNat / 2 ^ 21 % 512 else va.toNat / 2 ^ 16 % 16384)) fun leaf =>
              let bad2 := bit leaf 0 = false ∨ field leaf 63 40 ≠ 0 ∨ field leaf 15 7 ≠ 0 ∨ (big = true ∧ field leaf 20 16 ≠ 0)
              let e : TlbEntry := { asid := q.asid, page := pageTag big va, big := big, leaf := leaf }
              (bad2 → s.access q t k va = .error (fault .translation)) ∧ (¬ bad2 → checks e (tlbFill q t e))))
    ∧ (∀ vas pas t', s.accessAll q k t vas = .ok (pas, t') →
        (∀ a t2, s.access q t' k va = .ok (a, t2) → s.accessAll q k t (vas ++ [va]) = .ok (pas ++ [a], t2))
        ∧ (∀ f, s.access q t' k va = .error f → ∀ post, s.accessAll q k t (vas ++ va :: post) = .error f))

/-- R264, R265, R307: what an answer does. It writes STATUS, LEN, BULK_LEN, the payload and the bulk data at their places in the slot and
sub-window, clears RING, sets DONE, leaves every other byte of the host window as it was, and changes nothing else than what the audit entry of an
audited command adds, and that the idle timer of the slot's session runs again.
Where the manual leaves a choice it follows log entries 7, 32 and 33. -/
def Obligations.AnswersAreWrittenToTheSlot : Prop :=
  ∀ (s : State) (slot : Slot) (st : Byte) (payload bulk : List Byte),
    hostWf s.host.bytes = true → payload.length ≤ 224 → bulk.length ≤ 4096 →
    let t := s.writeAnswer slot st payload bulk
    let a := slotAddr slot
    bit t.host.ring slot.val = false ∧ bit t.host.done slot.val = true ∧ vget t.host.waits slot = none
    ∧ hostGet t.host.bytes (a + 0x0C) = st ∧ hostGets t.host.bytes (a + 0x04) 2 = bytesBe 2 payload.length
    ∧ hostGets t.host.bytes (a + 0x10) 2 = bytesBe 2 bulk.length
    ∧ hostGets t.host.bytes (a + 0x20) payload.length = payload ∧ hostGets t.host.bytes (bulkAddr slot) bulk.length = bulk
    ∧ (∀ x, ¬ inSlot slot x → hostGet t.host.bytes x = hostGet s.host.bytes x) ∧ hostWf t.host.bytes = true
    ∧ (∀ k, k ≠ slot → bit t.host.ring k.val = bit s.host.ring k.val ∧ bit t.host.done k.val = bit s.host.done k.val)
    ∧ t.tack = { s.tack with sessions := t.tack.sessions } ∧ (∀ k, k ≠ slot → vget t.tack.sessions k = vget s.tack.sessions k)
    ∧ vget t.tack.sessions slot = (vget s.tack.sessions slot).map (fun y => if y.held then { y with since := s.tack.periods, held := false } else y)
    ∧ (vget s.host.audits slot = none → t = { s with host := t.host, tack := t.tack })
    ∧ (∀ i, vget s.host.audits slot = some i → t.bkp.mono = s.bkp.mono + 1
        ∧ (∃ e, t.chore.log = s.chore.log ++ [.audit e] ∧ e.opcode = i.opcode ∧ e.session = i.session ∧ e.status = st
            ∧ e.slot = BitVec.ofNat 8 slot.val ∧ e.counter = t.bkp.mono))

/-- R272, R280: the system, log and status commands. NOP returns its data, the reads answer from the state that R272, R279 and R280 name and change
nothing, SHIP_MODE arms ship mode from STANDBY, FW_RESTART restarts the firmware after its answer.
Where the manual leaves a choice it follows log entries 4, 33 and 37. -/
def Obligations.SystemCommandsAnswer : Prop :=
  ∀ (s : State) (slot : Slot) (h : CmdHeader) (data : List Byte) (index : Word) (i16 : BitVec 16) (count : Byte) (ses : Option Session),
    let a := s.nvm.banks
    (data.length ≤ 224 → s.admits slot h 0 anyMode true false ses → Replies (.nop slot h data) s slot 0 data [] id)
    ∧ (s.admits slot h 0 anyMode true false ses → Replies (.identify slot h) s slot 0
        ([BitVec.ofNat 8 (s.host.variant.toNat + if s.host.suffixI then 4 else 0)] ++ bytesBe 8 s.serial.toNat
          ++ bytesBe 4 (vget a s.host.bank).version.toNat
          ++ [BitVec.ofNat 8 s.host.bank.val, BitVec.ofNat 8 s.debugPolicy, BitVec.ofNat 8 s.rollbackT]) [] id)
    ∧ (s.admits slot h 0 anyMode true false ses → Replies (.getStatus slot h) s slot 0 (statusPayload s 0) [] id)
    ∧ (s.admits slot h 2 anyMode false true ses →
        ∃ u, s.posted_ u slot ∧ exec (.fwRestart slot h) s = .next ((u.writeAnswer slot 0 [] []).restart 6))
    ∧ (s.admits slot h 2 (modeIn [.standby]) false true ses →
        Replies (.shipMode slot h) s slot 0 [] [] fun u => { u with bkp := { u.bkp with shipArmed := true } })
    ∧ (s.admits slot h 1 anyMode true false ses → Replies (.nvmStatus slot h) s slot 0
        (bytesBe 4 (vget a 0).version.toNat ++ bytesBe 4 (vget a 1).version.toNat
          ++ [BitVec.ofNat 8 s.nvm.active.val,
              BitVec.ofNat 8 ((if (vget a 0).present && !(vget a 0).invalid then 1 else 0)
                + if (vget a 1).present && !(vget a 1).invalid then 2 else 0)]
          ++ bytesBe 2 (Nat.min 65535 ((s.tb - s.chore.mramDone) / 1000000000))) [] id)
    ∧ (s.admits slot h 1 anyMode true false ses → Replies (.telemRead slot h) s slot 0 [] s.snapshot id)
    ∧ (s.admits slot h 1 anyMode true false ses → 1 ≤ count.toNat → count.toNat ≤ 64 →
        Replies (.logRead slot h index count) s slot 0 []
          ((s.nvm.telem.filter fun e => index.toNat ≤ e.number.toNat && e.number.toNat < index.toNat + count.toNat).reverse.flatMap
            TelemEntry.bytes) id)
    ∧ (s.admits slot h 1 anyMode true false ses → 1 ≤ count.toNat → count.toNat ≤ 64 → i16.toNat + count.toNat ≤ 1024 →
        Replies (.auditRead slot h i16 count) s slot 0 [] ((List.range count.toNat).flatMap fun k => s.nvm.auditAt (i16.toNat + k)) id)

/-- R268, R269, R275, R276, R279, R281: object transfers. A begin with an exact size opens the one transfer of its session; a chunk at the offset
reached appends; an end with every byte and the right CRC commits the object (a code, column, defect or look-up table, a stall-map set, a kernel, a
strobe table, a firmware image) and closes the transfer, or refuses one whose content breaks its layout; an abort discards it.
Where the manual leaves a choice it follows log entries 21 and 89. -/
def Obligations.ObjectTransfersOpenCarryAndCommit : Prop :=
  ∀ (s : State) (slot : Slot) (h : CmdHeader) (type index arg k engine bank : Byte) (pa entry : BitVec 40) (total crc offset : Word)
    (bulk : List Byte) (ses : Option Session) (t : Transfer) (o : ObjKind),
    let open_ (c : Instr) (o : ObjKind) : Prop := totalOk o total.toNat = true → vget s.host.transfers slot = none → s.objBusy o = false →
      Replies c s slot 0 [] [] fun u => { u with host := { u.host with
        transfers := vset u.host.transfers slot (some { kind := o, total := total.toNat, crc := crc, bytes := [] }) } }
    let role := match t.kind with
      | .firmware _ => 3
      | _ => 2
    let modes := match t.kind with
      | .firmware _ => modeIn [.maint]
      | _ => anyMode
    (s.admits slot h 2 anyMode false true ses → calKind type index arg = some o → open_ (.calBegin slot h type index arg total crc) o)
    ∧ (s.admits slot h 2 anyMode false true ses → k.toNat < 16 →
        open_ (.kernBegin slot h k pa entry total crc) (.kernel (finOf 16 k.toNat) pa entry))
    ∧ (s.admits slot h 2 anyMode false true ses → engine.toNat < 8 →
        open_ (.strobeBegin slot h engine total crc) (.strobe (finOf 8 engine.toNat)))
    ∧ (s.admits slot h 3 (modeIn [.maint]) false true ses → bank.toNat < 2 → finOf 2 bank.toNat ≠ s.host.bank →
        open_ (.fwBegin slot h bank total crc) (.firmware (finOf 2 bank.toNat)))
    ∧ (vget s.host.transfers slot = some t →
        (s.admits slot h role modes false false ses → bulk ≠ [] → bulk.length ≤ 4096 → offset.toNat = t.bytes.length →
          t.bytes.length + bulk.length ≤ t.total →
          Replies (.objChunk slot h offset bulk) s slot 0 [] [] fun u => { u with host := { u.host with
            transfers := vset u.host.transfers slot (some { t with bytes := t.bytes ++ bulk }) } })
        ∧ (s.admits slot h role anyMode false false ses → Replies (.objAbort slot h) s slot 0 [] [] fun u => { u with host := { u.host with
            transfers := vset u.host.transfers slot none } })
        ∧ (s.admits slot h role modes false true ses → t.bytes.length = t.total → crc32c t.bytes = t.crc → s.objBusy t.kind = false →
            let refused : Prop := Replies (.objEnd slot h) s slot 3 [] [] id
            let commits (f : State → State) : Prop := Replies (.objEnd slot h) s slot 0 [] [] fun u =>
              { f u with host := { (f u).host with transfers := vset (f u).host.transfers slot none } }
            let num (n i : Nat) : Nat := natLe ((t.bytes.drop (n * i)).take n)
            match t.kind with
            | .codeTable g i au =>
              let rising : Prop := ∀ k, k + 1 < t.bytes.length / 2 → num 2 k ≤ num 2 (k + 1)
              (¬ rising → refused)
              ∧ (rising → commits fun u => State.nvCommit { u with sensor := { u.sensor with
                  tableVersions := u.sensor.tableVersions + 1,
                  tables := vmod u.sensor.tables g fun v => vset v i (some
                    { au := au, entries := Vector.ofFn fun k => if k.val < t.bytes.length / 2 then num 2 k.val else 0,
                      version := u.sensor.tableVersions + 1 }) } } (.codeTable g i))
            | .stallMap i =>
              ((∃ y ∈ t.bytes, 8 ≤ y.toNat) → refused)
              ∧ (∀ m, parseMap t.bytes = some m → commits fun u => { u with sensor := { u.sensor with maps := vset u.sensor.maps i (some m) } })
            | .columnTable i => commits fun u =>
                let es := stripOf ((numsLe 4 t.bytes).map fun x => (signed16 (x % 65536), x / 65536))
                let v : State := { u with groom := { u.groom with columns := vset u.groom.columns i (some es) } }
                if i.val ≤ 24 then v.nvCommit (.columnTable i) else v
            | .defectTable i => commits fun u => State.nvCommit { u with groom := { u.groom with
                defects := vset u.groom.defects i (some (stripOf (t.bytes.flatMap bitsOf))) } } (.defectTable i)
            | .lookupTable i => commits fun u => State.nvCommit { u with groom := { u.groom with
                luts := vset u.groom.luts i (some (stripOf (t.bytes.map (·.toNat)))) } } (.lookupTable i)
            | .kernel i pa entry =>
              (s.mem.edgePoison pa.toNat t.bytes.length = none → (pa.toNat < 0x400000000 → s.hbmDown = false) → commits fun u =>
                let z := u.correct ((if pa.toNat % 8 ≠ 0 then [pa.toNat / 8] else [])
                  ++ if (pa.toNat + t.bytes.length) % 8 ≠ 0 then [(pa.toNat + t.bytes.length) / 8] else [])
                { z with mem := z.mem.deviceWrite pa.toNat t.bytes,
                         det := { z.det with kernEntry := vset z.det.kernEntry i (BitVec.ofNat 64 (entry.toNat / 4 * 4)),
                                             bays := z.det.bays.map fun y => { y with code := [] } } })
              ∧ (∀ w, s.mem.edgePoison pa.toNat t.bytes.length = some w → (pa.toNat < 0x400000000 → s.hbmDown = false) →
                  Replies (.objEnd slot h) s slot 8 [] [] fun u => u.eccFound (some w))
              ∧ (pa.toNat < 0x400000000 → s.hbmDown = true → Replies (.objEnd slot h) s slot 8 [] [] fun u => u.report .config)
            | .strobe e =>
              ((∃ k, k < t.bytes.length / 3 ∧ 2 ^ 19 ≤ num 3 k) → refused)
              ∧ ((∀ k, k < t.bytes.length / 3 → num 3 k < 2 ^ 19) → commits fun u => { u with ts := { u.ts with eng := vmod u.ts.eng e fun y =>
                  { y with lut := ((numsLe 3 t.bytes).zipIdx.filter fun x => x.1 ≠ 0).map fun x => (x.2, BitVec.ofNat 24 x.1) } } })
            | .firmware b =>
              (imageLaid t.bytes = false → refused)
              ∧ (imageLaid t.bytes = true → commits fun u => { u with
                  nvm := { u.nvm with banks := vset u.nvm.banks b { factory := none, image := t.bytes, invalid := false } } })))

/-- R96, R97, R266, R267, R273, R275: the mode and capture commands. MODE_SET of the present mode and context answers OK with START 0; of a transition
that R96 lists with parameters in order it is accepted and waits; CAL_CAPTURE in READY or MAINT, with none running, waits for its lines.
Where the manual leaves a choice it follows log entries 35, 77 and 80. -/
def Obligations.ModeAndCaptureCommandsAreAccepted : Prop :=
  ∀ (s : State) (slot : Slot) (h : CmdHeader) (mode ctx opts : Byte) (start : BitVec 48) (lines : Word) (pa : BitVec 40) (yard : Byte)
    (x : Session) (m : Mode) (mv : Move),
    let c : CtxIx := finOf 16 ctx.toNat
    let deep := bit opts 0
    let force := bit h.flags 0
    (s.admits slot h 4 (fun _ => true) false (decide (mode = 7) || decide (s.mode.mode = .maint)) (some x) →
      s.moveRole (decide (mode = 7)) slot (some x) = true → s.mode.pending = none → s.lockedFollower = false →
      s.moveNamed mode ctx opts = some (m, mv) → opts.toNat < 2 → s.moveParamBad mv m ctx.toNat deep force start.toNat = false →
      (mv = .now → Replies (.modeSet slot h mode ctx opts start) s slot 0 (bytesBe 6 0) [] id)
      ∧ (mv ≠ .now → (appliesCtx mv m = true → s.shadowHeld (cMapSet (s.comingHalf c)) = false) →
          (m ≠ .standby → m ≠ .maint → s.clk.lockedOnce = true) → (m = .ready → s.railsBad = false) →
          Waits (.modeSet slot h mode ctx opts start) s slot .modeSet
            fun u => u.beginMove mv m c deep force start.toNat (some slot) x.role))
    ∧ (s.admits slot h 2 (modeIn [.ready, .maint]) false true (some x) → 1 ≤ lines.toNat → lines.toNat ≤ 65536 → pa.toNat % 64 = 0 →
        pa.toNat + 98688 * lines.toNat ≤ 0x400000000 → s.cap = none →
        Waits (.calCapture slot h lines pa) s slot .calCapture fun u =>
          { u with cap := some { slot := slot, lines := lines.toNat, done_ := 0, pa := pa, since := s.tb },
                   tick := if s.mode.mode = .maint ∧ s.clk.ticksAllowed = true then { u.tick with allowed := some s.tb } else u.tick })
    ∧ (s.admits slot h 1 anyMode true false (some x) → yard.toNat < 8 →
        let i (g : Nat) : Fin 16 := finOf 16 (2 * yard.toNat + g)
        Replies (.calStatus slot h yard) s slot 0
          (bytesBe 4 (s.rcharOfs (i 0)).toNat ++ bytesBe 4 (s.rcharGain (i 0)).toNat ++ bytesBe 4 (s.rcharOfs (i 1)).toNat
            ++ bytesBe 4 (s.rcharGain (i 1)).toNat) [] id)

/-- R136, R137, R139, R266, R273, R274, R328: the context commands. CTX_SET writes the selected registers of an unfrozen, unlocked shadow half, without
their reserved bits; CTX_GET reads a half; CTX_SCHEDULE freezes the half until its swap; CTX_CANCEL answers the waiting CTX_SCHEDULE; CTX_STORE and
CTX_LOAD move a half to and from a stored context, written to MRAM at once or held to the end of its interval; on a context that a swap has locked each of
them waits, and after 1 ms is answered NO_RESOURCE.
Where the manual leaves a choice it follows log entries 21 and 63. -/
def Obligations.ContextCommandsMoveHalves : Prop :=
  ∀ (s : State) (slot k : Slot) (h : CmdHeader) (ctx half store : Byte) (mask : BitVec 16) (values : Vector Word 12) (line : BitVec 48)
    (ses : Option Session) (n : Nat) (w : CtxWork),
    let c : CtxIx := finOf 16 ctx.toNat
    let x := vget s.ctx c
    let free : Prop := x.lockUntil = none
    let holds (i : Instr) (w : CtxWork) : Prop := x.lockUntil = some n → Waits i s slot (.ctxLocked c w) fun u =>
      { u with ctx := vset u.ctx c { x with waiters := x.waiters.filter (· ≠ slot) ++ [slot] } }
    let merged : CtxHalf := Vector.ofFn fun i => if bit mask i.val then vget values i &&& vget ctxWritable i else vget x.shadow i
    let whole : CtxHalf := Vector.ofFn fun i => vget values i &&& vget ctxWritable i
    let item : NvItem := .storedCtx (finOf 64 store.toNat)
    ctx.toNat < 16 →
    (s.admits slot h 2 anyMode false true ses → mask.toNat < 4096 → (∀ i : Fin 12, bit mask i.val = false → vget values i = 0) →
      (free → ctxAloneBad merged = false →
        (x.sched = none →
          Replies (.ctxSet slot h ctx mask values) s slot 0 [] [] fun u => { u with ctx := vset u.ctx c { x with shadow := merged } })
        ∧ (x.sched ≠ none → Replies (.ctxSet slot h ctx mask values) s slot 6 [] [] id))
      ∧ holds (.ctxSet slot h ctx mask values) (.write mask values))
    ∧ (s.admits slot h 1 anyMode true false ses → half.toNat < 2 →
        (free → Replies (.ctxGet slot h ctx half) s slot 0
          ((if half = 1 then x.active else x.shadow).toList.flatMap fun w => bytesBe 4 w.toNat) [] id)
        ∧ holds (.ctxGet slot h ctx half) (.get (decide (half = 1))))
    ∧ (s.admits slot h 1 anyMode false false ses →
        (free → s.scheduleBad c line.toNat = false → x.sched = none → s.shadowHeld (cMapSet x.shadow) = false →
          Waits (.ctxSchedule slot h ctx line) s slot (.ctxSchedule c) fun u =>
            let u := u.loadMap (cMapSet x.shadow)
            { u with ctx := vset u.ctx c { x with sched := some (line.toNat, some slot) } })
        ∧ holds (.ctxSchedule slot h ctx line) (.schedule line.toNat))
    ∧ (s.admits slot h 1 anyMode false false ses →
        (free → (x.sched = none → Replies (.ctxCancel slot h ctx) s slot 0 [] [] id)
          ∧ (x.sched = some (n, none) →
              Replies (.ctxCancel slot h ctx) s slot 0 [] [] fun u => { u with ctx := vset u.ctx c { x with sched := none } })
          ∧ (x.sched = some (n, some k) → Replies (.ctxCancel slot h ctx) s slot 0 [] [] fun u =>
              State.writeAnswer { u with ctx := vset u.ctx c { x with sched := none } } k 0 (bytesBe 6 0) []))
        ∧ holds (.ctxCancel slot h ctx) .cancel)
    ∧ (s.admits slot h 2 anyMode false true ses → store.toNat < 64 →
        (free → (s.nvm.recent.contains item = true →
            Replies (.ctxStore slot h ctx store) s slot 0 [] [] fun u => { u with nvm := { u.nvm with
              stored := vset u.nvm.stored (finOf 64 store.toNat) (some x.shadow), dirty := item :: u.nvm.dirty.filter (· ≠ item) } })
          ∧ (s.nvm.recent.contains item = false →
            Replies (.ctxStore slot h ctx store) s slot 0 [] [] fun u => { u with nvm := { u.nvm with
              stored := vset u.nvm.stored (finOf 64 store.toNat) (some x.shadow),
              storedCopy := vset u.nvm.storedCopy (finOf 64 store.toNat) (some x.shadow), recent := item :: u.nvm.recent } }))
        ∧ holds (.ctxStore slot h ctx store) (.store (finOf 64 store.toNat)))
    ∧ (s.admits slot h 1 anyMode false false ses → store.toNat < 64 → vget s.nvm.stored (finOf 64 store.toNat) = some values →
        (free → ctxAloneBad whole = false → x.sched = none →
          Replies (.ctxLoad slot h store ctx) s slot 0 [] [] fun u => { u with ctx := vset u.ctx c { x with shadow := whole } })
        ∧ holds (.ctxLoad slot h store ctx) (.write 0x0FFF values))
    ∧ (vget s.host.waits k = some (.ctxLocked c w) → s.dbg.cpHalted = false →
        exec (.ctxLockTimeout k) s = .next (s.writeAnswer k 6 [] []))

/-- R111, R114, R118, R122, R129, R131, R134, R273, R275: the tick, encoder and string commands with parameters in range write TICK_CFG, TICK_PER,
TICK_PRED, TICK_RATIO, ENC_CFG, SYNC_CFG and SYNC_GEO as their fields lie; STRING_FORM of a leader waits for its string; STRING_LEAVE drops the
string; STRING_STATUS reads.
Where the manual leaves a choice it follows log entries 43, 44 and 74. -/
def Obligations.TickAndStringCommandsConfigure : Prop :=
  ∀ (s : State) (slot : Slot) (h : CmdHeader) (src policy lag edge win hyst ch filt decode invert zmode role : Byte) (per ratio col : Word)
    (acc asym lead : BitVec 16) (ses : Option Session),
    (s.admits slot h 2 (modeIn [.standby, .ready]) false true ses → src.toNat < 6 → policy.toNat < 2 → 1 ≤ lag.toNat → lag.toNat ≤ 64 →
      edge.toNat < 2 → win.toNat < 7 → (src = 4 → s.minLp ≤ per.toNat) →
      Replies (.tickSet slot h src policy lag edge per win hyst acc) s slot 0 [] [] fun u => State.selectSource { u with tick := { u.tick with
        cfg := BitVec.ofNat 32 (lag.toNat * 256 + edge.toNat * 32 + policy.toNat * 16 + src.toNat), per := per,
        pred := BitVec.ofNat 32 (acc.toNat * 65536 + hyst.toNat * 256 + win.toNat) } })
    ∧ (s.admits slot h 2 anyMode false true ses → 0x1000 ≤ ratio.toNat →
        Replies (.ratioSet slot h ratio) s slot 0 [] [] fun u => State.refreshRequest { u with tick := u.tick.reanchor ratio })
    ∧ (s.admits slot h 2 (modeIn [.standby, .ready]) false true ses → ch.toNat < 2 → filt.toNat < 16 → decode.toNat < 3 → invert.toNat < 2 →
        zmode.toNat < 2 →
        Replies (.encSet slot h ch filt decode invert zmode) s slot 0 [] [] fun u =>
          let e : Encoder := { vget u.enc (finOf 2 ch.toNat) with
            cfg := BitVec.ofNat 32 (zmode.toNat * 256 + invert.toNat * 64 + decode.toNat * 16 + filt.toNat) }
          { u with enc := vset u.enc (finOf 2 ch.toNat) e })
    ∧ (s.admits slot h 2 (modeIn [.standby, .ready]) false true ses → s.sync.state ≠ .locked → role.toNat < 3 → col.toNat < 2 ^ 19 →
        -4096 ≤ asym.toInt → asym.toInt < 4096 → 500 ≤ lead.toNat → s.sync.forming = false →
        Replies (.stringSet slot h role col asym lead) s slot 0 [] [] fun u => { u with sync := { u.sync with
          pos := if role = 2 then u.sync.pos else 0,
          cfg := BitVec.ofNat 32 (lead.toNat * 65536 + role.toNat * 16384),
          geo := BitVec.ofNat 32 ((asym.extractLsb' 0 13).toNat * 2 ^ 19 + col.toNat) } })
    ∧ (s.admits slot h 2 (modeIn [.standby, .ready]) false true ses → (s.mode.mode = .ready → s.ticksStopped = true) → s.role = 1 →
        s.sync.forming = false →
        Waits (.stringForm slot h) s slot .stringForm fun u =>
          let v : State := { u with sync := { u.sync with
            forming := true, pos := 0, devices := 1, maxLp := s.minLp, alignedPos := [], lostPos := [], hops := [], switch := none,
            state := if s.sync.downLock then .trained else .down } }
          if s.sync.downLock then v.sendEnum else v)
    ∧ (s.admits slot h 2 (modeIn [.standby, .ready]) false true ses → s.sync.forming = false →
        Replies (.stringLeave slot h) s slot 0 [] [] fun u =>
          let v := State.switchRef (if s.isFollower then { u with tick := u.tick.clear } else u) false
          { v with sync := { v.sync with
            state := .down, upLock := false, downLock := false, joinAt := none, thetas := [], delays := [], t1 := none, aligned := false,
            rejoining := false } })
    ∧ (s.admits slot h 2 (modeIn [.standby, .ready]) false true ses → s.sync.forming = true →
        Replies (.stringLeave slot h) s slot 6 [] [] id)
    ∧ (s.admits slot h 1 anyMode true false ses → Replies (.stringStatus slot h) s slot 0
        ([s.sync.pos.setWidth 8, s.sync.state.code] ++ bytesBe 2 s.sync.offset.toNat ++ bytesBe 4 s.sync.delay.toNat) [] id)

/-- R199, R209, R213, R218, R276: the bays and kernels commands with parameters in range answer OK and take effect. AS_SET writes AS_BASE; MEM_WRITE
and MEM_READ move bytes of HBM and the general hayloft; TLB_INV starts an invalidation; JOB_SET writes the split; DJ_FILL makes a slot READY, DJ_CTRL
resumes a FAULTED one or discards it; CART_SET and CART_CTRL act on a cart; FAULT_READ returns the unread records and advances TAIL.
Where the manual leaves a choice it follows log entries 21, 31 and 86. -/
def Obligations.BayCommandsTakeEffect : Prop :=
  ∀ (s : State) (slot : Slot) (h : CmdHeader) (asid en scope split bay dj k cart owner max : Byte) (l1 pa va : BitVec 40) (len : BitVec 16)
    (bulk : List Byte) (ses : Option Session),
    let b : BayIx := finOf 128 bay.toNat
    let j : Fin 4 := finOf 4 dj.toNat
    let q : CartIx := finOf 32 cart.toNat
    let d := (s.getBay b).getSlot j
    let inMem (n : Nat) : Prop := pa.toNat + n ≤ 0x400000000 ∨ (0x1000200000 ≤ pa.toNat ∧ pa.toNat + n ≤ 0x1002000000)
    (s.admits slot h 2 anyMode false true ses → 1 ≤ asid.toNat → asid.toNat < 16 → en.toNat < 2 →
      Replies (.asSet slot h asid l1 en) s slot 0 [] [] fun u =>
        let w := BitVec.ofNat 64 (l1.toNat / 8192 * 8192 + en.toNat)
        { u with det := { u.det with asBase := vset u.det.asBase (finOf 16 asid.toNat) w } })
    ∧ (s.admits slot h 2 anyMode false true ses → bulk ≠ [] → bulk.length ≤ 4096 → inMem bulk.length → s.hbmDown = false →
        s.mem.edgePoison pa.toNat bulk.length = none →
        Replies (.memWrite slot h pa bulk) s slot 0 [] [] fun u =>
          let z := u.correct ((if pa.toNat % 8 ≠ 0 then [pa.toNat / 8] else [])
            ++ if (pa.toNat + bulk.length) % 8 ≠ 0 then [(pa.toNat + bulk.length) / 8] else [])
          { z with mem := z.mem.deviceWrite pa.toNat bulk })
    ∧ (s.admits slot h 2 anyMode false true ses → 1 ≤ len.toNat → len.toNat ≤ 4096 → inMem len.toNat → s.hbmDown = false →
        (∀ i, i < len.toNat → s.mem.poisoned ((pa.toNat + i) / 8) = false) →
        Replies (.memRead slot h pa len) s slot 0 [] (s.mem.gets pa.toNat len.toNat)
          fun u => u.correct ((List.range len.toNat).map fun i => (pa.toNat + i) / 8))
    ∧ (s.admits slot h 2 anyMode false true ses → asid.toNat < 16 → scope.toNat < 3 → s.det.tlbBusy = none →
        Replies (.tlbInv slot h asid scope va) s slot 0 [] [] fun u => { u with det := { u.det with
          tlbInvVa := BitVec.ofNat 64 (va.toNat / 65536 * 65536), tlbInv := BitVec.ofNat 32 (16 * asid.toNat + 4 * scope.toNat),
          tlbBusy := some (asid.extractLsb' 0 4, scope.extractLsb' 0 2, va.extractLsb' 16 24) } })
    ∧ (s.admits slot h 2 (modeIn [.standby, .ready, .maint]) false true ses → split.toNat < 64 →
        Replies (.jobSet slot h split) s slot 0 [] [] fun u => { u with det := { u.det with jobCfg := BitVec.ofNat 32 split.toNat } })
    ∧ (s.admits slot h 2 anyMode false true ses → bay.toNat < 128 → dj.toNat < 4 → k.toNat < 16 → 1 ≤ asid.toNat → asid.toNat < 16 →
        s.hasBay b = true → d.state = .empty ∨ d.state = .done →
        Replies (.djFill slot h bay dj k asid) s slot 0 [] [] fun u => (u.onBay b fun y => (y.onSlot j fun d => { d with
          state := .ready, kslot := finOf 16 k.toNat, asid := asid.extractLsb' 0 4, fills := d.fills + 1, fresh := true }).forget j).startNext b)
    ∧ (s.admits slot h 1 anyMode false false ses → bay.toNat < 128 → dj.toNat < 4 → s.hasBay b = true → d.state = .faulted →
        Replies (.djResume slot h bay dj) s slot 0 [] [] fun u =>
          (u.onBay b fun y => y.onSlot j fun d => { d with state := .ready, fresh := false }).startNext b)
    ∧ (s.admits slot h 1 anyMode false false ses → bay.toNat < 128 → dj.toNat < 4 → s.hasBay b = true → d.state ≠ .running →
        Replies (.djDiscard slot h bay dj) s slot 0 [] [] fun u => (u.onBay b fun y =>
          let y := (y.onSlot j fun d => { d with state := .empty }).forget j
          if y.work = .restoring j then { y with work := .idle } else y).startNext b)
    ∧ (s.admits slot h 2 anyMode false true ses → cart.toNat < 32 → owner.toNat < 16 → (s.getCart q).state = .idle →
        Replies (.cartSet slot h cart owner) s slot 0 [] [] fun u => u.onCart q fun c => { c with owner := owner.extractLsb' 0 4 })
    ∧ (s.admits slot h 1 anyMode false false ses → cart.toNat < 32 → (s.getCart q).state = .stopped →
        Replies (.cartCtrlResume slot h cart) s slot 0 [] [] (fun u => u.cartResume q)
        ∧ Replies (.cartCtrlAbort slot h cart) s slot 0 [] [] (fun u => u.cartAbort q))
    ∧ (s.admits slot h 1 anyMode false false ses → 1 ≤ max.toNat → max.toNat ≤ 6 →
        let n := min max.toNat (s.det.fltHead - s.det.fltTail).toNat
        Replies (.faultRead slot h max) s slot 0
          (BitVec.ofNat 8 n :: (List.range n).flatMap fun i => s.mem.gets (faultRing + 32 * (s.det.fltTail + BitVec.ofNat 8 i).toNat) 32) []
          fun u => { u with det := { u.det with fltTail := u.det.fltTail + BitVec.ofNat 8 n } })

/-- R222, R238, R239, R244, R277: the ports and streams commands with parameters in range, for a port that the variant has. PORT_SET and LANE_SET write
their registers; PORT_START and PORT_STOP answer at once where the port is there already, wait otherwise, and find a port that another one waits for held; STREAM_SET and STREAM_ENABLE write
STREAM_CFG, an enable making a STREAM_START due; PORT_STATUS reads.
Where the manual leaves a choice it follows log entries 38 and 87. -/
def Obligations.PortCommandsTakeEffect : Prop :=
  ∀ (s : State) (slot : Slot) (h : CmdHeader) (port rate en lane pre post swing zdiff pol stream kind fld : Byte) (sealN : BitVec 16)
    (ses : Option Session),
    let p : PortIx := finOf 4 port.toNat
    let k : StreamIx := finOf 16 stream.toNat
    let q := s.getPort p
    let has : Prop := port.toNat < 4 ∧ s.hasPort p = true
    (s.admits slot h 2 anyMode false true ses → has → rate.toNat < 5 → en.toNat < 2 → 16 ≤ sealN.toNat → sealN.toNat ≤ 1024 → q.state = .stopped →
      Replies (.portSet slot h port rate en sealN) s slot 0 [] [] fun u => u.onPort p fun q => { q with
        cfg := setField q.cfg 28 3 rate.toNat, sealCfg := setField (setBit q.sealCfg 31 (decide (en = 1))) 0 11 sealN.toNat })
    ∧ (s.admits slot h 1 (modeIn [.ready, .line, .field, .split, .frame]) false false ses → has →
        (q.state = .running → Replies (.portStart slot h port) s slot 0 [] [] id)
        ∧ (q.state ≠ .running → (∀ k, vget s.host.waits k ≠ some (.portStart p)) →
            Waits (.portStart slot h port) s slot (.portStart p) fun u => u.askStart p)
        ∧ (q.state ≠ .running → (∃ k, vget s.host.waits k = some (.portStart p)) → Replies (.portStart slot h port) s slot 6 [] [] id))
    ∧ (s.admits slot h 1 anyMode false false ses → has →
        let there : Prop := q.state = .stopped ∧ (s.portInReset p = false ∨ bit q.cfg 31 = false)
        (there → Replies (.portStop slot h port) s slot 0 [] [] id)
        ∧ (¬ there → (∀ k, vget s.host.waits k ≠ some (.portStop p)) →
            Waits (.portStop slot h port) s slot (.portStop p) fun u => u.askStop p)
        ∧ (¬ there → (∃ k, vget s.host.waits k = some (.portStop p)) → Replies (.portStop slot h port) s slot 6 [] [] id))
    ∧ (s.admits slot h 2 anyMode false true ses → lane.toNat < 32 → pre.toNat < 8 → post.toNat < 16 → pre.toNat + post.toNat ≤ 20 →
        swing.toNat ≤ 10 → zdiff.toNat < 2 → pol.toNat < 2 → (s.isSmall = true → lane.toNat < 16) →
        Replies (.laneSet slot h lane pre post swing zdiff pol) s slot 0 [] [] fun u => { u with port := { u.port with
          lane := vset u.port.lane (finOf 32 lane.toNat)
            (BitVec.ofNat 32 (512 * post.toNat + 64 * pre.toNat + 4 * swing.toNat + 2 * zdiff.toNat + pol.toNat)) } })
    ∧ (s.admits slot h 2 anyMode false true ses → has → stream.toNat < 16 → kind.toNat < 3 → fld.toNat < 4 → (s.getStream k).en = false →
        Replies (.streamSet slot h stream kind port fld) s slot 0 [] [] fun u => u.onStream k fun d => { d with
          cfg := streamWord false kind.toNat port.toNat fld.toNat })
    ∧ (s.admits slot h 1 anyMode false false ses → stream.toNat < 16 →
        (s.mayEnable k = true → (s.getStream k).en = false → Replies (.streamEnable slot h stream 1) s slot 0 [] [] fun u =>
          u.onStream k fun d => { d with cfg := setBit d.cfg 31 true }.startDue)
        ∧ ((s.getStream k).en = true → Replies (.streamEnable slot h stream 0) s slot 0 [] [] fun u =>
          u.onStream k fun d => { d with cfg := setBit d.cfg 31 false })
        ∧ (s.mayEnable k = true → (s.getStream k).en = true → Replies (.streamEnable slot h stream 1) s slot 0 [] [] id)
        ∧ ((s.getStream k).en = false → Replies (.streamEnable slot h stream 0) s slot 0 [] [] id))
    ∧ (s.admits slot h 1 anyMode true false ses → has → Replies (.portStatus slot h port) s slot 0
        ([BitVec.ofNat 8 (match q.state with
            | .stopped => 0
            | .starting => 1
            | .running => 2
            | .stopping => 3), BitVec.ofNat 8 (field q.cfg 30 28)] ++ bytesBe 2 q.fillKib ++ bytesBe 4 q.sessionWord.toNat) [] id)

/-- R289, R291–R295, R298, R303, R305, R421: the security commands. AUTH_CHALLENGE draws a nonce for the slot; a good AUTH_RESPONSE to a valid challenge
opens a session of the challenge's role, clears the key's failures and answers its number and timeout, any other is denied and counted, the fifth in a row
with a lockout; SESSION_END ends the slot's session; ENROL and REVOKE write an entry of the role table and end the sessions of its key; TIME_SET sets trusted
time; SEAL_EXPORT_SET stores the unwrapped SEK; ZEROIZE runs the zeroization, which leaves no BBK, no copy of SEK or of the role table, no challenge and no
session; DEBUG_UNLOCK unlocks debug for the slot's session. In a pause of the tack room those that need it wait for its end.
Where the manual leaves a choice it follows log entries 3, 49, 90, 91 and 92. -/
def Obligations.SecurityCommandsTakeEffect : Prop :=
  ∀ (s : State) (slot : Slot) (h : CmdHeader) (role index : Byte) (sig : BitVec 768) (key : BitVec 776) (rtc : BitVec 64) (bulk : List Byte)
    (ses : Option Session) (x : Session) (ch : Challenge) (sek : BitVec 256) (dkak : BitVec 384),
    let named : Prop := (role = 1 ∧ index.toNat < 8) ∨ (role = 2 ∧ index.toNat < 4) ∨ (role = 3 ∧ index = 0)
    let need : Nat := if role = 2 then 3 else 2
    let up := s.tack.state = .operational
    let runs : Prop := s.tack.paused = false
    let pausing (c : Instr) (ses : Option Session) : Prop := s.tack.paused = true → Waits c s slot (.paused ses) fun u =>
      { u with tack := { u.tack with waiting := u.tack.waiting ++ [slot] } }
    let signed (role : BitVec 2) (index : Byte) (msg : List Byte) : Prop :=
      ∃ k, s.keyOf role index.toNat = some k ∧ ecdsaVerify k msg sig = true
    let good : Prop := signed ch.role ch.index (s.authMsg slot ch) ∧ s.lockedOut ch.role ch.index = false
    let taken (u : State) : State := { u with tack := { u.tack with challenges := vset u.tack.challenges slot none } }
    let denied (u : State) : State := { u with tack := { u.tack with authFail := satInc u.tack.authFail } }
    (s.admits slot h 0 anyMode false false ses → named → vget s.tack.sessions slot = none → up →
      (runs → Replies (.authChallenge slot h role index) s slot 0 (bytesBe 48 (s.draw 384).1.toNat) [] fun u =>
        let c : Challenge := { nonce := (s.draw 384).1, role := role.extractLsb' 0 2, index := index, since := s.tack.periods }
        let v := (u.draw 384).2
        { v with tack := { v.tack with challenges := vset v.tack.challenges slot (some c) } })
      ∧ pausing (.authChallenge slot h role index) ses)
    ∧ (s.admits slot h 0 anyMode false true ses → up →
        (runs → s.challengeOf slot = some ch → good → ∃ id : Word, (∀ k y, vget s.tack.sessions k = some y → y.id ≠ id) ∧ id ≠ 0 ∧
          Replies (.authResponse slot h sig) s slot 0
            (bytesBe 4 id.toNat ++ bytesBe 2 (if ch.role = 1 then 3600 else if ch.role = 2 then 900 else 600)) [] fun u =>
            let v := (((taken u).setLockRec ch.role ch.index LockRec.clear).draw 32).2
            let y : Session := { id := id, role := ch.role, index := ch.index, nonce := ch.nonce, since := s.tack.periods, held := false }
            { v with tack := { v.tack with sessions := vset v.tack.sessions slot (some y) } })
        ∧ (runs → s.challengeOf slot = some ch → ¬ good → Replies (.authResponse slot h sig) s slot 4 [] [] fun u =>
            denied (((taken u).noteMac ch.role ch.index.toNat).authFailed ch.role ch.index))
        ∧ (runs → s.challengeOf slot = none → Replies (.authResponse slot h sig) s slot 4 [] [] denied)
        ∧ pausing (.authResponse slot h sig) ses)
    ∧ (let r := s.lockRec ch.role ch.index
      let t := s.authFailed ch.role ch.index
      let d := if r.lockouts < 6 then min 3600 (60 * 2 ^ r.lockouts) else 3600
      (s.lockedOut ch.role ch.index = true → t = s)
      ∧ (s.lockedOut ch.role ch.index = false → r.fails < 4 →
          t = s.setLockRec ch.role ch.index { r with fails := r.fails + 1, remaining := 0, locked := false })
      ∧ (s.lockedOut ch.role ch.index = false → 4 ≤ r.fails →
          t.lockRec ch.role ch.index = { fails := 0, lockouts := r.lockouts + 1, remaining := d, locked := true } ∧ t.bkp.mono = s.bkp.mono + 1
          ∧ ∃ e, t.chore.log = s.chore.log ++ [.audit e] ∧ e.opcode = 0xFF02 ∧ e.status = BitVec.ofNat 8 (d / 60)))
    ∧ (s.admits slot h 4 anyMode false true ses → Replies (.sessionEnd slot h) s slot 0 [] [] fun u => u.endSession slot)
    ∧ (s.admits slot h need (modeIn [.standby, .ready, .maint]) false true ses → named → role ≠ 3 → s.tableUp = true →
        (runs → validPoint key = true → Replies (.enrol slot h role index key) s slot 0 [] [] fun u =>
          (u.endKey (role.extractLsb' 0 2) index.toNat).setKey role index (some (s.newEntry role index key)))
        ∧ (validPoint key = true → pausing (.enrol slot h role index key) ses)
        ∧ (runs → Replies (.revoke slot h role index) s slot 0 [] [] fun u =>
            (u.endKey (role.extractLsb' 0 2) index.toNat).setKey role index none)
        ∧ pausing (.revoke slot h role index) ses)
    ∧ (s.admits slot h 2 anyMode false true (some x) → bit rtc 63 = false → (s.bkp.trusted = true → s.bkp.rtc ≤ rtc.toNat) → up →
        (runs → signed x.role x.index (s.timeMsg rtc x) → Replies (.timeSet slot h rtc sig) s slot 0 [] [] fun u =>
          { u with bkp := { u.bkp with rtc := rtc.toNat, rtcValid := true, trusted := true } })
        ∧ (runs → ¬ signed x.role x.index (s.timeMsg rtc x) →
            Replies (.timeSet slot h rtc sig) s slot 9 [] [] fun u => u.noteMac x.role x.index.toNat)
        ∧ pausing (.timeSet slot h rtc sig) (some x))
    ∧ (s.admits slot h 2 (modeIn [.standby, .ready]) false true ses → bulk.length = 157 → up → s.dkakKey = some dkak →
        validPoint (BitVec.ofNat 776 (natBe (bulk.take 97))) = true →
        (runs → unwrapSek dkak s.serial bulk = some sek → Replies (.sealExportSet slot h bulk) s slot 0 [] [] fun u => u.keepBbk.setSek sek)
        ∧ (runs → unwrapSek dkak s.serial bulk = none → Replies (.sealExportSet slot h bulk) s slot 9 [] [] id)
        ∧ pausing (.sealExportSet slot h bulk) ses)
    ∧ (s.admits slot h 2 anyMode false true ses →
        (runs → Replies (.zeroize slot h) s slot 0 [] [] fun u => u.zeroize) ∧ pausing (.zeroize slot h) ses)
    ∧ (s.admits slot h 3 (modeIn [.maint]) false true ses → s.debugPolicy ≠ 2 → Replies (.debugUnlock slot h) s slot 0 [] [] fun u =>
        { u with dbg := { u.dbg with unlocked := some slot } })
    ∧ (let t := s.zeroize
      t.bkp.bbk = none ∧ t.nvm.sek.copies = [] ∧ t.nvm.roles.copies = []
      ∧ (∀ k, vget t.tack.challenges k = none ∧ vget t.tack.sessions k = none))

/-- R270, R279, R299–R301, R312, R313, R320–R322: the firmware and fuse commands. FW_ACTIVATE of a good bank names it in the control word and restarts
after its answer, of any other it answers INTEGRITY; FUSE_READ reads the shadow for words 0x00–0x1F, the array for words 0x28–0x5F and 0 for the secret and
absent ones, and outside the shadow waits for a pulse in progress; FUSE_PROGRAM and FUSE_PROGRAM_INST of an allowed bit begin its first pulse and wait, of a
bit that both cells hold they answer at once, where no source of the pulse is good they answer HW_FAULT, and during a pulse NO_RESOURCE.
Where the manual leaves a choice it follows log entries 50, 72 and 84. -/
def Obligations.FirmwareAndFuseCommands : Prop :=
  ∀ (s : State) (slot : Slot) (h : CmdHeader) (bank word b : Byte) (ib : BitVec 16) (vpp : Option Nat) (ses : Option Session),
    let w := BitVec.ofNat 8 (0x40 + ib.toNat / 32)
    let t := s.vppAt vpp
    let fresh (w : Byte) (b : Fin 32) : Prop := bit (vget s.fuse.cell0 w.toFin) b.val = false ∨ bit (vget s.fuse.cell1 w.toFin) b.val = false
    let begins (c : Instr) (w : Byte) (b : Fin 32) : Prop := ∃ u, t.posted_ u slot ∧
      (s.fuse.pulse = none → t.canPulse = true → fresh w b → exec c s = .next
        (let v := u.beginBit (.command slot) w b
        { v with host := { v.host with waits := vset v.host.waits slot (some .fuse) } }))
      ∧ (s.fuse.pulse = none → t.canPulse = true → ¬ fresh w b → exec c s = .next (u.writeAnswer slot 0 [] []))
      ∧ (s.fuse.pulse = none → t.canPulse = false → exec c s = .next ((u.report .fuse).writeAnswer slot 8 [] []))
      ∧ (s.fuse.pulse ≠ none → exec c s = .next (u.writeAnswer slot 6 [] []))
    (s.admits slot h 3 (modeIn [.maint]) false true ses → bank.toNat < 2 → s.tack.state = .operational → s.tack.paused = false →
      (s.checkBank (finOf 2 bank.toNat) = .good →
        ∃ u, s.posted_ u slot ∧ exec (.fwActivate slot h bank) s
          = .next (({ u with nvm := { u.nvm with active := finOf 2 bank.toNat } }.writeAnswer slot 0 [] []).restart 7))
      ∧ (s.checkBank (finOf 2 bank.toNat) = .rollback → Replies (.fwActivate slot h bank) s slot 9 [] [] id)
      ∧ (s.checkBank (finOf 2 bank.toNat) = .failed → Replies (.fwActivate slot h bank) s slot 9 [] [] fun u => u.imageFails))
    ∧ (s.admits slot h 3 (modeIn [.maint]) false true ses → bank.toNat < 2 → s.tack.state = .operational → s.tack.paused = true →
      Waits (.fwActivate slot h bank) s slot (.paused ses) fun u => { u with tack := { u.tack with waiting := u.tack.waiting ++ [slot] } })
    ∧ (s.admits slot h 1 anyMode true false ses →
        (s.fuse.pulse = none ∨ word.toNat < 0x20 → Replies (.fuseRead slot h word) s slot 0
          (bytesBe 4 (if (0x19 ≤ word.toNat ∧ word.toNat ≤ 0x1B) ∨ (0x20 ≤ word.toNat ∧ word.toNat < 0x28) ∨ 0x60 ≤ word.toNat then 0
            else if word.toNat < 0x20 then (vget s.fuse.shadow (finOf 32 word.toNat)).toNat
            else (vget s.fuse.cell0 word.toFin ||| vget s.fuse.cell1 word.toFin).toNat)) [] id)
        ∧ (s.fuse.pulse ≠ none → 0x20 ≤ word.toNat → Waits (.fuseRead slot h word) s slot (.fuseRead word) id))
    ∧ (t.admits slot h 3 (modeIn [.maint]) false true ses → b.toNat < 32 → t.fuseAllowed word.toNat b.toNat = true →
        begins (.fuseProgram slot h word b vpp) word (finOf 32 b.toNat))
    ∧ (t.admits slot h 2 (modeIn [.maint]) false true ses → bit (vget s.fuse.shadow 0x18) 3 = true → ib.toNat < 1024 →
        begins (.fuseProgramInst slot h ib vpp) w (finOf 32 ib.toNat))

/-- R312, R320, R322: a verified pulse sets its cell to 1 and no fuse cell ever goes back to 0; after the last cell of a command's bit its slot is
answered, HW_FAULT where a cell failed; a pulse that fails once is given again, after the reads that waited for it are answered.
Where the manual leaves a choice it follows log entry 50. -/
def Obligations.FusePulsesOnlyProgram : Prop :=
  ∀ (s : State) (p : Pulse) (verified : Bool), s.fuse.pulse = some p →
    ∃ t, exec (.fusePulseDone verified) s = .next t
      ∧ (∀ w b, bit (vget s.fuse.cell0 w) b = true → bit (vget t.fuse.cell0 w) b = true)
      ∧ (∀ w b, bit (vget s.fuse.cell1 w) b = true → bit (vget t.fuse.cell1 w) b = true)
      ∧ (verified = true → bit (vget (if p.cell then t.fuse.cell1 else t.fuse.cell0) p.word.toFin) p.bit.val = true)
      ∧ (verified = false → p.retry = false → p.user ≠ .orphan →
          t = { s.fuseReads with fuse := { s.fuse with pulse := some { p with retry := true } } })
      ∧ (∀ k, p.user = .command k → vget s.host.waits k = some .fuse → s.dbg.cpHalted = false → s.mode.leaving = false → hostWf s.host.bytes = true →
          (p.cell = true ∨ bit (vget s.fuse.cell1 p.word.toFin) p.bit.val = true) → (verified = true ∨ p.retry = true) →
          t.fuse.pulse = none ∧ bit t.host.ring k.val = false ∧ bit t.host.done k.val = true
          ∧ hostGet t.host.bytes (slotAddr k + 0x0C) = if verified = true ∧ p.failed = false then 0 else 8)

/-- R281, R282, R372, R373, R375, R379, R384, R385, R391, R400: PERIPH_SET writes and PERIPH_GET reads the register that BLOCK, UNIT and REG name, each under
its access code and with the side effects of its read; a reserved value answers BAD_PARAM; PERIPH_GO starts the timers or the strobe engines of its mask.
Where the manual leaves a choice it follows log entry 94. -/
def Obligations.PeripheralCommandsReachTheirRegisters : Prop :=
  ∀ (s : State) (slot : Slot) (h : CmdHeader) (block unit_ : Byte) (reg mask : BitVec 16) (value : Word) (ses : Option Session) (o : Nat),
    let w := value
    let sets (f : State → State) : Prop := Replies (.periphSet slot h block unit_ reg value) s slot 0 [] [] f
    let bad : Prop := Replies (.periphSet slot h block unit_ reg value) s slot 3 [] [] id
    let gets (v : Word) (f : State → State) : Prop := Replies (.periphGet slot h block unit_ reg) s slot 0 (bytesBe 4 v.toNat) [] f
    (s.admits slot h 2 anyMode false true ses →
      (periphAt block.toNat unit_.toNat reg.toNat = none → bad)
      ∧ (periphAt block.toNat unit_.toNat reg.toNat = some o →
        (∀ t : TmrIx, let x := vget s.ts.tmr t
          let at_ (k : Nat) : Prop := o = 0xC0000 + 0x40 * t.val + k
          let reserved : Prop := field w 26 25 = 3 ∨ 0x5D ≤ field w 24 18 ∨ 0x5D ≤ field w 17 11
          (at_ 0 → reserved → bad)
          ∧ (at_ 0 → ¬ reserved → sets fun u => u.onTmr t fun x => { x with
              ctrl := w &&& 0x1FFFF800#32, run := x.run && !bit w 0,
              heard := x.heard && decide (field w 24 18 = field x.ctrl 24 18) && decide (field w 26 25 = field x.ctrl 26 25),
              capHeard := if field w 17 11 = field x.ctrl 17 11 then x.capHeard else 0 })
          ∧ (at_ 4 → sets fun u => u.onTmr t fun x => { x with reload := w })
          ∧ (at_ 8 → sets fun u => if x.run then { u with flt := { u.flt with regLock := satInc u.flt.regLock } } else u.onTmr t fun x => { x with cnt := w })
          ∧ (at_ 0x0C → sets fun u => u.onTmr t fun x => { x with cmp := vset x.cmp 0 w })
          ∧ (at_ 0x10 → sets fun u => u.onTmr t fun x => { x with cmp := vset x.cmp 1 w })
          ∧ (let taken : Prop := bit w 31 = true ∧ ∃ k, k ≠ t ∧ bit (vget s.ts.tmr k).route 31 = true
               ∧ field (vget s.ts.tmr k).route 28 24 = field w 28 24
             at_ 0x14 → ((field w 30 29 = 3 ∨ taken → bad)
                ∧ (field w 30 29 ≠ 3 → ¬ taken → sets fun u => u.onTmr t fun x => { x with route := w &&& 0xFF000000#32 })))
          ∧ (at_ 0x1C → sets fun u => u.onTmr t fun x => { x with ovf := x.ovf && !bit w 3 }))
        ∧ (∀ e : EngIx, let x := vget s.ts.eng e
          let at_ (k : Nat) : Prop := o = 0xD0000 + 0x40 * e.val + k
          let coded (n : Nat) : Prop := ∀ i < n, (w.extractLsb' (7 * i) 7).toNat < 0x5C
          (at_ 0 → field w 14 13 = 3 → bad)
          ∧ (at_ 0 → field w 14 13 ≠ 3 → sets fun u =>
              let v := if x.run then State.onEng { u with flt := { u.flt with regLock := satInc u.flt.regLock } } e fun x =>
                  { x with ctrl := (x.ctrl &&& ~~~0x00007F00#32) ||| (w &&& 0x00007F00#32) }
                else u.onEng e fun x => { x with ctrl := (x.ctrl &&& ~~~0x00FFFF00#32) ||| (w &&& 0x00FFFF00#32) }
              if bit w 0 then v.pinEdges (v.onEng e fun x => { x with run := false, out := 0 }) else v)
          ∧ (at_ 4 → (¬ coded 4 → bad) ∧ (coded 4 → ∃ l, sets fun u => u.onEng e fun x => { x with sel0 := w &&& 0x0FFFFFFF#32, latch := l }))
          ∧ (at_ 8 → (¬ coded 2 → bad) ∧ (coded 2 → ∃ l, sets fun u => u.onEng e fun x => { x with sel1 := w &&& 0x00003FFF#32, latch := l }))
          ∧ (at_ 0x0C → sets fun u => u.onEng e fun x => { x with
              irq := x.irq && !bit w 3, wrfull := x.wrfull && !bit w 2, overrun := x.overrun && !bit w 1, underrun := x.underrun && !bit w 0 })
          ∧ (at_ 0x10 → sets fun u => u.onEng e fun x => if x.tx.length < 32 then { x with tx := x.tx ++ [w] } else { x with wrfull := true }))
        ∧ (o = 0xD0404 → sets fun u => { u with ts := { u.ts with
            swf := w.extractLsb' 24 8, preLate := u.ts.preLate && !bit w 16, preNs := w.extractLsb' 0 16 } })
        ∧ (∀ i : Fin 16, o = 0xD0500 + 4 * i.val →
            sets fun u => u.pinEdges { u with ts := { u.ts with route := vset u.ts.route i (w &&& 0x000001FF#32) } })
        ∧ (o = 0xC0400 → sets fun u => u.goTmr (w.extractLsb' 0 16)) ∧ (o = 0xD0400 → sets fun u => u.goStb (w.extractLsb' 0 8))
        ∧ (∀ c : ConvIx, let x := vget s.hk.conv c
          let at_ (k : Nat) : Prop := o = 0xE0000 + 0x200 * c.val + k
          (at_ 0 → (0x5D ≤ field w 30 24 ∨ field w 15 0 ≤ field w 20 17 → bad)
            ∧ (field w 30 24 < 0x5D → field w 20 17 < field w 15 0 → bit w 16 = true → sets fun u => u.onConv c fun x => { x with
                ctrl := w &&& 0x7FFFFFFF#32, heard := if field w 30 24 = field x.ctrl 30 24 then x.heard else 0,
                entryTb := if bit x.ctrl 16 then x.entryTb else Vector.replicate 16 s.tb })
            ∧ (field w 30 24 < 0x5D → field w 20 17 < field w 15 0 → bit w 16 = false → sets fun u => State.refreshStale (u.onConv c fun x => { x with
                ctrl := w &&& 0x7FFFFFFF#32, heard := if field w 30 24 = field x.ctrl 30 24 then x.heard else 0,
                nextReg := none, passDue := false, passTb := none }) c))
          ∧ (at_ 4 → sets fun u => u.onConv c fun x => { x with
              forced := x.forced && !bit w 3, isOpen := x.isOpen && !bit w 2, injDone := x.injDone && !bit w 0 })
          ∧ (∀ i : Fin 20, at_ (0x40 + 4 * i.val) → let wrong : Prop := field w 5 4 = 3 ∨ (field w 5 4 ≠ 0 ∧ 8 ≤ field w 3 0)
              ((wrong → bad) ∧ (¬ wrong → sets fun u => u.onConv c fun x => { x with seq := vset x.seq i (w &&& 0x00000FFF#32) }))))
        ∧ (o = 0xE0400 → sets fun u => { u with hk := { u.hk with
            chk := (w &&& 0x800F0FFF#32) ||| (if bit w 30 then 0 else u.hk.chk &&& 0x40000000#32) } })
        ∧ (∀ d : Fin 4, o = 0xE0800 + 4 * d.val → sets fun u =>
            if bit s.flt.pfrBusy 10 then u else u.onDac d fun x => x.write (bit w 12) (w.extractLsb' 0 12) s.tb)
        ∧ (o = 0xF0000 → (field w 31 30 = 3 → bad) ∧ (field w 31 30 ≠ 3 → sets fun u => { u with hk := { u.hk with i2cCfg := w &&& 0xFFE00000#32 } }))))
    ∧ (s.admits slot h 1 anyMode true false ses → periphAt block.toNat unit_.toNat reg.toNat = some o →
        (∀ t : TmrIx, let x := vget s.ts.tmr t
          let at_ (k : Nat) : Prop := o = 0xC0000 + 0x40 * t.val + k
          (at_ 0 → gets (setBit x.ctrl 31 x.run) id) ∧ (at_ 4 → gets x.reload id) ∧ (at_ 8 → gets x.cnt id) ∧ (at_ 0x0C → gets (vget x.cmp 0) id)
          ∧ (at_ 0x10 → gets (vget x.cmp 1) id) ∧ (at_ 0x14 → gets x.route id)
          ∧ (at_ 0x18 → (x.cap = [] → gets 0 id) ∧ ∀ v vs, x.cap = v :: vs → gets v fun u => u.onTmr t fun x => { x with cap := vs })
          ∧ (at_ 0x1C → gets (setBit (BitVec.ofNat 32 (x.cartMiss.toNat * 65536 + x.cap.length)) 3 x.ovf)
              fun u => u.onTmr t fun x => { x with cartMiss := 0 }))
        ∧ (∀ e : EngIx, let x := vget s.ts.eng e
          let at_ (k : Nat) : Prop := o = 0xD0000 + 0x40 * e.val + k
          (at_ 0 → gets (setBit x.ctrl 31 x.run) id) ∧ (at_ 4 → gets x.sel0 id) ∧ (at_ 8 → gets x.sel1 id) ∧ (at_ 0x10 → gets 0 id)
          ∧ (at_ 0x0C → gets (setBit (setBit (setBit (setBit (BitVec.ofNat 32 (x.state.toNat * 2 ^ 27 + x.tx.length * 2 ^ 21 + x.rx.length * 2 ^ 15))
              3 x.irq) 2 x.wrfull) 1 x.overrun) 0 x.underrun) id)
          ∧ (at_ 0x14 → (x.rx = [] → gets 0 id) ∧ ∀ v vs, x.rx = v :: vs → gets v fun u => u.onEng e fun x => { x with rx := vs }))
        ∧ (o = 0xC0400 ∨ o = 0xD0400 → gets 0 id)
        ∧ (o = 0xD0404 → gets (setBit (BitVec.ofNat 32 (s.ts.swf.toNat * 2 ^ 24 + s.ts.preNs.toNat)) 16 s.ts.preLate) id)
        ∧ (∀ i : Fin 16, o = 0xD0500 + 4 * i.val → gets (vget s.ts.route i) id)
        ∧ (∀ c : ConvIx, let x := vget s.hk.conv c
          let at_ (k : Nat) : Prop := o = 0xE0000 + 0x200 * c.val + k
          (at_ 0 → gets (setBit x.ctrl 31 (!x.sampled.isEmpty)) id)
          ∧ (at_ 4 → gets (setBit (setBit (setBit (setBit (setBit (BitVec.ofNat 32 (x.injMiss.toNat * 65536)) 4 x.calOk) 3 x.forced) 2 x.isOpen) 1 x.stale)
              0 x.injDone) fun u => u.onConv c fun x => { x with injMiss := 0 })
          ∧ (at_ 8 → gets x.injTb id) ∧ (∀ i : Fin 20, at_ (0x40 + 4 * i.val) → gets (vget x.seq i) id)
          ∧ (∀ i : Fin 16, at_ (0x100 + 4 * i.val) → gets (vget x.data i) id)
          ∧ (∀ i : Fin 4, at_ (0x180 + 4 * i.val) → gets (vget x.injRes i) id))
        ∧ (o = 0xE0400 → gets s.hk.chk id)
        ∧ (∀ d : Fin 4, o = 0xE0800 + 4 * d.val → let x := vget s.hk.dac d
            gets (setBit (setBit (setBit (x.code.setWidth 32) 12 x.range) 30 (x.hold || x.slew)) 31 x.active) id)
        ∧ (o = 0xF0000 → gets s.hk.i2cCfg id)
        ∧ (o = 0xF0004 → gets (setBit (setBit (BitVec.ofNat 32 (s.hk.timeouts.toNat * 65536 + s.hk.arbLost.toNat * 256)) 1 s.hk.tbusy) 0 s.hk.i2cSlot.isSome)
            fun u => { u with hk := { u.hk with timeouts := 0, arbLost := 0 } }))
    ∧ (s.admits slot h 1 anyMode false false ses → Replies (.periphGo slot h 1 mask) s slot 0 [] [] fun u => u.goTmr mask)
    ∧ (s.admits slot h 1 anyMode false false ses → mask.toNat < 256 →
        Replies (.periphGo slot h 2 mask) s slot 0 [] [] fun u => u.goStb (mask.extractLsb' 0 8))

/-- R370–R376: the timer commands. A count step gives CNT + 1, or 0 after RELOAD, stops a one-shot timer at its overflow, latches
its match and overflow pulses in the strobe inputs that select them, brings them as events to the timers and converters that select them, and releases or
misses its cart; a timer that is stopped, frozen, without its clock or counting an event that has not arrived keeps its count; TMR_GO, and the EV_SEL event of
a stopped timer in MODE 0b01, start timers from their count; TMR_STOP keeps the count; a capture queues the count, up to four; a read of TMR_CAP removes the
oldest.
Where the manual leaves a choice it follows log entries 60 and 112. -/
def Obligations.TimersCountStartAndCapture : Prop :=
  ∀ (s : State) (t : TmrIx) (mask : BitVec 16),
    let x := vget s.ts.tmr t
    let on (f : Timer → Timer) : State := { s with ts := { s.ts with tmr := vset s.ts.tmr t (f x) } }
    let outside (code : Nat) : Prop := 1 ≤ code ∧ code ≤ 0x20 ∧ bit (vget s.ts.route (finOf 16 (code - 1))) 8 = false
    let held (z : Timer) : Prop := s.tmrClock = false ∨ (bit z.ctrl 28 = true ∧ s.dbg.cpHalted = true)
    let there : Prop := x.heard = true ∨ outside (field x.ctrl 24 18)
    let captured : Prop := 0 < x.capHeard ∨ outside (field x.ctrl 17 11)
    (∃ tmr, exec (.tmrGo mask) s = .next { s with ts := { s.ts with tmr := tmr } } ∧
        ∀ u : TmrIx, vget tmr u = { vget s.ts.tmr u with run := bit mask u.val || (vget s.ts.tmr u).run, heard := !bit mask u.val && (vget s.ts.tmr u).heard })
    ∧ exec (.tmrStop t) s = .next (on fun x => { x with run := false })
    ∧ (field x.ctrl 26 25 = 1 → there → exec (.timerEventStart t) s = .next (on fun x => { x with run := true, heard := false }))
    ∧ (field x.ctrl 26 25 ≠ 1 ∨ ¬ there → exec (.timerEventStart t) s = .next s)
    ∧ (captured → x.cap.length < 4 → exec (.timerCapture t) s = .next (on fun x => { x with cap := x.cap ++ [x.cnt], capHeard := x.capHeard - 1 }))
    ∧ (captured → x.cap.length = 4 → exec (.timerCapture t) s = .next (on fun x => { x with ovf := true, capHeard := x.capHeard - 1 }))
    ∧ (¬ captured → exec (.timerCapture t) s = .next s)
    ∧ (∀ c cs, x.cap = c :: cs → exec (.tmrCapRead t) s =
        .next { on fun x => { x with cap := cs } with host := { s.host with busRead := c.setWidth 64 } })
    ∧ (x.run = false ∨ held x ∨ (field x.ctrl 26 25 = 2 ∧ ¬ there) → exec (.timerCountStep t) s = .next s)
    ∧ (x.run = true → ¬ held x → (field x.ctrl 26 25 = 2 → there) →
      let wrap : Bool := x.reload ≤ x.cnt
      let cnt : Word := if wrap then 0 else x.cnt + 1
      let m (c : Fin 2) : Bool := vget x.cmp c = cnt
      let fires (code : Nat) : Bool := (code = 0x1A + 2 * t.val && m 0) || (code = 0x1B + 2 * t.val && m 1) || (code = 0x3A + t.val && wrap)
      let evs : List Nat := (if m 0 then [0x25 + 2 * t.val] else []) ++ (if m 1 then [0x26 + 2 * t.val] else []) ++ if wrap then [0x45 + t.val] else []
      let ev := field x.route 30 29
      let routed : Bool := (ev = 0 && m 0) || (ev = 1 && m 1) || (ev = 2 && wrap)
      let hears (z : Timer) : Prop := field z.ctrl 24 18 ∈ evs ∧
        ((field z.ctrl 26 25 = 2 ∧ z.run = true ∧ ¬ held z) ∨ (field z.ctrl 26 25 = 1 ∧ z.run = false))
      ∃ u y, exec (.timerCountStep t) s = .next u
        ∧ u = { s with ts := { s.ts with tmr := u.ts.tmr, eng := u.ts.eng }, hk := { s.hk with conv := u.hk.conv }, det := { s.det with carts := u.det.carts } }
        ∧ y = { x with cnt := cnt, run := !(wrap && bit x.ctrl 27), heard := false, cartMiss := y.cartMiss }
        ∧ (∀ k : TmrIx, let z := if k = t then y else vget s.ts.tmr k
            vget u.ts.tmr k = { z with heard := (vget u.ts.tmr k).heard, capHeard := z.capHeard + evs.countP (· = field z.ctrl 17 11) }
            ∧ ((vget u.ts.tmr k).heard = true ↔ z.heard = true ∨ hears z))
        ∧ (∀ c : ConvIx, let z := vget s.hk.conv c
            vget u.hk.conv c = { z with heard := z.heard + evs.countP (· = field z.ctrl 30 24) })
        ∧ (∀ e : EngIx, let g := vget s.ts.eng e
            vget u.ts.eng e = { g with latch := (vget u.ts.eng e).latch }
            ∧ ∀ i : Fin 6, bit (vget u.ts.eng e).latch i.val = (bit g.latch i.val || fires (g.inCode i)))
        ∧ (∀ q : CartIx, let c := vget s.det.carts q
            let mine : Bool := routed && bit x.route 31 && q.val = field x.route 28 24
            vget u.det.carts q = { c with freed := c.freed || (mine && c.state = .idle && !c.queue.isEmpty) })
        ∧ y.cartMiss = (let c := vget s.det.carts (finOf 32 (field x.route 28 24))
            if routed && bit x.route 31 && !(c.state = .idle && !c.queue.isEmpty && !c.freed) then satInc x.cartMiss else x.cartMiss))

/-- R372, R378–R383, R385: the strobe commands. STB_GO starts the named engines in START_STATE with outputs 0; a stop leaves the state; a step takes
the entry that STATE and IN0–IN5 select: the next STATE, OUT unless HOLD, w bits shifted out over OUT[w−1:0] from the TX shift register (which takes
the next FIFO word when spent, and underruns without one), the latches cleared, and IRQ; STB_TX fills the TX FIFO of 32 words; STB_RX empties the RX
FIFO. An edge of a pin that the device drives, and an engine's IRQ, are events for the timers and converters that select them.
Where the manual leaves a choice it follows log entries 45 and 112; what a shift out of more bits than are left gives, and where the bits of a shift in go
that a word has no room for, are the model's choice of log entry 96. -/
def Obligations.StrobeEnginesStepAndShift : Prop :=
  ∀ (s : State) (e : EngIx) (pins : BitVec 16) (mask : Byte) (word : Word),
    let x := vget s.ts.eng e
    let on (y : Engine) : State := { s with ts := { s.ts with eng := vset s.ts.eng e y } }
    let edges (u : State) : List Nat := (List.finRange 16).filterMap fun i =>
      let level (z : State) : Bool := ((List.finRange 8).any fun k => bit (vget z.ts.route i) k.val && bit (vget z.ts.eng k).out (i.val % 8)) != bit s.stbInact i.val
      if bit (vget u.ts.route i) 8 && level s != level u then some (if level u then 0x01 + i.val else 0x11 + i.val) else none
    let told (evs : List Nat) (u : State) : State := { u with
      ts := { u.ts with tmr := u.ts.tmr.map fun z => evs.foldl (fun z c => z.hear (!s.tmrHeld z) c) z },
      hk := { u.hk with conv := u.hk.conv.map fun z => evs.foldl Conv.hear z } }
    (s.stbClock = true → ∃ eng, let u : State := { s with ts := { s.ts with eng := eng } }
      exec (.stbGo mask) s = .next (told (edges u) u) ∧
      ∀ k : EngIx, let g := vget s.ts.eng k
        vget eng k = if bit mask k.val then { g with run := true, state := g.ctrl.extractLsb' 8 5, out := 0 } else g)
    ∧ (let u := on { x with run := false, out := 0 }
       exec (.stbStop e) s = .next (told (edges u) u))
    ∧ (∀ u : State, u.fuse = s.fuse → u.clk = s.clk → u.tbRun = s.tbRun → u.dbg = s.dbg → s.pinEdges u = told (edges u) u)
    ∧ (s.host.phase ≠ 0 → x.tx.length < 32 → exec (.stbTxWrite e word) s = .next (on { x with tx := x.tx ++ [word] }))
    ∧ (s.host.phase ≠ 0 → x.tx.length = 32 → exec (.stbTxWrite e word) s = .next (on { x with wrfull := true }))
    ∧ (∀ w ws, x.rx = w :: ws → exec (.stbRxRead e) s =
        .next { on { x with rx := ws } with host := { s.host with busRead := w.setWidth 64 } })
    ∧ (x.run = true → s.stbClock = true → ∀ ins : BitVec 6, (∀ i : Fin 6, bit ins i.val = s.stbInput x pins i) →
      let en : BitVec 24 := (x.lut.lookup (x.state.toNat * 64 + ins.toNat)).getD 0
      let w := 2 ^ (en.extractLsb' 16 2).toNat
      let base : Byte := if bit en 13 then x.out else en.extractLsb' 5 8
      let word (y : Word) : Byte := (base >>> w <<< w) ||| (y.setWidth 8 &&& BitVec.ofNat 8 (2 ^ w - 1))
      ∃ u, exec (.strobeStep e pins) s = .next u
        ∧ (vget u.ts.eng e).state = en.extractLsb' 0 5 ∧ (vget u.ts.eng e).run = true
        ∧ (vget u.ts.eng e).irq = (x.irq || bit en 18) ∧ u.hk.cpIrq = (if bit en 18 then setBit s.hk.cpIrq e.val true else s.hk.cpIrq)
        ∧ (bit en 18 = false → (vget u.ts.eng e).latch = 0 ∧ u.ts.eng = vset s.ts.eng e (vget u.ts.eng e))
        ∧ u = told (edges (on (vget u.ts.eng e)) ++ if bit en 18 then [0x55 + e.val] else [])
            { s with ts := { s.ts with eng := u.ts.eng }, hk := { s.hk with cpIrq := u.hk.cpIrq } }
        ∧ (∀ k, k ≠ e → vget u.ts.eng k = { vget s.ts.eng k with latch := (vget u.ts.eng k).latch })
        ∧ (bit en 14 = false → (vget u.ts.eng e).out = base ∧ (vget u.ts.eng e).tx = x.tx)
        ∧ (bit en 14 = true → x.txLeft ≠ 0 → (vget u.ts.eng e).out = word x.txShift ∧ (vget u.ts.eng e).txShift = x.txShift >>> w
            ∧ (vget u.ts.eng e).txLeft = x.txLeft - w ∧ (vget u.ts.eng e).tx = x.tx)
        ∧ (bit en 14 = true → x.txLeft = 0 → x.tx = [] → (vget u.ts.eng e).underrun = true ∧ (vget u.ts.eng e).out = base)
        ∧ (bit en 14 = true → x.txLeft = 0 → ∀ y ys, x.tx = y :: ys → (vget u.ts.eng e).out = word y ∧ (vget u.ts.eng e).tx = ys
            ∧ (vget u.ts.eng e).txLeft = 32 - w)
        ∧ (bit en 15 = false → (vget u.ts.eng e).rx = x.rx)
        ∧ (bit en 15 = true → x.rxHave + w < 32 → (vget u.ts.eng e).rx = x.rx ∧ (vget u.ts.eng e).rxHave = x.rxHave + w)
        ∧ (bit en 15 = true → x.rxHave + w = 32 → x.rx.length = 32 → (vget u.ts.eng e).overrun = true ∧ (vget u.ts.eng e).rx = x.rx)
        ∧ (bit en 15 = true → x.rxHave + w = 32 → x.rx.length < 32 → ∃ y, (vget u.ts.eng e).rx = x.rx ++ [y]))

/-- R281, R388–R395, R397–R399: the converters, the DACs and the two-wire port. A pass falls due every REG_PER µs and begins with entry 0 or waits for the running
one; an event that INJ_EV names latches TB, clears the VALID bits and begins the injected sequence at the next slot boundary, or is held during one, or missed; a free
slot samples the injected entry that waits, unless a regular one is forced before a sequence, else the regular one, and in the slot of the first entry of a pass of HKA
the check channel on both; 2 µs after its slot a result goes to HK_DATA of its channel or to its HK_INJ_RES with VALID set; HK_READ answers the newest code of a channel
and its age. A DAC write before READY or during the reset F10 is without effect; a write of another range forces 0 V until the hold ends, 20 µs after it; a driver that
neither holds nor slews gives CODE/4,096 of 1.25 V or 2.5 V; a write of another code slews; a transfer of I2C_XFER runs until it is done or times out, and its slot is
then answered with RESULT, INDEX and the bytes read; a target time-out resets the target.
Where the manual leaves a choice it follows log entries 55, 56 and 112. -/
def Obligations.ConvertersDacsAndTwoWirePort : Prop :=
  (∀ (s : State) (c : ConvIx) (t : Nat) (code chk : BitVec 12) (slot : Slot) (h : CmdHeader) (conv ch : Byte) (ses : Option Session),
      let x := vget s.hk.conv c
      let v := s.atTb t
      let k := v.tb / 1000
      let on (y : Conv) : State := { v with hk := { v.hk with conv := vset v.hk.conv c y } }
      let per := 1000 * field x.ctrl 15 0
      let there : Prop := 0 < x.heard ∨ (1 ≤ field x.ctrl 30 24 ∧ field x.ctrl 30 24 ≤ 0x20
        ∧ bit (vget s.ts.route (finOf 16 (field x.ctrl 30 24 - 1))) 8 = false)
      let regDue (z : Conv) (i : Fin 16) : Prop :=
        z.nextReg = some i ∧ (z.nextInj = none ∨ k < z.injSlot ∨ (z.nextInj = some 0 ∧ 4 ≤ z.deferred))
      let injDue (i : Fin 4) : Prop := x.nextInj = some i ∧ x.injSlot ≤ k ∧ (x.nextReg = none ∨ i ≠ 0 ∨ x.deferred < 4)
      let check : Prop := c = 1 ∧ (s.hk.chkSlot = some k ∨ (bit s.hk.chk 31 = true ∧ (vget s.hk.conv 0).freeSlot ≤ k ∧ regDue (vget s.hk.conv 0) 0))
      (bit x.ctrl 16 = true → (∀ p, x.passTb = some p → per ≤ v.tb - p) →
        ∃ p, p ≤ v.tb ∧ (x.passTb = none → p = v.tb) ∧ (∀ q, x.passTb = some q → q ≤ v.tb → 0 < per → v.tb < p + per ∧ (p - q) % per = 0) ∧
          (x.nextReg = none → exec (.hkRegularPass c t) s = .next (on { x with nextReg := some 0, passTb := some p }))
          ∧ (x.nextReg ≠ none → exec (.hkRegularPass c t) s = .next (on { x with passDue := true, passTb := some p })))
      ∧ (bit x.ctrl 16 = false ∨ (∃ p, x.passTb = some p ∧ v.tb - p < per) → exec (.hkRegularPass c t) s = .next v)
      ∧ (s.host.phase ≠ 0 → exec (.hkCalConverged c) s = .next { s with hk := { s.hk with conv := vset s.hk.conv c { x with calOk := true } } })
      ∧ (¬ there → exec (.hkInjectTrigger c t) s = .next v)
      ∧ (there → x.pending = true → exec (.hkInjectTrigger c t) s = .next (on { x with injMiss := satInc x.injMiss, heard := x.heard - 1 }))
      ∧ (there → x.pending = false →
          ∃ res, (∀ i, vget res i = vget x.injRes i &&& 0x7FFFFFFF#32) ∧
            let y : Conv := { x with heard := x.heard - 1, injTb := BitVec.ofNat 32 v.tb, injRes := res }
            exec (.hkInjectTrigger c t) s = .next (on (if x.nextInj = none then { y with nextInj := some 0, injSlot := (v.tb + 999) / 1000 }
              else { y with pending := true })))
      ∧ (s.tbRun = false ∨ k < x.freeSlot → exec (.hkConversion c code chk t) s = .next v)
      ∧ (s.tbRun = true → x.freeSlot ≤ k →
          (check → exec (.hkConversion c code chk t) s = .next (on { x with
            sampled := x.sampled ++ [(.check, BitVec.ofNat 32 (field s.hk.chk 19 16), code, k)], forced := x.forced || decide (4 ≤ x.deferred), deferred := 0,
            freeSlot := k + 1 }))
          ∧ (∀ i, ¬ check → injDue i → exec (.hkConversion c code chk t) s = .next (on { x with
              sampled := x.sampled ++ [(.inj i, vget x.seq (finOf 20 (16 + i.val)), code, k)], freeSlot := k + 1,
              deferred := if i = 0 ∧ x.nextReg ≠ none then x.deferred + 1 else x.deferred,
              nextInj := if i.val < field x.ctrl 22 21 then some (i + 1) else if x.pending then some 0 else none,
              pending := x.pending && decide (i.val < field x.ctrl 22 21) }))
          ∧ (∀ i, ¬ check → regDue x i →
            let both : Bool := c = 0 && i = 0 && bit s.hk.chk 31
            let u := on { x with
              sampled := x.sampled ++ [(.reg i, vget x.seq (finOf 20 i.val), code, k)]
                ++ (if both then [(.check, BitVec.ofNat 32 (field s.hk.chk 19 16), chk, k)] else []),
              forced := x.forced || decide (4 ≤ x.deferred), deferred := 0, freeSlot := k + 1,
              nextReg := if i.val < field x.ctrl 20 17 then some (i + 1) else if x.passDue then some 0 else none,
              passDue := x.passDue && decide (i.val < field x.ctrl 20 17) }
            exec (.hkConversion c code chk t) s = .next (if both then { u with hk := { u.hk with chkSlot := some k } } else u))
          ∧ (¬ check → (∀ i, ¬ injDue i) → (∀ i, ¬ regDue x i) → exec (.hkConversion c code chk t) s = .next v))
      ∧ (∀ i entry j rest, x.sampled = (.inj i, entry, code, j) :: rest → 1000 * j + 2000 ≤ v.tb → field entry 5 4 = 0 → field entry 3 0 ≠ 8 →
          (rest.head?.map (fun r => r.1) ≠ some .check) →
          ∃ u, exec (.hkResult c t) s = .next u
            ∧ (vget u.hk.conv c).injRes = vset x.injRes i (0x80000000#32 ||| code.setWidth 32)
            ∧ (vget u.hk.conv c).injDone = (x.injDone || decide (i.val = field x.ctrl 22 21)) ∧ (vget u.hk.conv c).data = x.data)
      ∧ (∀ i entry j rest, x.sampled = (.reg i, entry, code, j) :: rest → 1000 * j + 2000 ≤ v.tb → field entry 5 4 = 0 → field entry 3 0 ≠ 8 →
          (rest.head?.map (fun r => r.1) ≠ some .check) →
          ∃ u, exec (.hkResult c t) s = .next u
            ∧ (vget u.hk.conv c).data = vset x.data (finOf 16 (field entry 3 0)) (0x80000000#32 ||| code.setWidth 32)
            ∧ (vget u.hk.conv c).dataTb = vset x.dataTb (finOf 16 (field entry 3 0)) v.tb ∧ (vget u.hk.conv c).injRes = x.injRes)
      ∧ (∀ job entry j rest, x.sampled = (job, entry, code, j) :: rest → v.tb < 1000 * j + 2000 → exec (.hkResult c t) s = .next v)
      ∧ (s.admits slot h 1 anyMode true false ses → conv.toNat < 2 → ch.toNat < 16 →
          let y := vget s.hk.conv (finOf 2 conv.toNat)
          let k : Fin 16 := finOf 16 ch.toNat
          Replies (.hkRead slot h conv ch) s slot 0
            (bytesBe 2 ((vget y.data k).extractLsb' 0 12).toNat
              ++ bytesBe 4 (Nat.min ((s.tb - vget y.dataTb k) / 1000) 4294967295)) [] id))
  ∧ (∀ (s : State) (d : Fin 4) (t : Nat) (value : Word) (slot : Slot) (h : CmdHeader) (dac range addr wlen rlen result index : Byte) (code : BitVec 16)
      (wdata rdata : List Byte) (ses : Option Session),
      let x := vget s.hk.dac d
      let on (y : Dac) : State := { s with hk := { s.hk with dac := vset s.hk.dac d y } }
      let c := value.extractLsb' 0 12
      let up : Prop := s.mode.mode ≠ .boot ∧ bit s.flt.pfrBusy 10 = false
      (¬ up → exec (.dacWrite d value) s = .next s)
      ∧ (x.output = if x.active = false ∨ x.hold = true then some 0 else if x.slew then none
          else some (16384 * x.code.toNat * (if x.range then 250 else 125) / (4096 * 100)))
      ∧ (up → x.active = false → exec (.dacWrite d value) s =
        .next (on { active := true, hold := false, slew := decide (c ≠ 0), range := bit value 12, code := c, holdTb := 0 }))
      ∧ (up → x.active = true → bit value 12 ≠ x.range →
        exec (.dacWrite d value) s = .next (on { active := true, hold := true, slew := false, range := bit value 12, code := c, holdTb := s.tb }))
      ∧ (up → x.active = true → bit value 12 = x.range → x.hold = false →
          exec (.dacWrite d value) s = .next (on { x with code := c, slew := x.slew || decide (c ≠ x.code) }))
      ∧ (up → x.active = true → bit value 12 = x.range → x.hold = true →
          exec (.dacWrite d value) s = .next (on { x with code := c }))
      ∧ (let v := s.atTb t
         exec (.dacRangeHoldEnd d t) s = .next (if x.hold = true ∧ (s.tbRun = false ∨ x.holdTb + 20000 ≤ v.tb) then
           { v with hk := { v.hk with dac := vset v.hk.dac d { x with hold := false, slew := decide (x.code ≠ 0) } } } else
           { v with hk := { v.hk with dac := vset v.hk.dac d x } }))
      ∧ exec (.dacSlewDone d) s = .next (on { x with slew := false })
      ∧ (s.admits slot h 1 anyMode false false ses → dac.toNat < 4 → range.toNat < 2 → code.toNat < 4096 → bit s.flt.pfrBusy 10 = false →
          Replies (.dacSet slot h dac range code) s slot 0 [] [] fun u =>
            { u with hk := { u.hk with dac := vmod u.hk.dac (finOf 4 dac.toNat) fun y => y.write (decide (range = 1)) (code.extractLsb' 0 12) s.tb } })
      ∧ (s.admits slot h 2 anyMode false true ses → addr.toNat < 128 → wlen.toNat ≤ 200 → rlen.toNat ≤ 200 → wdata.length = wlen.toNat →
          s.hk.i2cSlot = none →
          Waits (.i2cXfer slot h addr wlen rlen wdata) s slot .i2c fun u =>
            { u with hk := { u.hk with i2cSlot := some (slot, addr, wlen, rlen, wdata) } })
      ∧ (s.hk.i2cSlot = some (slot, addr, wlen, rlen, wdata) → vget s.host.waits slot = some .i2c → s.dbg.cpHalted = false →
          (result.toNat < 4 → (result = 0 → index = 0 ∧ rdata.length = rlen.toNat) → (result = 1 → index = 0) → (result = 2 → index.toNat < wlen.toNat) →
           (result = 3 → index.toNat ≤ wlen.toNat + rlen.toNat) →
          exec (.i2cXferDone result index rdata) s = .next
            (State.writeAnswer { s with hk := { s.hk with
              i2cSlot := none, arbLost := if result = 3 then satInc s.hk.arbLost else s.hk.arbLost } }
              slot 0 ([result, index] ++ rdata.take rlen.toNat) []))
          ∧ (s.host.phase ≠ 0 → index.toNat ≤ wlen.toNat + rlen.toNat → exec (.i2cTimeout false index rdata) s = .next
            (State.writeAnswer { s with hk := { s.hk with i2cSlot := none, timeouts := satInc s.hk.timeouts } }
              slot 0 ([4, index] ++ rdata.take rlen.toNat) [])))
      ∧ (s.host.phase ≠ 0 → exec (.i2cTimeout true index rdata) s = .next { s with hk := { s.hk with timeouts := satInc s.hk.timeouts, tbusy := false, pointer := 0 } }))

/-- R252, R255–R258, R260, R262, R264, R402, R444: the host window. A write inside a slot or sub-window that the host owns puts its bytes there and
changes nothing else, one inside a slot that the device owns is ignored and counted; a read returns the bytes; writes of MBX_DONE clear bits; with the CRC option
a wrong CRC applies nothing and is counted; without every rail a read returns nothing; QUAD_ON and QUAD_OFF switch the I/O mode; a clear of FLT_CLASS reaches the edge classes alone.
Where the manual leaves a choice it follows log entries 39 and 40. -/
def Obligations.HostWindowReadsAndWrites : Prop :=
  ∀ (s : State) (slot : Slot) (addr : BitVec 24) (data : List Byte) (len : Nat) (w mask : Word) (crc : BitVec 16),
    let z : State := { s with sync := { s.sync with sentUp := [], sentDown := [] } }
    let inside (n : Nat) : Prop := (slotAddr slot ≤ addr.toNat ∧ addr.toNat + n ≤ slotAddr slot + 0x100)
      ∨ (bulkAddr slot ≤ addr.toNat ∧ addr.toNat + n ≤ bulkAddr slot + 0x1000)
    (s.host.crcEn = false → 3 ≤ s.host.phase.toNat → inside data.length → data ≠ [] →
      (bit s.host.ring slot.val = false → hostWf s.host.bytes = true →
        ∃ b, exec (.write 0x02 addr data none) s = .next { z with host := { s.host with bytes := b } } ∧ hostWf b = true
          ∧ (∀ a, (a < addr.toNat ∨ addr.toNat + data.length ≤ a) → hostGet b a = hostGet s.host.bytes a)
          ∧ hostGets b addr.toNat data.length = data)
      ∧ (bit s.host.ring slot.val = true →
        exec (.write 0x02 addr data none) s = .next { z with host := { s.host with ignored := satInc s.host.ignored } }))
    ∧ (s.mainPower = false → exec (.read addr len) s = .next { s with host := { s.host with spiOut := [] } })
    ∧ (s.mainPower = true → s.host.crcEn = false → s.host.phase ≠ 0 → 0 < len → inside len →
        exec (.read addr len) s = .next { s with host := { s.host with spiOut := hostGets s.host.bytes addr.toNat len } })
    ∧ (s.mainPower = true → s.host.crcEn = false → s.host.phase ≠ 0 →
        exec (.read 0x28 4) s = .next { s with host := { s.host with spiOut := bytesBe 4 s.host.irqStatus.toNat } })
    ∧ (s.host.crcEn = false → (s.host.phase = 5 ∨ s.host.phase = 6) →
        exec (.write 0x02 0x24 (bytesBe 4 w.toNat) none) s =
          .next { z with host := { s.host with done := s.host.done &&& ~~~(w.extractLsb' 0 16) } })
    ∧ (s.host.crcEn = true → s.host.phase ≠ 0 → data.length ≤ 4096 →
        crc ≠ crcMsb 0x1021#16 0xFFFF#16 ([0x02] ++ bytesBe 3 addr.toNat ++ data) →
        exec (.write 0x02 addr data (some crc)) s = .next { z with host := { s.host with crcErr := satInc s.host.crcErr } })
    ∧ (s.host.phase ≠ 0 → exec .quadOn s = .next { s with host := { s.host with quad := true } }
        ∧ exec .quadOff s = .next { s with host := { s.host with quad := false } })
    ∧ (s.host.phase ≠ 0 → ∃ c, exec (.fltClassClear mask) s = .next { s with flt := { s.flt with cls := c } } ∧
        ∀ i, i < 32 → bit c i = (bit s.flt.cls i && !(bit mask i && i ≠ 5 && i ≠ 6 && i ≠ 20)))

/-- R397, R398, R400, R439: the two-wire target. It answers its primary address and, as TMODE says, SADDR or every address that agrees with the
primary one where the mask SADDR is 0, and never a reserved one; an address it does not answer is not acknowledged. A write sets the pointer from its first two bytes; from
PHASE READY on the bytes that follow are written and a read returns what the register holds, the pointer moving past them; before that no data byte is
taken, a write that has some is counted, and a read at 0 returns BOOT_STATUS. TBUSY is 1 from an address that it answers to the STOP.
That PHASE FAIL counts as before READY and RESTART as after it, that a byte which is not acknowledged leaves the pointer, and the answers in PHASE OFF and
during F11 are the model's reading of log entry 41. -/
def Obligations.TwoWireTargetFollowsItsPointer : Prop :=
  ∀ (s : State) (addr : BitVec 7) (hi lo d : Byte) (data : List Byte) (len : Nat) (w : Word) (more : Bool),
    let z : State := { s with sync := { s.sync with sentUp := [], sentDown := [] } }
    let own : BitVec 7 := 0x54#7 ||| s.hk.addrPins.setWidth 7
    let ready := s.host.phase = 5 ∨ s.host.phase = 6
    let saddr : BitVec 7 := s.hk.i2cCfg.extractLsb' 22 7
    let tmode : Bool := bit s.hk.i2cCfg 29
    let answered : Prop := 0x08 ≤ addr.toNat ∧ addr.toNat < 0x78 ∧ (addr = own ∨ (tmode = false ∧ saddr ≠ 0 ∧ addr = saddr)
      ∨ (tmode = true ∧ ∀ i : Fin 7, saddr.getLsbD i.val = false → addr.getLsbD i.val = own.getLsbD i.val))
    (¬ answered ∨ s.host.phase = 0 ∨ bit s.flt.pfrBusy 11 = true →
      exec (.i2cTargetWrite addr data more) s = .next { z with hk := { s.hk with lastAck := false, tbusy := false } }
      ∧ exec (.i2cTargetRead addr len more) s = .next { s with hk := { s.hk with lastRead := [], lastAck := false, tbusy := false } })
    ∧ (s.host.phase ≠ 0 → bit s.flt.pfrBusy 11 = false → answered → bit s.hk.i2cCfg 21 = true →
        exec (.i2cTargetWrite addr [hi, lo] more) s = .next { z with hk := { s.hk with pointer := hi ++ lo, lastAck := true, tbusy := more } }
        ∧ (ready → exec (.i2cTargetWrite addr ([0x00, 0x2C] ++ bytesBe 4 w.toNat) more) s = .next { z with
            host := { s.host with irqEn := w &&& 0x0007FFFF#32 }, hk := { s.hk with pointer := 0x30, lastAck := true, tbusy := more } })
        ∧ (ready → s.hk.pointer = 0x28 → exec (.i2cTargetRead addr 4 more) s = .next { s with hk := { s.hk with
            pointer := 0x2C, lastRead := bytesBe 4 s.host.irqStatus.toNat, lastAck := true, tbusy := more } })
        ∧ (¬ ready → exec (.i2cTargetWrite addr (hi :: lo :: d :: data) more) s = .next { z with hk := { s.hk with
            pointer := hi ++ lo, lastAck := false, tbusy := more, i2cIgnored := satInc s.hk.i2cIgnored } })
        ∧ (¬ ready → s.hk.pointer = 0 → exec (.i2cTargetRead addr 4 more) s = .next { s with hk := { s.hk with
            pointer := 4, lastRead := bytesBe 4 s.host.bootStatus.toNat, lastAck := true, tbusy := more } }))

/-- R9, R60, R134, R135, R220, R251, R263, R264, R349, R369, R423, R425: doorbells and register writes. A doorbell sets RING and clears DONE of each slot
that the host owned; the slot is served, or waits in order while debug holds the control processor. A register write by the firmware, which runs, stores the
writable bits of each register, acts as the register's table says, and counts a write that a lock forbids; a reserved value is left and reported; a register of
debug alone, and an address where the firmware reaches nothing, stay; in memory the word is stored. Debug of full scope writes its breakpoints and watchpoints;
a write watchpoint halts the control processor after the write.
Where the manual leaves a choice it follows log entries 18, 46, 47 and 100. -/
def Obligations.DoorbellsAndRegisterWrites : Prop :=
  ∀ (s : State) (slot : Slot) (mask : BitVec 16) (a : BitVec 40) (v : BitVec 64) (w : Word) (c : CtxIx) (r : Fin 12) (k : Fin 16) (e : EncIx)
    (q : CartIx) (p : PortIx) (l : Fin 32) (d : StreamIx) (o : Fin 6) (n : Fin 64) (b : Fin 8) (m : Fin 4),
    let z : State := { s with sync := { s.sync with sentUp := [], sentDown := [] } }
    let at_ (o : Nat) : BitVec 40 := BitVec.ofNat 40 (0x2000000000 + o)
    let wr (o : Nat) := exec (.registerWrite (at_ o) (w.setWidth 64) false) s
    let wide_ (o : Nat) := exec (.registerWrite (at_ o) v false) s
    let locked (u : State) : State := { u with flt := { u.flt with regLock := satInc u.flt.regLock } }
    let unwatched : Prop := ∀ i, bit (vget s.dbg.wptCtrl i) 31 = false
    let regAddr : Nat := if r.val < 4 then 0x40000 + 16 * c.val + 4 * r.val else if r.val < 7 then 0x40400 + 16 * c.val + 4 * (r.val - 4)
      else if r.val < 11 then 0x50000 + 16 * c.val + 4 * (r.val - 7) else 0x60000 + 16 * c.val
    (3 ≤ s.host.phase.toNat → s.dbg.cpHalted = true →
      ∃ h, exec (.mbxDoorbell mask) s = .next { z with host := h }
        ∧ h = { s.host with
            ring := s.host.ring ||| mask, done := s.host.done &&& ~~~(mask &&& ~~~s.host.ring), rungTb := h.rungTb, order := h.order }
        ∧ (∀ j : Slot, (bit mask j.val = true ∧ bit s.host.ring j.val = false) ∨ j ∈ s.host.order ↔ j ∈ h.order)
        ∧ ∀ j : Slot, vget h.rungTb j = if bit mask j.val = true ∧ bit s.host.ring j.val = false then s.tb else vget s.host.rungTb j)
    ∧ (3 ≤ s.host.phase.toNat → s.dbg.cpHalted = false → bit s.host.ring slot.val = false → mask = BitVec.ofNat 16 (2 ^ slot.val) →
        exec (.mbxDoorbell mask) s = .next (State.serve { z with host := { s.host with
          ring := setBit s.host.ring slot.val true, done := setBit s.host.done slot.val false,
          rungTb := vset s.host.rungTb slot s.tb } } slot))
    ∧ (s.host.phase = 0 → exec (.registerWrite a v false) s = .next s)
    ∧ (s.host.phase ≠ 0 → s.dbg.cpHalted = true → exec (.registerWrite a v false) s = .next z)
    ∧ (s.host.phase ≠ 0 → s.dbg.cpHalted = false → (∀ i, i ≠ m → bit (vget s.dbg.wptCtrl i) 31 = false) → field (vget s.dbg.wptCtrl m) 31 29 = 5 →
        field (vget s.dbg.wptAddr m) 39 0 < 0x200002001C → 0x2000020018 < field (vget s.dbg.wptAddr m) 39 0 + 2 ^ field (vget s.dbg.wptCtrl m) 4 0 →
        wr 0x20018 = .next ({ z with tick := { s.tick with per := w } }.cpStop .watchpoint m.val))
    ∧ (s.host.phase ≠ 0 → s.dbg.cpHalted = false → unwatched →
      let x := vget s.ctx c
      let t := s.tick
      let y := s.getPort p
      let f := s.getStream d
      let out := vget s.clk.pllaOut o
      let bad : State := z.report .config
      (a.toNat < 0x400000000 → s.hbmDown = false → s.mem.edgePoison (a.toNat / 4 * 4) 4 = none → exec (.registerWrite a v false) s = .next
        (let u := z.correct (if a.toNat / 4 * 4 % 8 = 0 then [(a.toNat / 4 * 4 + 4) / 8] else [a.toNat / 4 * 4 / 8])
         { u with mem := u.mem.deviceWrite (a.toNat / 4 * 4) (bytesLe 4 (v.toNat % 2 ^ 32)) }))
      ∧ ((0x400000000 ≤ a.toNat ∧ a.toNat < 0x1000200000) ∨ (0x1002000000 ≤ a.toNat ∧ a.toNat < 0x1100000000) ∨ 0x2010000000 ≤ a.toNat →
          exec (.registerWrite a v false) s = .next z)
      ∧ (x.sched = none → x.lockUntil = none → wr regAddr = .next { z with
          ctx := vset s.ctx c { x with shadow := vset x.shadow r (w &&& vget ctxWritable r) } })
      ∧ (x.sched ≠ none ∨ x.lockUntil ≠ none → wr regAddr = .next (locked z))
      ∧ (let free := s.mode.mode = .standby ∨ s.mode.mode = .ready
        let reserved := 6 ≤ field w 2 0 ∨ field w 15 8 = 0 ∨ 64 < field w 15 8
        let kept : Word := if free then 0x0000FF37#32 else 0x0000FF20#32
        let u : State := { z with tick := { t with cfg := (t.cfg &&& ~~~kept) ||| (w &&& kept) } }
        (reserved → wr 0x20010 = .next bad)
        ∧ (¬ reserved → field u.tick.cfg 2 0 = field t.cfg 2 0 → wr 0x20010 = .next u)
        ∧ (¬ reserved → field u.tick.cfg 2 0 ≠ field t.cfg 2 0 → wr 0x20010 = .next u.selectSource))
      ∧ (w.toNat < 0x1000 → wr 0x20014 = .next bad)
      ∧ (0x1000 ≤ w.toNat → wr 0x20014 = .next (State.refreshRequest { z with tick := t.reanchor w }))
      ∧ wr 0x20018 = .next { z with tick := { t with per := w } }
      ∧ (field w 2 0 = 7 → wr 0x2001C = .next bad)
      ∧ (field w 2 0 ≠ 7 → wr 0x2001C = .next (if s.mode.mode = .standby ∨ s.mode.mode = .ready then
          { z with tick := { t with pred := w &&& 0xFFFFFF07#32 } } else z))
      ∧ (field w 5 4 = 3 ∨ 2 ≤ field w 9 8 → wr (0x20100 + 0x20 * e.val) = .next bad)
      ∧ (field w 5 4 ≠ 3 → field w 9 8 < 2 → wr (0x20100 + 0x20 * e.val) = .next { z with
          enc := vset s.enc e { vget s.enc e with cfg := w &&& 0x0000037F#32 } })
      ∧ (field w 31 16 < 500 ∨ field w 15 14 = 3 → wr 0x20200 = .next bad)
      ∧ (500 ≤ field w 31 16 → field w 15 14 ≠ 3 → wr 0x20200 = .next { z with sync := { z.sync with cfg := w &&& 0xFFFFC000#32 } })
      ∧ wr 0x20204 = .next { z with sync := { z.sync with geo := w } }
      ∧ wr 0x60100 = .next { z with det := { s.det with jobCfg := w &&& 0x3F#32 } }
      ∧ wide_ (0x60200 + 8 * k.val) = .next { z with det := { s.det with
          kernEntry := vset s.det.kernEntry k (v &&& 0xFFFFFFFFFC#64) } }
      ∧ wide_ (0x60400 + 8 * k.val) = .next { z with det := { s.det with asBase := vset s.det.asBase k (v &&& 0xFFFFFFE001#64) } }
      ∧ wide_ 0x60508 = .next { z with det := { s.det with tlbInvVa := v &&& 0xFFFFFF0000#64 } }
      ∧ wr 0x60600 = .next { z with det := { s.det with fltTail := w.extractLsb' 0 8 } }
      ∧ (bit w 10 = false → bit w 9 = false → wr (0x62000 + 0x20 * q.val) = .next (z.onCart q fun c => { c with owner := w.extractLsb' 20 4 }))
      ∧ (bit w 10 = false → bit w 9 = true →
          wr (0x62000 + 0x20 * q.val) = .next ((z.onCart q fun c => { c with owner := w.extractLsb' 20 4 }).cartResume q))
      ∧ (bit w 10 = true → wr (0x62000 + 0x20 * q.val) = .next ((z.onCart q fun c => { c with owner := w.extractLsb' 20 4 }).cartAbort q))
      ∧ (s.hasPort p = true →
          (5 ≤ field w 30 28 → wr (0x70000 + 0x100 * p.val) = .next bad)
          ∧ (field w 30 28 < 5 →
              let u := if field w 30 28 = field y.cfg 30 28 then z else if y.state = .stopped then
                z.onPort p fun y => { y with cfg := setField y.cfg 28 3 (field w 30 28) } else locked z
              wr (0x70000 + 0x100 * p.val) = .next (if bit w 31 = false then u.askStop p else if s.mode.mode = .ready ∨ s.mode.mode.streaming = true then
                u.askStart p else u))
          ∧ (field w 10 0 < 16 ∨ 1024 < field w 10 0 → wr (0x70008 + 0x100 * p.val) = .next bad)
          ∧ (16 ≤ field w 10 0 → field w 10 0 ≤ 1024 →
              let u := z.onPort p fun y => { y with sealCfg := setField y.sealCfg 0 11 (field w 10 0) }
              wr (0x70008 + 0x100 * p.val) = .next (if bit w 31 = bit y.sealCfg 31 then u else if y.state = .stopped then
                u.onPort p fun y => { y with sealCfg := setBit y.sealCfg 31 (bit w 31) } else locked u)))
      ∧ (s.isSmall = false →
          let ok := field w 8 6 < 8 ∧ field w 12 9 < 16 ∧ field w 8 6 + field w 12 9 ≤ 20 ∧ field w 5 2 ≤ 10
          (¬ ok → wr (0x70800 + 4 * l.val) = .next bad)
          ∧ (ok → wr (0x70800 + 4 * l.val) = .next { z with port := { s.port with lane := vset s.port.lane l (w &&& 0x1FFF#32) } })
          ∧ (field w 30 29 = 3 → wr (0x71000 + 16 * d.val) = .next bad)
          ∧ (field w 30 29 ≠ 3 → f.en = false → bit w 31 = false → wr (0x71000 + 16 * d.val) = .next (z.onStream d fun f => { f with
              cfg := setBit (w &&& 0xFE000000#32) 31 false }))
          ∧ (field w 30 29 ≠ 3 → f.en = true → bit w 31 = true → wr (0x71000 + 16 * d.val) = .next
              (if w &&& 0x7E000000#32 = f.cfg &&& 0x7E000000#32 then z else locked z)))
      ∧ (5 ≤ field w 13 11 → wr 0xA0020 = .next bad)
      ∧ (field w 13 11 < 5 → wr 0xA0020 = .next (z.onBkp fun b => b.writeCfg (w &&& 0x0000F9FF#32)))
      ∧ (o.val ∈ [3, 5] → wr (0xB0100 + 4 * o.val) = .next (if bit out 16 then
            locked { z with clk := { s.clk with pllaOut := vset s.clk.pllaOut o (setBit out 16 (bit w 16)) } }
          else { z with clk := { s.clk with pllaOut := vset s.clk.pllaOut o (setField (setBit out 16 (bit w 16)) 0 6 (field w 5 0)) } }))
      ∧ (o.val ∈ [1, 2] → s.sensor.biased = true → bit out 16 = true → bit w 16 = false → wr (0xB0100 + 4 * o.val) = .next bad)
      ∧ (field w 31 30 = 3 ∨ 10 < field w 29 26 → wr 0xB0200 = .next bad)
      ∧ (field w 31 30 ≠ 3 → field w 29 26 ≤ 10 → wr 0xB0200 = .next { z with clk := { s.clk with
          pllbCfg := (s.clk.pllbCfg &&& ~~~0xFC000000#32) ||| (w &&& 0xFC000000#32) } })
      ∧ wr (0xB0240 + 4 * k.val) = .next { z with clk := { s.clk with prof := vset s.clk.prof k w } }
      ∧ wr (0xB0300 + 4 * p.val) = .next (if y.state = .stopped then
          { z with clk := { s.clk with portPll := vset s.clk.portPll p (w &&& 0xFFFF0000#32) } } else locked z)
      ∧ wr (0xB1000 + 0x100 * o.val + 4 * n.val) = .next { z with clk := { s.clk with
          band := vset s.clk.band o (vset (vget s.clk.band o) n (w &&& 0xBFFFFFFF#32)) } }
      ∧ (∀ i, 0xC0000 ≤ i → i < 0x100000 → (∀ u, z.periphWrite i w = .ok u → i % 4 = 0 → wr i = .next u)
          ∧ (z.periphWrite i w = .bad → i % 4 = 0 → wr i = .next bad))
      ∧ wr 0x101000 = .next (z.wdtCtrl w) ∧ wr 0x101004 = .next (z.wdtKey (w.extractLsb' 0 16))
      ∧ wr 0x101008 = .next (z.wdtDis (w.extractLsb' 0 16))
      ∧ wr 0x101028 = .next { z with wdt := { s.wdt with evidValid := s.wdt.evidValid && !bit w 8 } }
      ∧ wide_ (0x110000 + 8 * b.val) = .next z ∧ wr (0x110048 + 16 * m.val) = .next z)
    ∧ (s.host.phase ≠ 0 → s.debugScope = 0 → exec (.registerWrite a v true) s = .next z)
    ∧ (s.debugScope = 2 →
        let x := v &&& 0xC00000FFFFFFFFFC#64
        let ctrl (w : Word) := exec (.registerWrite (at_ (0x110048 + 16 * m.val)) (w.setWidth 64) true) s
        (bit v 62 = true ∨ field v 39 32 = 0 → exec (.registerWrite (at_ (0x110000 + 8 * b.val)) v true) s =
          .next { z with dbg := { s.dbg with brk := vset s.dbg.brk b x } })
        ∧ (bit v 62 = false → field v 39 32 ≠ 0 → exec (.registerWrite (at_ (0x110000 + 8 * b.val)) v true) s = .next (z.report .config))
        ∧ exec (.registerWrite (at_ (0x110040 + 16 * m.val)) v true) s =
            .next { z with dbg := { s.dbg with wptAddr := vset s.dbg.wptAddr m (v &&& 0xFFFFFFFFFF#64) } }
        ∧ (field w 29 28 = 0 ∨ 16 < field w 4 0 → ctrl w = .next (z.report .config))
        ∧ (field w 29 28 ≠ 0 → field w 4 0 ≤ 16 →
            ctrl w = .next { z with dbg := { s.dbg with wptCtrl := vset s.dbg.wptCtrl m (w &&& 0xF000001F#32) } }))

/-- R406–R411: the watchdog. In the open window the first key arms it and the second serves it: the window closes, the period begins again with the
register's fields, and LINE and RTC are noted; a key in the closed window, a wrong second key, the end of the period and a stopped clock expire it: the
evidence is latched, class WDT reports and the control processor restarts with the cause; the window opens, the arm lapses, and two disable keys stop it
where R410 lets them.
Where the manual leaves a choice it follows log entries 10 and 57. -/
def Obligations.WatchdogIsServedOrExpires : Prop :=
  ∀ s : State,
    let on (w : Watchdog) : State := { s with wdt := w }
    let x := s.wdt
    let pc := if s.dbg.cpHalted then vget s.dbg.cpRegs 32 else Config.cpPc s.flt.restarts.toNat
    let expired (cause : Byte) : State := State.restart (State.report (on { x with
      evidPc := pc, evidLine := x.serviceLine, evidRtc := x.serviceRtc, evidValid := true, evidCause := cause }) .wdt) cause
    exec .wdtDisarm s = .next (on { x with armed := false })
    ∧ (s.host.phase ≠ 0 → x.disabled = false →
        exec .wdtWindowOpen s = .next (on { x with isOpen := true })
        ∧ exec .wdtExpiry s = .next (expired 1) ∧ exec .wdtClkstop s = .next (expired 4)
        ∧ (x.isOpen = false → exec .wdtArm s = .next (expired 2) ∧ exec .wdtService s = .next (expired 2))
        ∧ (x.isOpen = true → exec .wdtArm s = .next (on { x with armed := true }))
        ∧ (x.isOpen = true → x.armed = false → exec .wdtService s = .next (expired 3))
        ∧ (x.isOpen = true → x.armed = true → exec .wdtService s = .next (on { x with
            isOpen := false, armed := false, runPeriodMs := x.periodMs, runClkTb := x.clkTb, serviceLine := s.lineCnt,
            serviceRtc := BitVec.ofNat 63 s.bkp.rtc })))
    ∧ (s.host.phase ≠ 0 → (s.mode.mode = .maint ∨ s.host.phase = 3) → bit (vget s.fuse.shadow 0x18) 2 = false →
        exec (.wdtDisable 0x6B1E 0xE1B6) s =
          .next (on { x with disFirst := false, disTb := s.tb, disabled := true, isOpen := false, armed := false }))
    ∧ (s.host.phase ≠ 0 → bit (vget s.fuse.shadow 0x18) 2 = true →
        exec (.wdtDisable 0x6B1E 0xE1B6) s = .next (State.lockedWrite (State.lockedWrite (on { x with disFirst := false }))))

/-- R285, R286, R412, R424: a restart of the control processor. The cause is recorded and counted, the watchdog starts again, every slot that the
device owns is answered ABORTED_BY_RESET, no command waits any more, transfers are discarded, the bank of a firmware OBJ_END that is aborted becomes invalid, scheduled
swaps, a rejoin and the pending mode are cancelled, and PHASE is RESTARTING; memory and the fuses stay. A lockstep fault reports its class and restarts so. With HALT_ON_RESTART the boot ROM waits.
Where the manual leaves a choice it follows log entries 33 and 48. -/
def Obligations.RestartsAbortOutstandingCommands : Prop :=
  ∀ (s : State) (cause : Byte) (slot : Slot),
    (s.host.phase ≠ 0 → exec .lockstepFault s = .next (State.restart (s.report .lockstep) 8))
    ∧ (let t := s.restart cause
      t.flt = { s.flt with
        lastCause := cause, restarts := satInc s.flt.restarts, stale := t.flt.stale, cls := t.flt.cls, cnt := t.flt.cnt, cpIrq := t.flt.cpIrq }
      ∧ t.mem = s.mem ∧ t.fuse.cell0 = s.fuse.cell0 ∧ t.fuse.cell1 = s.fuse.cell1
      ∧ t.wdt.disabled = false ∧ t.wdt.periodMs = 2000 ∧ t.wdt.runPeriodMs = 2000 ∧ t.wdt.isOpen = false
      ∧ (s.dbg.haltOnRestart = true → t.dbg.cpHalted = true ∧ t.dbg.restartHeld = true
          ∧ t.host = { s.host with irqFault := t.host.irqFault } ∧ (∀ c, (vget t.ctx c).sched = none) ∧ t.sync.joinAt = none)
      ∧ (s.dbg.haltOnRestart = false → s.mode.mode ≠ .maint →
          t.dbg.cpHalted = false ∧ t.nvm = { s.nvm with shadow := t.nvm.shadow, banks := t.nvm.banks } ∧ t.host.phase = 6 ∧ t.host.irqRestart = true
          ∧ t.host.bank = s.nvm.active
          ∧ (∀ b, let spoilt : Prop := ∃ k x, vget s.host.transfers k = some x ∧ x.kind = .firmware b ∧ bit s.host.ring k.val = true
                ∧ s.host.opcodeOf k = 0x0111
              (spoilt → vget t.nvm.banks b = { vget s.nvm.banks b with invalid := true }) ∧ (¬ spoilt → vget t.nvm.banks b = vget s.nvm.banks b))
          ∧ (bit s.host.ring slot.val = true → hostWf s.host.bytes = true →
              hostGet t.host.bytes (slotAddr slot + 0x0C) = 0x0A ∧ bit t.host.done slot.val = true)
          ∧ bit t.host.ring slot.val = false ∧ vget t.host.waits slot = none ∧ vget t.host.transfers slot = none ∧ t.host.order = []
          ∧ (∀ c, (vget t.ctx c).sched = none) ∧ t.hk.i2cSlot = none ∧ t.sync.forming = false
          ∧ ((∀ p, s.mode.pending = some p → ∀ a b, p.phase ≠ .drain a b) → t.mode.pending = none))
      ∧ (s.dbg.haltOnRestart = false → s.mode.mode = .maint → t.host.phase = 6 ∧ t.mode.mode = .standby ∧ t.mode.owner = none))

/-- R219, R243, R382, R414–R416: per-function reset. Each reset sets its BUSY bit and resets its unit alone: F0 restarts the control processor, F1–F4 put a
port in electrical idle with nothing composed and no session, F5 takes effect in the next LP, F6 empties the bays it names and loses their deep jobs, F7 empties
the carts' queues with OWNER kept, F9 keeps the LUTs and the timers, F10 and F11 give the reset values, F12 takes the sync link down. An absent unit counts as a
locked write. PFR_DONE clears BUSY and frees the unit; a port whose START is 1, or whose stop waits, starts first with BUSY still 1.
Where the manual leaves a choice it follows log entries 16 and 58. -/
def Obligations.FunctionResetsReachTheirUnit : Prop :=
  ∀ (s : State) (p : PortIx) (oneShed : Bool) (shed : Fin 16) (fn : Fin 13),
    let busy (n : Nat) : State := { s with flt := { s.flt with pfrBusy := setBit s.flt.pfrBusy n true } }
    let free (n : Nat) : Prop := s.host.phase ≠ 0 ∧ bit s.flt.pfrBusy n = false
    (free 0 → exec .pfrF0 s = .next ((busy 0).restart 5))
    ∧ (free (1 + p.val) → (s.isSmall = true → p.val < 2) → ∃ t, exec (.pfrPort p) s = .next t
        ∧ (let q := vget t.port.port p
          q.state = .stopped ∧ q.composed = [] ∧ q.sealedOut = [] ∧ q.fifo = [] ∧ q.session = none)
        ∧ vget t.clk.lock (finOf 6 (2 + p.val)) = false ∧ bit t.flt.pfrBusy (1 + p.val) = true
        ∧ (∀ k, k ≠ p → vget t.port.port k = vget s.port.port k) ∧ t.mem = s.mem ∧ t.det = s.det)
    ∧ (free (1 + p.val) → s.isSmall = true → 2 ≤ p.val → exec (.pfrPort p) s = .next s.lockedWrite)
    ∧ (free 5 → exec .pfrGrooming s = .next { busy 5 with groom := { s.groom with resetDue := true } })
    ∧ (free 6 → (s.isSmall = true → oneShed = true → shed.val < 8) → ∃ t, exec (.pfrBays oneShed shed) s = .next t
        ∧ (∀ b : BayIx, (s.isSmall = true → b.val < 64) → (oneShed = true → b.val / 8 = shed.val) →
          let y := vget t.det.bays b
          y.work = .reset ∧ y.regs = JobRegs.zero ∧ y.queue = [] ∧ y.tlb = [] ∧ y.code = [] ∧ y.cyc = 0 ∧ y.cycHi = 0 ∧ y.halted = false
          ∧ ∀ j, (vget s.det.bays b).work = .deep j → (vget y.slots j).state = .lost)
        ∧ (∀ b : BayIx, oneShed = true → b.val / 8 ≠ shed.val → vget t.det.bays b = vget s.det.bays b)
        ∧ t = { busy 6 with
            det := { s.det with bays := t.det.bays, flawOut := t.det.flawOut },
            dbg := { s.dbg with bayWhy := t.dbg.bayWhy, bayIdx := t.dbg.bayIdx } })
    ∧ (free 7 → ∃ t, exec .pfrCarts s = .next t
        ∧ (∀ q : CartIx, vget t.det.carts q = { Cart.reset with owner := (vget s.det.carts q).owner, state := .reset })
        ∧ (∀ g, vget t.det.cartTlb g = [])
        ∧ bit t.flt.pfrBusy 7 = true ∧ t.mode = s.mode ∧ t.sensor = s.sensor ∧ t.groom = s.groom ∧ t.port = s.port ∧ t.nvm = s.nvm ∧ t.bkp = s.bkp
        ∧ (∀ a, (a < faultRing ∨ faultRing + 32 * 256 ≤ a) → t.mem.get a = s.mem.get a)
        ∧ ((∀ q : CartIx, (vget s.det.carts q).state ≠ .running) →
            t = { busy 7 with det := { s.det with carts := t.det.carts, cartTlb := t.det.cartTlb } }))
    ∧ (free 8 → exec .pfrHbm s = .next (busy 8))
    ∧ (free 9 → ∃ eng route, exec .pfrStrobes s = .next { busy 9 with
          ts := { s.ts with eng := eng, swf := 0, preLate := false, preNs := 0, route := route } }
        ∧ (∀ e : EngIx, vget eng e = { Engine.reset with lut := (vget s.ts.eng e).lut }) ∧ ∀ i, vget route i = 0)
    ∧ (free 10 → ∃ t, exec .pfrHousekeeping s = .next t ∧ t.hk = { s.hk with
          conv := House.reset.conv, chk := House.reset.chk, chkSlot := none, checkPair := House.reset.checkPair, dac := House.reset.dac }
        ∧ bit t.flt.pfrBusy 10 = true ∧ bit t.flt.stale 8 = false ∧ (∀ i, i < 8 → bit t.flt.stale i = bit s.flt.stale i)
        ∧ t = { s with hk := t.hk, flt := t.flt, host := t.host }
        ∧ (s.flt.stale = 0 → bit s.flt.cls FltClass.chore.bit.val = false → t = { busy 10 with hk := t.hk }))
    ∧ (free 11 → s.hk.i2cSlot = none → exec .pfrI2c s = .next { busy 11 with hk := { s.hk with tbusy := false, pointer := 0, i2cCfg := 0x00200000#32 } })
    ∧ (free 12 → ∃ t, exec .pfrSync s = .next t ∧ t.sync.upLock = false ∧ t.sync.downLock = false ∧ bit t.flt.pfrBusy 12 = true ∧ t.mem = s.mem
        ∧ (s.role = 2 → s.sync.state = .locked →
            t.sync.state = .lost ∧ t.sync.losses = satInc s.sync.losses ∧ t.tick.due = [] ∧ bit t.flt.cls 10 = true))
    ∧ (bit s.flt.pfrBusy fn.val = true → (fn = 0 → s.host.phase = 5) → (fn = 5 → s.groom.resetDue = false) →
        let z : State := { s with flt := { s.flt with pfrBusy := setBit s.flt.pfrBusy fn.val false } }
        ((fn = 0 ∨ fn = 5 ∨ 8 ≤ fn.val) → exec (.pfrDone fn) s = .next z)
        ∧ (fn = 7 → ∃ c, exec (.pfrDone fn) s = .next { z with det := { s.det with carts := c } } ∧
            ∀ q : CartIx, let x := vget s.det.carts q
              vget c q = if x.state = .reset then { x with state := .idle } else x)
        ∧ (fn = 6 → ∃ t, exec (.pfrDone fn) s = .next t ∧ bit t.flt.pfrBusy 6 = false ∧ (∀ b, (vget t.det.bays b).work ≠ .reset) ∧ t.mem = s.mem)
        ∧ (fn.val = 1 + p.val →
            let q := vget s.port.port p
            (q.state ≠ .stopped → exec (.pfrDone fn) s = .next s)
            ∧ (q.state = .stopped → bit q.cfg 31 = false → q.stopAsked = false → exec (.pfrDone fn) s = .next z)
            ∧ (q.state = .stopped → bit q.cfg 31 = true ∨ q.stopAsked = true → ∃ t, exec (.pfrDone fn) s = .next t
                ∧ (vget t.port.port p).state = .starting ∧ vget t.clk.trying (finOf 6 (2 + p.val)) = true ∧ bit t.flt.pfrBusy fn.val = true
                ∧ (∀ k, k ≠ p → vget t.port.port k = vget s.port.port k) ∧ t.mem = s.mem ∧ t.det = s.det)))

/-- R292, R294, R295, R296, R302, R305, R306, R309: the events of the tack room. A session idle for TIMEOUT_S of main power ends with its transfer and an
audit entry; a challenge lapses after 30 s; a lockout ends when it has run its time, and its remaining time is noted each 60 s in the next word of the journal; a failed
health test brings ERROR and ends every seal session; a detector's event joins the tamper log and, for voltage and clock, pauses the services, the sixteenth within 60 s with
the response; light under the lid brings the response; the end of a pause clears it.
Where the manual leaves a choice it follows log entry 49. -/
def Obligations.SecurityEventsTakeEffect : Prop :=
  ∀ (s : State) (slot : Slot) (role : Fin 4) (index : Fin 8) (rtc : Nat) (test d : BitVec 4) (x : Session),
    let z : State := { s with
      bkp := { s.bkp with rtc := Nat.max s.bkp.rtc rtc, osc := s.bkp.osc + (rtc - s.bkp.rtc) },
      tack := { s.tack with periods := s.tack.periods + if s.mainPower then rtc - s.bkp.rtc else 0 } }
    let idle := 32768 * (if x.role = 1 then 3600 else if x.role = 2 then 900 else 600)
    let l := vget (vget s.tack.locks role) index
    let noted (r : LockRec) (since : Nat) : State := { z with
      tack := { z.tack with locks := vset s.tack.locks role (vset (vget s.tack.locks role) index { lock := r, since := since }) },
      nvm := { s.nvm with journal := s.nvm.journal.write 8192 { role := role, index := index, lock := r } } }
    let logged (resp : Bool) (k : BitVec 4) (t : State) : Prop :=
      vget t.bkp.tampLog s.bkp.tampNext = tampEntry z.bkp.rtc k resp s.bkp.vaonGood ∧ (∀ i, i ≠ s.bkp.tampNext → vget t.bkp.tampLog i = vget s.bkp.tampLog i)
        ∧ t.bkp.tampNext = s.bkp.tampNext + 1
    let pauses (t : State) : Prop := s.host.phase ≠ 0 → t.tack.paused = true ∧ t.tack.pauses = satInc s.tack.pauses
    let recent := (s.bkp.events.filter fun e => z.bkp.rtc < e + 60 * 32768).length
    let mayRespond : Prop := s.bkp.vaonGood = true ∧ s.tack.state ≠ .selftest
    (vget s.tack.sessions slot = some x → x.held = false → x.since + idle ≤ z.tack.periods →
      ∃ t, exec (.sessionExpiry slot rtc) s = .next t ∧ vget t.tack.sessions slot = none ∧ vget t.host.transfers slot = none
        ∧ (∀ k, k ≠ slot → vget t.tack.sessions k = vget s.tack.sessions k) ∧ t.bkp.mono = s.bkp.mono + 1
        ∧ (∃ e, t.chore.log = s.chore.log ++ [.audit e] ∧ e.opcode = 0xFF01 ∧ e.counter = s.bkp.mono + 1))
    ∧ (vget s.tack.sessions slot = some x → (x.held = true ∨ z.tack.periods < x.since + idle) → exec (.sessionExpiry slot rtc) s = .next z)
    ∧ (s.host.phase = 0 → exec (.lockoutEnd role index rtc) s = .next z ∧ exec (.lockoutJournalWrite role index rtc) s = .next z)
    ∧ (∀ c, vget s.tack.challenges slot = some c → exec (.challengeExpiry slot rtc) s = .next { z with tack := { z.tack with
        challenges := vset s.tack.challenges slot (if z.tack.periods < c.since + 30 * 32768 then some c else none) } })
    ∧ (s.host.phase ≠ 0 → l.lock.locked = true →
        (l.since + 32768 * l.lock.remaining ≤ z.tack.periods →
          exec (.lockoutEnd role index rtc) s = .next (noted { l.lock with locked := false, remaining := 0 } z.tack.periods))
        ∧ (z.tack.periods < l.since + 32768 * l.lock.remaining → exec (.lockoutEnd role index rtc) s = .next z)
        ∧ (l.since + 60 * 32768 ≤ z.tack.periods → exec (.lockoutJournalWrite role index rtc) s =
          .next (noted { l.lock with remaining := l.lock.remaining - 60 } (l.since + 60 * 32768))))
    ∧ (s.tack.state = .operational → (test = 10 ∨ test = 11 ∨ test = 12) → ∃ t, exec (.entropyHealthFail test) s = .next t
        ∧ t.tack.state = .error ∧ t.tack.failTest = test ∧ (∀ p, (vget t.port.port p).session = none) ∧ bit t.flt.cls 16 = true
        ∧ (∃ e, t.chore.log = s.chore.log ++ [.audit e] ∧ e.opcode = 0xFF05 ∧ e.status = test.setWidth 8))
    ∧ (s.bkp.powered = true → recent < 15 →
        (1 ≤ d.toNat → d.toNat ≤ 3 → ∃ t, exec (.tamperVoltage d rtc) s = .next t ∧ logged false d t ∧ t.bkp.bbk = s.bkp.bbk ∧ pauses t)
        ∧ ((d = 4 ∨ d = 5) → ∃ t, exec (.tamperClock d rtc) s = .next t ∧ logged false d t ∧ t.bkp.bbk = s.bkp.bbk ∧ pauses t))
    ∧ (s.bkp.powered = true → 15 ≤ recent →
        (1 ≤ d.toNat → d.toNat ≤ 3 → ∃ t, exec (.tamperVoltage d rtc) s = .next t ∧ t.bkp.tampNext = s.bkp.tampNext + 2 ∧ t.bkp.bbk = none ∧ pauses t
          ∧ (mayRespond → bit t.flt.cls 17 = true))
        ∧ ((d = 4 ∨ d = 5) → ∃ t, exec (.tamperClock d rtc) s = .next t ∧ t.bkp.tampNext = s.bkp.tampNext + 2 ∧ t.bkp.bbk = none ∧ pauses t
          ∧ (mayRespond → bit t.flt.cls 17 = true)))
    ∧ (s.bkp.powered = true → ∃ t, exec (.tamperTemperature rtc) s = .next t ∧ logged false 6 t ∧ t = { z with bkp := t.bkp })
    ∧ (s.bkp.powered = true → ∃ t, exec (.lidLight rtc) s = .next t ∧ logged true 7 t ∧ t.bkp.bbk = none
        ∧ (mayRespond → bit t.flt.cls 17 = true ∧ t.bkp.tampPending = false ∧ t.bkp.trusted = false ∧ (∀ k, vget t.tack.sessions k = none)
            ∧ t.nvm.sek.copies = [] ∧ t.nvm.roles.copies = [])
        ∧ (¬ mayRespond → t.bkp.tampPending = true ∧ t = { z with bkp := t.bkp }))
    ∧ (s.tack.paused = true → s.tack.waiting = [] → ∃ t, exec .tamperPauseEnd s = .next t ∧ t.tack.paused = false ∧ t.mem = s.mem ∧ t.mode = s.mode
        ∧ ∀ p, (vget s.port.port p).state ≠ .running → (vget t.port.port p).session = (vget s.port.port p).session)

/-- R318, R319, R413, R433–R437, R301, R299, R260: power, reset and start-up. The last rail makes all rails good; the release samples ADDR, reads the shadow and, where
the protection block passes, enters FUSE_LOAD with its variant; the load, the self-tests (a failed one, or a missing HUK that no source can program, leads to FAIL), the verification of the firmware and the mailboxes bring one PHASE after
another to READY in STANDBY; a rail loss or RESET_N low resets all but the backup domain, the fuses and what MRAM holds.
Where the manual leaves a choice it follows log entries 5 (memory never written reads as at the power-up before), 20, 51 and 52. -/
def Obligations.PowerAndResetSequence : Prop :=
  ∀ (s : State) (v : Bool) (addr : BitVec 2) (r : Rail) (bank : Fin 2) (code : Byte),
    let rails := ∀ i, vget s.pwr.rails i = true
    let released (c : Instr) : Prop := ∃ t, exec c s = .next t ∧ t.fuse.shadow = s.fuse.readShadow ∧ t.hk.addrPins = addr ∧ t.pwr.resetLow = false
      ∧ t = { s with pwr := t.pwr, hk := { s.hk with addrPins := addr }, clk := { s.clk with fallback := true }, fuse := t.fuse, host := t.host,
                      wdt := { s.wdt with serviceLine := s.lineCnt, serviceRtc := BitVec.ofNat 63 s.bkp.rtc } }
      ∧ t.fuse = { s.fuse with shadow := s.fuse.readShadow, loaded := t.fuse.loaded }
      ∧ (s.fuse.blockOk = true → t.host.phase = 1 ∧ t.fuse.loaded = true ∧ t.pwr.dead = false
          ∧ t.pwr.stbLatch = (vget s.fuse.readShadow 1).extractLsb' 0 16)
      ∧ (s.fuse.blockOk = false → t.host = s.host ∧ t.pwr.dead = true)
    let run := s.dbg.cpHalted = false
    let kept (held : Bool) (t : State) : Prop := t.host.phase = 0 ∧ t.mem = Memory.reset ∧ t.nvm.banks = s.nvm.banks ∧ t.nvm.audit = s.nvm.audit
      ∧ (∀ k, vget t.nvm.stored k = if held = true ∧ .storedCtx k ∈ s.nvm.dirty then vget s.nvm.stored k else vget s.nvm.storedCopy k)
      ∧ (s.fuse.pulse = none → t.fuse.cell0 = s.fuse.cell0 ∧ t.fuse.cell1 = s.fuse.cell1)
      ∧ t.pending = s.pending ∧ t.flt = Faults.reset ∧ t.det = Detect.reset ∧ t.mode = ModeState.reset
    (¬ rails → ∃ t, exec (.lastRailGood v) s = .next t ∧ (∀ i, vget t.pwr.rails i = true) ∧ t.pwr.porHeld = true ∧ t.bkp.vaonGood = true
      ∧ (s.bkp.switchOpen = false → s.bkp.powered = false → t.bkp.powered = true) ∧ (s.bkp.powered = true → t.bkp.rtc = s.bkp.rtc ∧ t.bkp.bbk = s.bkp.bbk)
      ∧ t = { s with pwr := t.pwr, bkp := t.bkp })
    ∧ (rails → s.pwr.resetLow = false → s.host.phase = 0 → s.pwr.dead = false → released (.porRelease addr))
    ∧ (rails → s.pwr.resetLow = true → s.pwr.porHeld = false → s.host.phase = 0 → s.pwr.dead = false → released (.resetNRelease addr))
    ∧ (s.host.phase = 1 → ∃ t, exec .fuseLoadDone s = .next t ∧ t.host.phase = 2 ∧ vget t.clk.trying 0 = true ∧ vget t.clk.trying 1 = true
        ∧ t.fuse = { s.fuse with trimOk := t.fuse.trimOk } ∧ t.mem = s.mem ∧ t.bkp = s.bkp ∧ t.nvm = s.nvm)
    ∧ (s.host.phase = 2 → s.fuse.pulse = none → run →
        (s.hukMissing = false → ∃ t, exec (.selftestDone 0) s = .next t ∧ t.host.phase = 3 ∧ t.tack.state = .operational ∧ t.host.bank = s.nvm.active
          ∧ t.bkp.canary = canaryPattern ∧ (s.clk.refclkOk = false → s.clk.recovered = false → s.bkp.canary = canaryPattern →
              t = { s with host := { s.host with phase := 3, bank := s.nvm.active },
                           tack := { s.tack with state := .operational, drbg := drbgInstantiate s.entropy, seeds := s.tack.seeds + 1 } }))
        ∧ (s.hukMissing = true → s.canPulse = false → ∃ t, exec (.selftestDone 0) s = .next t ∧ t.host.phase = 7 ∧ t.host.failcode = 5)
        ∧ (∀ test : BitVec 4, 1 ≤ test.toNat → test.toNat ≤ 9 → ∃ t, exec (.selftestDone test) s = .next t ∧ t.host.phase = 7 ∧ t.host.failcode = 5
            ∧ t.tack.state = .error ∧ t.tack.failTest = test))
    ∧ (s.host.phase = 3 → run → s.bkp.tampPending = false → s.wdt.disabled = false →
        (s.bootBank = some (bank, code) →
          exec .fwVerified s = .next { s with
            host := { s.host with phase := 4, bank := bank, failcode := code }, mode := { s.mode with reconcile := s.bkp.rtcValid } })
        ∧ (s.bootBank = none → exec .fwVerified s = .next { s with host := { s.host with phase := 7, failcode := 3 } }))
    ∧ (s.host.phase ≠ 0 → exec .hbmTrained s = .next { s with pwr := { s.pwr with hbmTrained := true } })
    ∧ (s.host.phase = 4 → run → ∃ t, exec .mailboxesReady s = .next t ∧ t.host.phase = 5 ∧ t.host.irqReady = true ∧ t.mode.mode = .standby
        ∧ t.sensor.tables = s.nvm.codeCopy ∧ t.groom.columns = s.nvm.columnCopy ∧ t.groom.defects = s.nvm.defectCopy ∧ t.groom.luts = s.nvm.lutCopy
        ∧ t.mem = s.mem)
    ∧ (s.host.phase = 6 → run → s.mode.mode ≠ .boot → s.bootBank = some (bank, code) → ∃ t, exec .mailboxesReady s = .next t ∧ t.host.phase = 5 ∧ t.host.bank = bank
        ∧ t.host.irqReady = true ∧ t.mem = s.mem ∧ t.mode = s.mode
        ∧ ∃ e rest, t.chore.log = s.chore.log ++ .audit e :: rest ∧ e.opcode = 0xFF03 ∧ e.status = s.flt.lastCause)
    ∧ (∃ t, exec (.railLoss r) s = .next t ∧ kept false t ∧ vget t.pwr.rails (railIx r) = false ∧ t.pwr.porHeld = true
        ∧ (∀ i, i ≠ railIx r → vget t.pwr.rails i = vget s.pwr.rails i)
        ∧ (r ≠ .vaonIn → t.bkp.rtc = s.bkp.rtc ∧ t.bkp.bbk = s.bkp.bbk ∧ t.bkp.mono = s.bkp.mono))
    ∧ (∃ t, exec .vaonInLoss s = .next t ∧ kept false t ∧ t.bkp.vaonGood = false ∧ vget t.pwr.rails 11 = false
        ∧ (s.bkp.shipArmed = false → t.bkp.rtc = s.bkp.rtc ∧ t.bkp.bbk = s.bkp.bbk) ∧ (s.bkp.shipArmed = true → t.bkp.powered = false ∧ t.bkp.bbk = none))
    ∧ (∃ t, exec .resetN s = .next t ∧ kept true t ∧ t.pwr.resetLow = true ∧ t.pwr.rails = s.pwr.rails ∧ t.bkp = s.bkp)

/-- R332–R334, R336, R340–R346: the backup domain and the charger. VAON powers the domain; a long press of the button erases it; RTC_TRIM adds ADJ periods; a reconciliation
sets TB forward to the RTC or keeps the residue; the canary is lost below 1.40 V on the cell; a source begins charging and its loss ends it; the charger's states follow zone, cell voltage, time-outs and
termination; VAON below 1.70 V halves the current, and above 1.72 V it rises by 0.25 mA up to what is asked for.
Where the manual leaves a choice it follows log entries 52, 53, 102 and 103. -/
def Obligations.BackupDomainAndChargerFollowTheirRules : Prop :=
  ∀ (s : State) (aux v ntc : Bool) (temp : Int) (mv t rtc : Nat),
    let b := s.bkp
    let on (x : Backup) : State := { s with bkp := x }
    let zr : State := { s with
      bkp := { b with rtc := Nat.max b.rtc rtc, osc := b.osc + (rtc - b.rtc) },
      tack := { s.tack with periods := s.tack.periods + if s.mainPower then rtc - b.rtc else 0 } }
    let z : State := { zr with tb := (s.atTb t).tb, mode := { s.mode with reconcile := false } }
    let fresh : Backup := { Backup.por with powered := true, vaonGood := b.vaonGood, vbatMv := b.vbatMv, osc := b.osc }
    let limit := 32768 * 3600 * (if b.chgState = .precharge then 1 else 5 * (1 + field b.chgCfg 8 7))
    let secs := z.bkp.rtc / 32768 * 1000000000 + (2 * (z.bkp.rtc % 32768) * 1000000000 + 32768) / 65536
    (b.powered = true ∨ b.switchOpen = true → exec .vaonInGood s = .next (on { b with vaonGood := true }))
    ∧ (b.powered = false → b.switchOpen = false → exec .vaonInGood s = .next (on { fresh with vaonGood := true }))
    ∧ (b.powered = true → exec .svcBtnLongPress s =
        .next (on { Backup.por with switchOpen := true, vaonGood := b.vaonGood, vbatMv := b.vbatMv, osc := b.osc }))
    ∧ (b.powered = false → exec .svcBtnLongPress s = .next s)
    ∧ (b.switchOpen = true → s.tack.state = .selftest → exec .svcBtnResetEnd s = .next (on fresh))
    ∧ (b.switchOpen = false → s.tack.state = .selftest → exec .backupDomainPor s = .next (on fresh))
    ∧ (b.switchOpen = false → s.tack.state ≠ .selftest → ∃ u, exec .backupDomainPor s = .next u ∧ u.bkp.retFail = true ∧ u.bkp.canary = canaryPattern
        ∧ u.bkp.rtc = 0 ∧ u.bkp.rtcValid = false ∧ u.bkp.trusted = false ∧ u.bkp.tampLost = true ∧ u.bkp.bbk ≠ none ∧ (∀ i, vget u.bkp.tampLog i = 0)
        ∧ ((∀ p, (vget s.port.port p).state ≠ .running) → u.bkp.mono =
            BitVec.ofNat 64 (2 ^ 20 + Nat.max (s.nvm.shadow.newest.getD 0).toNat s.maxCounter) + 1))
    ∧ (b.powered = true → exec .rtcTrim s = .next (on { b with rtc := ((b.rtc : Int) + b.adj.toInt).toNat }))
    ∧ (s.mode.reconcile = true → s.host.phase ≠ 7 → b.rtcValid = true → field s.sync.cfg 15 14 ≠ 2 → s.tbRun = true →
        (z.tb < secs → ∃ u, exec (.reconciliation t rtc) s = .next u ∧ u = { z with tb := secs, timeSource := 2, port := u.port }
          ∧ ∀ p, (vget u.port.port p).timeDue = true)
        ∧ (secs ≤ z.tb →
            exec (.reconciliation t rtc) s = .next { z with bkp := { z.bkp with tbResid := BitVec.ofNat 32 (Nat.min (z.tb - secs) (2 ^ 32 - 1)) } }))
    ∧ (b.chgSource = 0 → (aux = true ∨ v = true) → ∃ x, exec (.chargerDetect aux v) s = .next (on x)
        ∧ x.chgSource = (if aux then 2 else 1) ∧ x.cutback = false ∧ x.rtc = b.rtc ∧ x.bbk = b.bbk)
    ∧ (b.chgSource = (if aux then 2 else 1) → (aux = true → s.mainSource = false) → exec (.chargerSourceLoss aux) s =
        .next (on { b with chgSource := 0, chgState := .off, zoneKnown := false, cutback := false, chargeQ := 0 }))
    ∧ (b.chgSource ≠ 0 → bit b.chgCfg 15 = true → ∃ x, exec (.chargerZoneRead ntc temp) s = .next (on x) ∧ x.zoneKnown = true
        ∧ (ntc = true → x.chgZone = 5) ∧ (ntc = false → temp < 0 → x.chgZone = 0) ∧ (ntc = false → 12 ≤ temp → temp ≤ 43 → x.chgZone = 2)
        ∧ (ntc = false → 60 < temp → x.chgZone = 4)
        ∧ ((x.chgZone = 0 ∨ x.chgZone = 4 ∨ x.chgZone = 5) → (b.chgState = .cc ∨ b.chgState = .cv) → x.chgState = .suspend ∧ x.chargeQ = 0))
    ∧ (b.chgState = .cc → ∃ x, exec (.chargerVbatThreshold mv) s = .next (on x) ∧ x.vbatMv = mv
        ∧ x.chgState = (if b.cvMv ≤ mv then .cv else .cc))
    ∧ (b.chgState = .done → ∃ x, exec (.chargerVbatThreshold mv) s = .next (on x) ∧ x.chgState = (if mv + 100 ≤ b.cvMv then .cc else .done))
    ∧ (zr.bkp.osc < b.chgSince + limit → exec (.chargerTimeout rtc) s = .next zr)
    ∧ (b.chgSince + limit ≤ zr.bkp.osc → b.chgState = .precharge →
        ∃ x, exec (.chargerTimeout rtc) s = .next { zr with bkp := x } ∧ x.chgState = .fault ∧ x.chargeQ = 0)
    ∧ (b.chgSince + limit ≤ zr.bkp.osc → (b.chgState = .cc ∨ b.chgState = .cv) →
        ∃ x, exec (.chargerTimeout rtc) s = .next { zr with bkp := x } ∧ x.chgState = .done ∧ x.chargeQ = 0)
    ∧ (b.chgState = .cv → ∃ x, exec .chargeTermination s = .next (on x) ∧ x.chgState = .done ∧ x.chargeQ = 0)
    ∧ (∃ x, exec (.chargerVbatThreshold mv) s = .next (on x) ∧ (b.powered = true → b.vaonGood = false → mv < 1400 → x.canary = 0)
        ∧ (b.vaonGood = true ∨ 1450 ≤ mv → x.canary = b.canary))
    ∧ (1720 ≤ mv → b.cutback = true → ∃ x, exec (.chargerCutback mv) s = .next (on x) ∧ x.chargeQ = Nat.min (b.chargeQ + 250) b.targetUa)
    ∧ (b.vaonGood = true → mv < 1700 → 0 < b.chargeQ → exec (.chargerCutback mv) s = .next (on { b with chargeQ := b.chargeQ / 2, cutback := true }))

/-- R350, R354, R356, R358, R359, R361–R363, R365, R366, R368, R459: the clock tree. A loss of lock is counted, begins a new attempt and has its response: PLL-A stops ticks and the strobe engines,
PLL-B falls back, a port PLL resets its port; while PLL-A is out of lock the timebase takes steps of 10 ns; a lock needs its reference and a band; REFCLK's loss drops every PLL that takes it; the phase
stepper and the ramp profile make their steps. An attempt row alone changes nothing (log entry 26).
PLL-B locks at P1, from where a ramp profile of one segment takes it to P0 where the mode needs it.
Where the manual leaves a choice it follows log entries 15, 54 and 109 (the profile of a move between points). -/
def Obligations.PllsLoseAndTakeLock : Prop :=
  ∀ (s : State) (t : Nat) (p : PortIx) (w : Word),
    let y : State := { s with
      tb := if s.tbRun = false then s.tb else if vget s.clk.lock 0 = true then Nat.max s.tb t else s.tb + (t - s.tb) / 10 * 10 }
    let on : Prop := s.host.phase ≠ 0
    let atP1 (m : Bool) : Clocks := { s.clk with
      lock := vset s.clk.lock 1 true, trying := vset s.clk.trying 1 false, margin := if m then setBit s.clk.margin 1 false else s.clk.margin,
      fallback := false, point := 1, pllbCfg := setField s.clk.pllbCfg 0 24 0x200000 }
    let q : PllIx := finOf 6 (2 + p.val)
    (vget s.clk.lock 0 = true → ∃ u, exec (.pllaLockLoss t) s = .next u ∧ vget u.clk.lock 0 = false ∧ vget u.clk.trying 0 = true
      ∧ vget u.clk.loss 0 = satInc (vget s.clk.loss 0) ∧ u.clk.ticksAllowed = false ∧ u.clk.phaseLeft = 0 ∧ u.tick.due = [] ∧ u.tick.edges = []
      ∧ (∀ e : EngIx, vget u.ts.eng e = { vget s.ts.eng e with run := false, out := 0 }) ∧ u.ts.tmr = s.ts.tmr ∧ u.sensor.pllClear = true
      ∧ bit u.flt.cls 2 = true ∧ u.tb = y.tb ∧ u.mem = s.mem
      ∧ ((∀ k, k ≠ 0 → vget u.clk.lock k = vget s.clk.lock k)))
    ∧ (∀ m, s.mayLock 0 = true → s.bandFor 0 = some m → exec (.pllaLock t) s = .next { y with
        tbRun := true, clk := { s.clk with
          lock := vset s.clk.lock 0 true, trying := vset s.clk.trying 0 false, lockedOnce := true, ticksAllowed := false,
          lockTb := y.tb, margin := if m then setBit s.clk.margin 0 false else s.clk.margin } })
    ∧ (s.mayLock 0 = true → s.bandFor 0 = none → exec (.pllaLock t) s = .next (y.report .clkOther))
    ∧ exec .pllaRelockAttempt s = .next s ∧ exec .pllbRelockAttempt s = .next s ∧ exec (.portPllRelockAttempt p) s = .next s
    ∧ (vget s.clk.lock 1 = true → ∃ u, exec .pllbLockLoss s = .next u ∧ u.clk = { s.clk with
          lock := vset s.clk.lock 1 false, trying := vset s.clk.trying 1 true, loss := vset s.clk.loss 1 (satInc (vget s.clk.loss 1)),
          fallback := true, profile := none, point := 0 }
        ∧ bit u.flt.cls 3 = true ∧ (s.mode.mode.streaming = true → s.mode.pending = none → ∃ m, u.mode.pending = some m ∧ m.target = .ready ∧ m.force = true) ∧ u.mem = s.mem)
    ∧ (∀ m, s.mayLock 1 = true → s.bandFor 1 = some m →
        (pointOf s.pointMode = 1 → exec .pllbLock s = .next { s with clk := atP1 m })
        ∧ (pointOf s.pointMode = 2 →
          let c : Clocks := { atP1 m with prof := vset s.clk.prof 0 (BitVec.ofNat 32 (0x280000 * 256 + 200)), profLast := 0 }
          (s.clk.profile = none → c.profileOk 0 = true → exec .pllbLock s = .next { s with clk := { c with profile := some 0, point := 3 } })
          ∧ (s.clk.profile ≠ none ∨ c.profileOk 0 = false → exec .pllbLock s = .next (State.report { s with clk := atP1 m } .config))))
    ∧ (s.mayLock 1 = true → s.bandFor 1 = none → exec .pllbLock s = .next (s.report .clkOther))
    ∧ (vget s.clk.lock q = true → ∃ u, exec (.portPllLockLoss p) s = .next u ∧ vget u.clk.lock q = false ∧ vget u.clk.trying q = true
        ∧ vget u.clk.loss q = satInc (vget s.clk.loss q) ∧ (vget u.port.port p).state = .stopped ∧ (vget u.port.port p).session = none
        ∧ bit u.flt.cls 4 = true ∧ (∀ k, k ≠ p → vget u.port.port k = vget s.port.port k) ∧ u.mem = s.mem)
    ∧ (∀ m, s.mayLock q = true → s.bandFor q = some m → ∃ u, exec (.portPllLock p) s = .next u ∧ vget u.clk.lock q = true
        ∧ (vget u.port.port p).state = (if (vget s.port.port p).state = .stopped ∧ bit (vget s.port.port p).cfg 31 = true then .starting
            else (vget s.port.port p).state)
        ∧ ((vget u.port.port p).state = .starting → (vget u.port.port p).lit = true)
        ∧ (∀ k, k ≠ p → vget u.port.port k = vget s.port.port k))
    ∧ (s.mayLock q = true → s.bandFor q = none → exec (.portPllLock p) s = .next (s.report .clkOther))
    ∧ (∃ u, exec .refclkLoss s = .next u ∧ u.clk.refclkOk = false ∧ vget u.clk.lock 1 = false ∧ vget u.clk.lock 2 = false
        ∧ vget u.clk.lock 3 = false ∧ vget u.clk.lock 4 = false ∧ vget u.clk.lock 5 = false
        ∧ (s.clk.recovered = false → vget u.clk.lock 0 = false) ∧ (s.clk.recovered = true → vget u.clk.lock 0 = vget s.clk.lock 0))
    ∧ exec .refclkReturn s = .next { s with clk := { s.clk with refclkOk := true } }
    ∧ (on → s.role ≠ 2 → s.clk.phaseLeft = 0 → vget s.clk.lock 0 = true → exec (.pllaPhaseWrite w) s = .next { s with
        clk := { s.clk with phaseRetard := bit w 16, phaseLeft := w.extractLsb' 0 16, phaseByAlign := false } })
    ∧ (on → (s.clk.phaseLeft ≠ 0 ∨ (s.role = 2 ∧ (s.sync.state = .aligned ∨ s.sync.state = .locked))) →
        exec (.pllaPhaseWrite w) s = .next s.lockedWrite)
    ∧ exec (.phaseStep t) s = .next (if s.clk.phaseLeft ≠ 0 ∧ (s.clk.stepTb = 0 ∨ s.clk.stepTb + 256 ≤ y.tb) then
        { y with clk := { s.clk with phaseLeft := s.clk.phaseLeft - 1, stepTb := y.tb } } else y)
    ∧ (on → bit w 4 = true →
        let a : State := { s with clk := { s.clk with profLast := w.extractLsb' 0 4 } }
        (s.clk.profileOk (w.extractLsb' 0 4).toNat = true → vget s.clk.lock 1 = true →
          exec (.pllbProfileGo w) s = .next { s with clk := { a.clk with profile := some 0, point := 3 } })
        ∧ (s.clk.profileOk (w.extractLsb' 0 4).toNat = true → vget s.clk.lock 1 = false → exec (.pllbProfileGo w) s = .next a)
        ∧ (s.clk.profileOk (w.extractLsb' 0 4).toNat = false → exec (.pllbProfileGo w) s = .next (a.report .config)))
    ∧ (∀ i : Fin 16, s.clk.profile = some i → ∃ c, exec .pllbProfileSegmentEnd s = .next { s with clk := c }
        ∧ c.pllbCfg.extractLsb' 0 24 = (vget s.clk.prof i).extractLsb' 8 24 ∧ c.pllbCfg.extractLsb' 24 8 = s.clk.pllbCfg.extractLsb' 24 8
        ∧ c.profile = (if i.val < s.clk.profLast.toNat then some (i + 1) else none))

/-- R91, R114, R115, R117–R123, R358, R379: encoders and ticks. A legal step that persists for FILT_NS moves ENC_POS by 1 under DECODE and INVERT, a double change, or on the
bypass clock one closer than 10 ns to the last, counts as illegal; Z captures; two milliseconds without an edge restart the predictor; an encoder source asks for the next
boundary of its direction, at constant speed for the instant at which that speed reaches it; every source commits its tick at the requested instant, or at the minimum LP after the last one under DEFER, once it lies within HZ; ticks become allowed 10 µs after the lock;
PRE_LT pulses PRE_NS before the next final tick, or late with PRE_LATE.
Where the manual leaves a choice it follows log entries 12, 43, 73, 74, 97 and 112. -/
def Obligations.EncodersAndTicksFollowTheirSource : Prop :=
  ∀ (s : State) (ch : EncIx) (a b rising : Bool) (t held : Nat) (q : TickReq) (d : DueTick) (ds : List DueTick),
    let x := vget s.enc ch
    let y := s.atTb t
    let z : State := { y with sync := { s.sync with sentUp := [], sentDown := [] } }
    let src := field s.tick.cfg 2 0
    let other := ¬ ((src = 1 ∧ ch = 0) ∨ (src = 2 ∧ ch = 1))
    let one : Prop := (a ≠ x.a ∧ b = x.b) ∨ (a = x.a ∧ b ≠ x.b)
    let close : Prop := s.tbRun = true ∧ vget s.clk.lock 0 = false ∧ t < x.changed + 10
    let now : Encoder := { x with a := a, b := b, changed := t }
    let edgeOn : Bool := rising != bit s.tick.cfg 5
    let seen : State := if s.mode.mode ≠ .boot ∧ vget s.clk.lock 0 = true ∧ edgeOn = true then z.event 0x22 else z
    let asks (c : Instr) : Prop :=
      (y.tb + z.horizon < q.inst → exec c s = .next { z with tick := { s.tick with request := some q } })
        ∧ (q.inst ≤ y.tb + z.horizon → s.tick.due = [] → bit s.tick.cfg 4 = false → ∃ u e, exec c s = .next u ∧ u.tick.due.head? = some e
            ∧ e.req = q.inst ∧ e.dir = q.dir ∧ u.mem = s.mem
            ∧ e.inst = (if s.sensor.anyTick then Nat.max q.inst (s.sensor.lastTb + z.tickLp) else q.inst))
    ((s.host.phase = 0 ∨ held < field x.cfg 3 0 ∨ (a = x.a ∧ b = x.b)) → exec (.encoderEdge ch a b t held) s = .next z)
    ∧ (s.host.phase ≠ 0 → field x.cfg 3 0 ≤ held → ((a ≠ x.a ∧ b ≠ x.b) ∨ (one ∧ close)) →
        let u : State := { z with enc := vset s.enc ch { now with illegal := satInc x.illegal } }
        (other → exec (.encoderEdge ch a b t held) s = .next (u.report .encoder))
        ∧ (¬ other → exec (.encoderEdge ch a b t held) s =
            .next (State.report { u with tick := { s.tick with edges := [], request := none, perLast := none } } .encoder)))
    ∧ (s.host.phase ≠ 0 → field x.cfg 3 0 ≤ held → one → ¬ close →
        (field x.cfg 5 4 = 0 ∨ (field x.cfg 5 4 = 1 ∧ a ≠ x.a) ∨ (field x.cfg 5 4 = 2 ∧ a ≠ x.a ∧ b = false) →
          let up : Bool := (if a ≠ x.a then decide (a ≠ b) else decide (a = b)) != bit x.cfg 6
          let e : Encoder := { now with ext := if up then x.ext + 1 else x.ext - 1 }
          (other → exec (.encoderEdge ch a b t held) s = .next { z with enc := vset s.enc ch e })
          ∧ (¬ other → ∃ u, exec (.encoderEdge ch a b t held) s = .next u ∧ vget u.enc ch = e ∧ u.tb = y.tb ∧ u.mem = s.mem
              ∧ u.tick.edges.head? = some { pos := e.ext.toInt, t := y.tb, up := up }))
        ∧ ((field x.cfg 5 4 = 1 ∧ a = x.a) ∨ (field x.cfg 5 4 = 2 ∧ (a = x.a ∨ b = true)) →
          exec (.encoderEdge ch a b t held) s = .next { z with enc := vset s.enc ch now }))
    ∧ (s.host.phase ≠ 0 → (field x.cfg 9 8 = 1 →
        exec (.zCapture ch) s = .next { s.event (0x23 + ch.val) with enc := vset s.enc ch { x with zcap := x.ext.extractLsb' 0 32 } })
        ∧ (field x.cfg 9 8 ≠ 1 → exec (.zCapture ch) s = .next (s.event (0x23 + ch.val))))
    ∧ (∀ e es, s.tick.edges = e :: es → ¬ other → e.t + 2000000 ≤ y.tb →
        exec (.predictorTimeout ch t) s = .next { y with tick := { s.tick with edges := [], request := none, perLast := none } })
    ∧ (vget s.clk.lock 0 = true → s.tbRun = true → s.clk.ticksAllowed = false →
        (s.clk.lockTb + 10000 ≤ y.tb → ∃ r, exec (.ticksAllowed t) s = .next { y with
            clk := { s.clk with ticksAllowed := true }, tick := { s.tick with allowed := r } }
          ∧ (s.sensor.biased = true → s.mode.mode = .ready → r = some y.tb))
        ∧ (y.tb < s.clk.lockTb + 10000 → exec (.ticksAllowed t) s = .next y))
    ∧ (src = 4 → z.ticksAsked = true → z.periodRequest = some q → q.dir = false ∧ asks (.internalPeriod t) ∧ asks (.tickRequest t) ∧ asks (.tickCommit t))
    ∧ ((src = 1 ∨ src = 2) → z.ticksAsked = true → s.tick.predict y.tb = some q → asks (.tickRequest t) ∧ asks (.tickCommit t))
    ∧ ((z.ticksAsked = false ∨ ((src = 1 ∨ src = 2) ∧ s.tick.predict y.tb = none) ∨ (src = 4 ∧ s.tick.allowed = none) ∨ src = 0 ∨ src = 3 ∨ 5 ≤ src) →
        exec (.tickRequest t) s = .next { z with tick := { s.tick with request := none } }
        ∧ exec (.tickCommit t) s = .next { z with tick := { s.tick with request := none } })
    ∧ (∀ (e : Edge) (tw t2 : Nat) (k : Int), s.tick.edges.head? = some e → s.tick.valid = true → s.tick.asked = none → s.tick.request = none → 0 < s.tick.ratio.toNat →
        s.tick.edgeT s.tick.win = some tw → s.tick.edgeT (2 * s.tick.win) = some t2 → tw < e.t → e.t - tw = tw - t2 → t2 < tw →
        (y.tb - e.t) * s.tick.win ≤ 2 * (e.t - tw) →
        let ratio : Int := s.tick.ratio.toNat
        let b := s.tick.p0 + k * ratio
        let d : Rat := (b : Rat) / 65536 - (e.pos : Rat)
        let at_ : Rat := (e.t : Rat) + d * ((e.t - tw : Nat) : Rat) / (s.tick.win : Rat) + 1 / 2
        (e.up = true → b - ratio ≤ e.pos * 65536 → e.pos * 65536 < b →
          s.tick.predict y.tb = some { inst := Nat.max y.tb at_.floor.toNat, dir := false, boundary := some b })
        ∧ (e.up = false → b < e.pos * 65536 → e.pos * 65536 ≤ b + ratio →
          let back : Rat := (e.t : Rat) - d * ((e.t - tw : Nat) : Rat) / (s.tick.win : Rat) + 1 / 2
          s.tick.predict y.tb = some { inst := Nat.max y.tb back.floor.toNat, dir := true, boundary := some b }))
    ∧ ((src ≠ 3 ∨ z.ticksAsked = false ∨ edgeOn = false) → exec (.trigEdge t rising) s = .next seen)
    ∧ (src = 3 → z.ticksAsked = true → edgeOn = true → s.tick.due = [] → s.sensor.anyTick = false → s.role ≠ 1 → s.sync.switch = none →
        ∃ n, n ≤ 4 ∧ exec (.trigEdge t rising) s = .next { seen with tick := { s.tick with
          due := [{ inst := y.tb + n, req := y.tb + n, dir := false, line := none, pos := none, slip := s.tick.slip }], slip := false, request := none } })
    ∧ (s.tbRun = true → s.tick.due = d :: ds → d.pre = false → src ≠ 3 → d.inst - s.ts.preNs.toNat ≤ y.tb →
        ∃ u, exec (.preLt t) s = .next u
          ∧ u = { y with tick := { s.tick with due := { d with pre := true } :: ds }, ts := { s.ts with
              preLate := s.ts.preLate || decide (d.inst - s.ts.preNs.toNat < y.tb), eng := u.ts.eng } }
          ∧ ∀ e : EngIx, let g := vget s.ts.eng e
              vget u.ts.eng e = { g with latch := (vget u.ts.eng e).latch }
              ∧ ∀ i : Fin 6, bit (vget u.ts.eng e).latch i.val = (bit g.latch i.val || decide (g.inCode i = 0x12)))

/-- R126–R132: the messages that carry ticks, switches and delays. A follower that is LOCKED takes a TICK of the next line 100 ns ahead and passes it on, and
counts a bad one and loses sync; it answers CTX_AT with its status and drops a cancelled switch; the leader gathers CTX_ACK; DREQ is answered with the three
stamps, by a child once it is aligned itself; the first DRSP switches the clock of a device being formed, and the exchanges are gathered to sixteen, which align it;
a child asks with its own stamp. What a device sends leaves while OUT5 of PLL-A runs.
Where the manual leaves a choice it follows log entries 13, 22, 75, 76 and 82. -/
def Obligations.SyncMessagesCarryTicksAndSwitches : Prop :=
  ∀ (s : State) (t t1 t2 t3 : Nat) (frame p : List Byte) (w : StringSwitch),
    let tb (n : Nat) := (s.atTb n).tb
    let on (f : SyncLink → SyncLink) : State := { s with sync := f { s.sync with sentUp := [], sentDown := [] } }
    let tx (l : List (List Byte)) := if s.pllaOut 5 then l else []
    let role := s.role
    let counted : BitVec 16 := if s.mode.mode = .boot then s.sync.badMsg else satInc s.sync.badMsg
    (role = 2 → s.sync.state = .locked →
      let line := natLe ((p.drop 8).take 6)
      let inst := natLe (p.take 8)
      let fl := (p.getD 14 0).toNat
      (syncPayload 0x01 15 frame = some p → fl < 32 → (s.sync.lastLine = none ∨ s.sync.lastLine = some (line - 1) ∧ 0 < line) → tb t + 100 ≤ inst →
        exec (.tick t frame) s = .next { on (fun y => { y with lastLine := some line, sentDown := tx [frame] }) with
          tb := tb t, tick := { s.tick with due := s.tick.due ++ if s.ticksMayFire = true ∧ field s.tick.cfg 2 0 = 5 then
            [{ inst := inst, req := inst, dir := decide (16 ≤ fl), line := some line, pos := some (finOf 16 fl), slip := false }] else [] } })
      ∧ (syncPayload 0x01 15 frame = none ∨ (syncPayload 0x01 15 frame = some p ∧ 32 ≤ fl) → ∃ u, exec (.tick t frame) s = .next u
          ∧ u.sync.state = .lost ∧ u.sync.badMsg = counted ∧ u.sync.losses = satInc s.sync.losses ∧ u.tick.due = [] ∧ u.mem = s.mem)
      ∧ (syncPayload 0x02 8 frame = some p → s.dbg.cpHalted = false →
          ∃ u, exec (.ctxAt frame) s = .next u ∧ u.sync.sentDown = tx [frame] ∧ u.mem = s.mem
          ∧ u.sync.sentUp = tx [syncFrame 0x03 [p.getD 7 0, s.sync.pos.setWidth 8,
              (s.switchCheck (natLe (p.take 6)) (finOf 16 (p.getD 6 0).toNat) ((p.getD 6 0).toNat / 16)).1]])
      ∧ (syncPayload 0x04 1 frame = some p → s.sync.switch = some w → w.tag = p.getD 0 0 →
          (s.mode.deep = false → ∃ u, exec (.ctxCancelMsg frame) s = .next u ∧ u.sync.switch = none ∧ u.sync.sentDown = tx [frame] ∧ u.mem = s.mem)
          ∧ ((∀ m, s.mode.pending = some m → ∃ l, m.phase = .enter l ∨ m.phase = .switch l ∨ m.phase = .exit_ l) → exec (.ctxCancelMsg frame) s =
              .next { on (fun y => { y with switch := none, sentDown := tx [frame] }) with mode := { s.mode with pending := none } })))
    ∧ (role = 2 → s.sync.state ≠ .locked → s.sync.joinAt = none → syncPayload 0x01 15 frame = none →
        exec (.tick t frame) s = .next { on (fun y => { y with badMsg := counted }) with tb := tb t })
    ∧ (role = 1 → syncPayload 0x03 3 frame = some p → s.sync.switch = some w → w.tag = p.getD 0 0 → exec (.ctxAck frame) s =
        .next (on fun y => { y with switch := some { w with answers := w.answers ++ [((p.getD 1 0).toNat, p.getD 2 0)] } }))
    ∧ (role = 2 → syncPayload 0x03 3 frame = some p → exec (.ctxAck frame) s = .next (on fun y => { y with sentUp := tx [frame] }))
    ∧ (syncPayload 0x05 9 frame = some p → stampOf p 0 = some t1 →
        (role ≠ 0 → (role = 2 → s.sync.aligned = true) → exec (.dreq t2 t3 frame) s =
          .next (on fun y => { y with sentDown := tx [syncFrame 0x06 (stampBytes t1 ++ stampBytes t2 ++ stampBytes t3)] }))
        ∧ (role = 2 → s.sync.aligned = false → exec (.dreq t2 t3 frame) s = .next (on id)))
    ∧ (role = 2 → s.mode.deep = false → syncPayload 0x06 27 frame = some p → stampOf p 0 = some t1 → stampOf p 9 = some t2 → stampOf p 18 = some t3 →
        s.sync.t1 = some t1 →
        let d2 : Int := ((t : Int) - t1) - ((t3 : Int) - t2)
        let th2 : Int := ((t2 : Int) - t1) - ((t : Int) - t3) - (s.sync.geo.extractLsb' 19 13).toInt
        let asks := tx [syncFrame 0x09 [s.sync.pos.setWidth 8], syncFrame 0x0B [s.sync.pos.setWidth 8]]
        (s.sync.state = .enumerated → s.sync.joinAt = none → s.clk.recovered = false → ∃ u, exec (.drsp t frame) s = .next u ∧ u.clk.recovered = true ∧ u.sync.t1 = none
            ∧ u.sync.thetas = [] ∧ u.sync.delays = [] ∧ u.sync.state = .enumerated)
        ∧ ((s.sync.state = .enumerated → s.clk.recovered = true) →
          (s.sync.thetas.length < 15 → exec (.drsp t frame) s =
            .next { on (fun y => { y with t1 := none, thetas := y.thetas ++ [th2], delays := y.delays ++ [d2] }) with tb := tb (t / 128) })
          ∧ (s.sync.thetas.length = 15 → ∃ u, exec (.drsp t frame) s = .next u ∧ u.sync.thetas = [] ∧ u.sync.t1 = none
              ∧ u.sync.delay = BitVec.ofInt 24 (mean16 (s.sync.delays ++ [d2])) ∧ u.sync.offset = BitVec.ofInt 16 (mean16 (s.sync.thetas ++ [th2]))
              ∧ (s.sync.state = .enumerated → u.sync.state = .aligned ∧ u.sync.aligned = true ∧ u.timeSource = 3 ∧ u.sync.sentUp = asks)
              ∧ (s.sync.state = .lost → s.sync.rejoining = true → u.sync.state = .lost ∧ u.sync.aligned = true ∧ u.sync.rejoining = false
                  ∧ u.sync.sentUp = asks))))
    ∧ (role = 2 → s.sync.upLock = true → exec (.hopMeasureDue t1) s =
        .next { on (fun y => { y with t1 := some t1, sentUp := tx [syncFrame 0x05 (stampBytes t1)] }) with tb := tb (t1 / 128) })

/-- R129, R131, R132, R134, R355: formation, loss and rejoining. ENUM gives a device its position and goes on to a child or comes back as ENUM_ACK; the leader
gathers positions, and STRING_FORM is answered once all are aligned and LEAD_NS suffices, or fails; LOST, a lost hop and the loss of a child end at the leader; a lost
follower whose link recovers takes the recovered clock again, the leader answers its JOIN_REQ with J, and it rejoins there where its checks pass.
Where the manual leaves a choice it follows log entries 13 (the delays of the hops), 22 (the frame's bytes), 44, 78 (a device whose firmware does not run
answers JOIN_AT as one whose checks fail), 82 and 99 (one J at a time, and none in STANDBY or MAINT). -/
def Obligations.StringsFormLoseAndRejoin : Prop :=
  ∀ (s : State) (frame p : List Byte) (slot : Slot) (above : Bool),
    let on (f : SyncLink → SyncLink) : State := { s with sync := f { s.sync with sentUp := [], sentDown := [] } }
    let tx (l : List (List Byte)) := if s.pllaOut 5 then l else []
    let role := s.role
    let me := s.sync.pos.setWidth 8
    let lp := Nat.max (natLe ((p.drop 1).take 2)) s.minLp
    (role = 2 →
      (syncPayload 0x07 3 frame = some p → (p.getD 0 0).toNat < 31 →
        let n := (p.getD 0 0).toNat + 1
        let goes : Bool := s.sync.downLock && decide (n < 31)
        let m := if goes then syncFrame 0x07 (BitVec.ofNat 8 n :: bytesLe 2 lp)
          else syncFrame 0x08 (BitVec.ofNat 8 (if s.sync.downLock then n + 1 else n) :: bytesLe 2 lp)
        exec (.enum frame) s = .next (on fun y => { y with
          pos := BitVec.ofNat 5 n, maxLp := lp, state := .enumerated, thetas := [], delays := [], aligned := false, rejoining := false, joinAt := none,
          sentDown := if goes then tx [m] else [], sentUp := if goes then [] else tx [m] }))
      ∧ (syncPayload 0x08 3 frame = some p → exec (.enumAck frame) s = .next (on fun y => { y with sentUp := tx [frame] }))
      ∧ (syncPayload 0x09 1 frame = some p → exec (.aligned frame) s = .next (on fun y => { y with sentUp := tx [frame] }))
      ∧ (syncPayload 0x0A 1 frame = some p → exec (.lost false frame) s = .next (on fun y => { y with sentUp := tx [frame] })
          ∧ (s.sync.state = .locked → ∃ u, exec (.lost true frame) s = .next u ∧ u.sync.state = .lost ∧ u.tick.due = [] ∧ u.sync.joinAt = none
              ∧ u.sync.sentDown = tx [syncFrame 0x0A [me]] ∧ u.sync.sentUp = tx [syncFrame 0x0A [me]] ∧ bit u.flt.cls 10 = true))
      ∧ (syncPayload 0x0B 1 frame = some p → exec (.joinReq frame) s = .next (on fun y => { y with sentUp := tx [frame] }))
      ∧ (syncPayload 0x0C 8 frame = some p → 16 ≤ (p.getD 7 0).toNat → exec (.joinAt frame) s = .next (State.badMsg (on id)))
      ∧ (syncPayload 0x0C 8 frame = some p → s.sync.state = .locked → (p.getD 7 0).toNat < 16 →
          exec (.joinAt frame) s = .next (on fun y => { y with sentDown := tx [frame] }))
      ∧ (syncPayload 0x0C 8 frame = some p → (s.sync.state = .lost ∨ s.sync.state = .aligned) → s.sync.upLock = true → s.sync.aligned = true →
          s.mode.deep = false → (p.getD 7 0).toNat < 16 → s.sync.joinAt ≠ none →
          exec (.joinAt frame) s = .next (on fun y => { y with sentDown := tx [frame] }))
      ∧ (syncPayload 0x0C 8 frame = some p → (s.sync.state = .lost ∨ s.sync.state = .aligned) → s.sync.upLock = true → s.sync.aligned = true →
          s.mode.deep = false → s.sync.joinAt = none → (p.getD 7 0).toNat < 16 →
          (modeOf ((p.getD 6 0).toNat / 16) = none ∨ modeOf ((p.getD 6 0).toNat / 16) = some .standby ∨ modeOf ((p.getD 6 0).toNat / 16) = some .maint) →
          exec (.joinAt frame) s = .next (State.report (on fun y => { y with sentDown := tx [frame] }) .context))
      ∧ (syncPayload 0x0C 8 frame = some p → (s.sync.state = .lost ∨ s.sync.state = .aligned) → s.sync.upLock = true → s.sync.aligned = true →
          s.mode.deep = false → s.sync.joinAt = none → (p.getD 7 0).toNat < 16 → (p.getD 6 0).toNat / 16 = 2 →
          let ctx : CtxIx := finOf 16 (p.getD 6 0).toNat
          (s.host.phase = 5 → s.dbg.cpHalted = false → s.leadHalfBad .ready ctx = false → s.shadowHeld (cMapSet (s.comingHalf ctx)) = false →
            ∃ u, exec (.joinAt frame) s = .next u ∧ u.sync.sentDown = tx [frame]
              ∧ u.sync.joinAt = some (natLe (p.take 6), ctx, 2, finOf 16 (p.getD 7 0).toNat) ∧ u.sync.lastLine = some (natLe (p.take 6) - 1)
              ∧ (s.sync.state = .aligned → field u.tick.cfg 2 0 = 5))
          ∧ ((s.host.phase ≠ 5 ∨ s.dbg.cpHalted = true ∨ s.leadHalfBad .ready ctx = true) →
            exec (.joinAt frame) s = .next (State.report (on fun y => { y with sentDown := tx [frame] }) .context)))
      ∧ (s.sync.state = .lost → s.sync.joinAt = none → s.mode.deep = false →
          (∃ u, exec .syncLinkRecovered s = .next u ∧ u.clk.recovered = true ∧ u.sync.upLock = true ∧ u.sync.rejoining = true ∧ u.sync.aligned = false
            ∧ u.sync.thetas = [] ∧ u.sync.state = .lost ∧ u.mem = s.mem)
          ∧ (s.clk.recovered = true → exec .syncLinkRecovered s = .next (on fun y => { y with
              upLock := true, rejoining := true, aligned := false, t1 := none, thetas := [], delays := [] })))
      ∧ (s.sync.state = .locked → ∃ u, exec (.syncLoss .recoveredClock) s = .next u ∧ u.sync.state = .lost ∧ u.clk.recovered = false
          ∧ u.sync.losses = satInc s.sync.losses ∧ u.sync.sentUp = tx [syncFrame 0x0A [me]] ∧ u.sync.sentDown = tx [syncFrame 0x0A [me]])
      ∧ (s.sync.upLock = true → s.mode.deep = false → (s.sync.state = .aligned ∨ s.sync.state = .locked ∨ s.sync.state = .lost) →
          exec .hopSymbolLock s = .next (on fun y => { y with downLock := true, sentDown := tx [syncFrame 0x07 (me :: bytesLe 2 s.sync.maxLp)] }))
      ∧ (s.sync.upLock = false → s.mode.deep = false → exec .hopSymbolLock s = .next (on fun y => { y with
          upLock := true, state := if s.sync.state = .down then .trained else s.sync.state }))
      ∧ exec .childLinkLoss s = .next (on fun y => { y with downLock := false, sentUp := tx [syncFrame 0x0A [me + 1]] })
      ∧ (s.sync.state = .aligned → s.mode.deep = false →
          ∃ u, exec (.stringFormDone false) s = .next u ∧ u.sync.state = .locked ∧ field u.tick.cfg 2 0 = 5 ∧ u.tick.due = []))
    ∧ (role = 1 →
      (syncPayload 0x08 3 frame = some p → exec (.enumAck frame) s = .next (on fun y => { y with
          devices := (p.getD 0 0).toNat + 1, maxLp := Nat.max y.maxLp (natLe ((p.drop 1).take 2)) }))
      ∧ (syncPayload 0x09 1 frame = some p → ∃ l, exec (.aligned frame) s = .next (on fun y => { y with alignedPos := l })
          ∧ ∀ k, k ∈ l ↔ k = (p.getD 0 0).toNat ∨ k ∈ s.sync.alignedPos)
      ∧ (syncPayload 0x0A 1 frame = some p →
          (above = true → exec (.lost above frame) s = .next (on id))
          ∧ (above = false → ∃ l, exec (.lost above frame) s = .next (on fun y => { y with
                lostPos := l, joins := y.joins.filter fun x => x.1 < (p.getD 0 0).toNat })
              ∧ ∀ k, k ∈ l ↔ k ∈ s.sync.lostPos ∨ ((p.getD 0 0).toNat ≤ k ∧ k < s.sync.devices)))
      ∧ (∃ l, exec .childLinkLoss s = .next (on fun y => { y with downLock := false, lostPos := l, joins := y.joins.filter fun x => x.1 < 1 })
          ∧ ∀ k, k ∈ l ↔ k ∈ s.sync.lostPos ∨ (1 ≤ k ∧ k < s.sync.devices))
      ∧ (syncPayload 0x0B 1 frame = some p → s.sync.state = .locked →
          ∃ l m, exec (.joinReq frame) s = .next (on fun y => { y with joins := l, sentDown := tx [syncFrame 0x0C m] })
          ∧ (∀ k j, (k, j) ∈ l ↔ ((k, j) ∈ s.sync.joins ∧ k < (p.getD 0 0).toNat)
              ∨ (k ∈ s.sync.lostPos ∧ (p.getD 0 0).toNat ≤ k ∧ j = s.nextLine + s.tick.due.length - 1 + 64))
          ∧ m = bytesLe 6 s.joinLine ++ [BitVec.ofNat 8 (s.leadCtx.val + 16 * s.arrayMode.code.toNat), BitVec.ofNat 8 s.joinPos.val])
      ∧ (s.sync.forming = true → vget s.host.waits slot = some .stringForm → (∀ k, k ≠ slot → vget s.host.waits k ≠ some .stringForm) →
          s.dbg.cpHalted = false → hostWf s.host.bytes = true →
          (32 < s.sync.devices → ∃ u, exec (.stringFormDone above) s = .next u ∧ u.sync.forming = false
            ∧ hostGet u.host.bytes (slotAddr slot + 0x0C) = 0x06)
          ∧ (s.sync.devices ≤ 32 → ∃ u, exec (.stringFormDone true) s = .next u ∧ u.sync.forming = false
            ∧ hostGet u.host.bytes (slotAddr slot + 0x0C) = 0x07)
          ∧ (2 ≤ s.sync.devices → s.sync.devices ≤ 32 → (∀ k, 0 < k → k < s.sync.devices → k ∉ s.sync.lostPos → k ∈ s.sync.alignedPos) →
              (128 * s.leadNs < leadReq (s.hopDelays 0) → ∃ u, exec (.stringFormDone false) s = .next u ∧ u.sync.forming = false
                ∧ hostGet u.host.bytes (slotAddr slot + 0x0C) = 0x03)
              ∧ (leadReq (s.hopDelays 0) ≤ 128 * s.leadNs →
                ∃ u, exec (.stringFormDone false) s = .next u ∧ u.sync.forming = false ∧ u.sync.state = .locked
                  ∧ hostGet u.host.bytes (slotAddr slot + 0x0C) = 0 ∧ bit u.host.done slot.val = true))))

/-- R21, R35, R40, R57, R63, R70, R75, R80, R106, R136, R192, R197: a line tick. The first due tick fires as the next line at its instant: the lead context of that line is
applied, with its scheduled shadow where that may be, locked for four lines; direction, position, reversal, format change, settling, window of exposure and
FRAME's phase follow from it; every stall's conversion is added to what walked in, saturating in F2 and F4; the line that leaves the exit row joins the yard link
and a new one, 255 lines older than the tick, takes its place, in FRAME only while a row is handed on; the line at FEED gives its jobs, which stop and pre-empt what ran;
nothing is written to memory without a capture; LT reaches the strobe inputs that select it.
Where the manual leaves a choice it follows log entries 61, 62, 64, 66, 67, 68 and 111. -/
def Obligations.LineTickFiresTheDueTick : Prop :=
  (∀ (s : State) (light : List LightTerm) (d : DueTick) (rest : List DueTick), s.tick.due = d :: rest → s.ticksMayFire = true →
    s.sync.joinAt = none →
    let k := d.line.getD (if s.sensor.anyTick then s.sensor.lineNow + 1 else 0)
    let c := (s.leadOf k).1
    let m := (s.leadOf k).2.2
    let x := vget s.ctx c
    let n := s.sensor
    let entering : Bool := match s.tickEvent k with
      | .enter _ => true
      | _ => false
    let leaving : Bool := match s.tickEvent k with
      | .leave _ => true
      | _ => false
    let stays : Prop := ∀ p, s.tickEvent k ≠ .leave p
    ∃ u, exec (.lineTick light) s = .next u
      ∧ u.sensor.ticks = n.ticks + 1 ∧ u.sensor.lineNow = k ∧ u.sensor.lastTb = Nat.max s.tb d.inst ∧ u.tb = Nat.max s.tb d.inst
      ∧ u.sensor.anyTick = true ∧ u.sensor.lead = c ∧ u.sensor.leadHalf = some (vget u.ctx c).active ∧ u.sensor.shut = false
      ∧ u.tick.due = rest ∧ u.tick.delayNs = BitVec.ofNat 16 (Nat.min (d.inst - d.req) 65535)
      ∧ (∀ l slot, x.sched = some (l, slot) → l ≤ k → leadBad m x.shadow = false →
          (vget u.ctx c).active = x.shadow ∧ (vget u.ctx c).sched = none ∧ (vget u.ctx c).lockUntil = some (k + 4))
      ∧ (x.sched = none → (vget u.ctx c).active = x.active)
      ∧ (stays → u.groom.link = n.exit)
      ∧ (s.cap = none → u.mem = s.mem)
      ∧ (∀ e : EngIx, let g := vget s.ts.eng e
          vget u.ts.eng e = { g with latch := (vget u.ts.eng e).latch }
          ∧ ∀ i : Fin 6, bit (vget u.ts.eng e).latch i.val = (bit g.latch i.val || decide (g.inCode i = 0x11)))
      ∧ (let h := (vget u.ctx c).active
        let e := cEntry h u.sensor.pos.val
        let frameEnd : Bool := leaving && decide (s.mode.mode = .frame)
        let dir : Bool := if cDirMode h = 0 then false else if cDirMode h = 1 then true else d.dir
        let reversal : Bool := n.anyTick && !entering && decide (dir ≠ n.dir)
        let format : Bool := !entering && n.leadHalf.elim false fun old => formatDiffers old h
        let clear : Bool := reversal || format || n.pllClear || frameEnd
        let left (g : Fin 2) : Nat := match vget n.ramp g with
          | some r => if r ≠ s.rampUse h g then 2 else vget n.settleLeft g
          | none => vget n.settleLeft g
        let hs := (vget u.ctx (if timed h = true ∧ 1 ≤ e ∧ e ≤ 3 then cServe h e else c)).active
        let win : Option (Nat × Nat) :=
          if n.shut = true ∨ n.biasedLt = false ∨ 65536 < u.tb - n.lastTb then none
          else if cShutMode hs = true then
            if Nat.max (n.lastTb + 24) (u.tb - Nat.max (cShutNs hs) 16) < u.tb then some (Nat.max (n.lastTb + 24) (u.tb - Nat.max (cShutNs hs) 16), u.tb) else none
          else if u.tb - n.lastTb < Nat.max (cShutNs hs) 24 + 16 then none else some (n.lastTb + Nat.max (cShutNs hs) 24, u.tb)
        let ns := win.elim 0 fun w => w.2 - w.1
        let phase := (k - (if entering then k else n.enterAt)) % Nat.max 1 (cFramePer h)
        let w : TickWork :=
          { half := h, dir := dir, entry := e, clear := clear, settling := fun g => decide (left g ≠ 0),
            ramp := Vector.ofFn fun i => { code := { au := cAu h, table := vget (vget n.tables (finOf 2 i.val)) (cTable h (finOf 2 i.val)) }, trim := (vget n.rchar i).trim },
            window := win, dark := Vector.ofFn fun y => darkMilli (vget s.chore.temps y) ns, light := light, frame := decide (m = .frame),
            handOver := decide (phase = 0), adding := decide (cFramePer h - cFrameExp h ≤ phase) }
        u.sensor.pos = d.pos.getD (match n.leadHalf with
            | none => 0
            | some o => if s.startsMode k = true ∨ sequenceDiffers o h = true then 0 else finOf 16 ((n.pos.val + 1) % cSeqLen h))
        ∧ u.sensor.dir = dir ∧ u.sensor.reversals = (if reversal then satInc n.reversals else n.reversals)
        ∧ u.sensor.formatChanges = (if format then satInc n.formatChanges else n.formatChanges)
        ∧ (∀ g, vget u.sensor.settleLeft g = left g - 1 ∧ vget u.sensor.ramp g = some (s.rampUse h g))
        ∧ u.sensor.rows = arrayStep w s.nvm.qH s.nvm.qL (if entering || frameEnd then n.rows.map Row.wipe else n.rows) (vget n.maps u.sensor.activeSet)
        ∧ u.sensor.marks.format = (if format then Nat.max n.marks.format (k + 1) else n.marks.format)
        ∧ u.sensor.marks.overspeed = (if d.slip then Nat.max n.marks.overspeed (k + 1) else n.marks.overspeed)
        ∧ u.sensor.marks.pll = (if n.pllClear then Nat.max n.marks.pll (k + 1) else n.marks.pll)
        ∧ (entering = false → u.sensor.marks.void = (if reversal || frameEnd then Nat.max n.marks.void (k + 1) else n.marks.void))
        ∧ (leaving = true → u.sensor.exit = none ∧ u.sensor.dropTo = k + 1)
        ∧ (stays → m = .frame → cStageCount h ≤ phase → u.sensor.exit = none)
        ∧ (stays → k < 255 → u.sensor.exit = none)
        ∧ (stays → 255 ≤ k → n.dropTo ≤ k - 255 → (m = .frame → phase < cStageCount h) →
            let row := vget u.sensor.rows (if dir then 0 else 255)
            ∃ y, u.sensor.exit = some y ∧ y.line = k - 255 ∧ y.exitTick = k ∧ y.exitTb = u.tb ∧ y.lead = c ∧ y.dir = dir ∧ y.mode = m.code
              ∧ y.frameRow = (if m = .frame then some phase else none) ∧ y.cells = row.walk ∧ y.refs = row.refs ∧ y.settle = row.settle ∧ y.refBad = row.refBad
              ∧ vget y.half 0 = h ∧ vget y.serve 0 = c
              ∧ (∀ f : Fin 4, f ≠ 0 → let z := if timed h = true then cServe h f.val else c
                  vget y.serve f = z ∧ vget y.half f = (vget u.ctx z).active)
              ∧ bit y.flags 0 = decide (k - 255 < u.sensor.marks.void) ∧ bit y.flags 1 = decide (k - 255 < u.sensor.marks.overspeed)
              ∧ bit y.flags 2 = decide (k - 255 < u.sensor.marks.format) ∧ bit y.flags 4 = decide (k - 255 < u.sensor.marks.pll)
              ∧ bit y.flags 5 = decide (k - 255 < u.sensor.marks.sync) ∧ bit y.flags 7 = decide (row.settle ≠ 0) ∧ bit y.flags 3 = false))
      ∧ (stays → s.mode.mode ≠ .maint → (∀ p, s.mode.pending = some p → p.target ≠ .maint) →
        let may (l : Formatted) : Bool := !(bit l.flags 0 || bit l.flags 2 || bit l.flags 4 || bit l.flags 5) && cJobEn (vget l.line.half 0)
          && decide ((if s.isSmall then cJobMask (vget l.line.half 0) % 256 else cJobMask (vget l.line.half 0)) ≠ 0)
        let given (b : BayIx) : List LineJob := match s.groom.back with
          | some l =>
            let h := vget l.line.half 0
            let job (seg : BayIx) : LineJob :=
              { line := l.line.line, seg := seg, kslot := cJobKslot h, asid := cJobAsid h, ctx := l.line.lead, fields := finOf 4 (l.feed.length - 1),
                left := cJobDeadline h - 1 }
            if may l && (cJobMask h).testBit (b.val / 8) then
              if s.isSmall then (if b.val < 64 then [job b, job (finOf 128 (b.val + 64))] else []) else [job b]
            else []
          | none => []
        (∀ l, s.groom.back = some l → may l = true →
            u.det.ring = ({ line := l.line.line, fields := finOf 4 (l.feed.length - 1), values := l.feed } :: s.det.ring).take 16)
        ∧ (s.groom.back = none → u.det.ring = s.det.ring)
        ∧ ∀ b : BayIx, s.hasBay b = true →
          let y := vget s.det.bays b
          let z := vget u.det.bays b
          let stay : List LineJob := (y.queue.filter fun j => j.left ≠ 0).map fun j => { j with left := j.left - 1 }
          (∀ j, y.work = .line j → j.left ≠ 0 → z.work = .line { j with left := j.left - 1 } ∧ z.queue = stay ++ given b ∧ z.regs = y.regs)
          ∧ (∀ j, y.work = .deep j → z.work = .saving j .preempt ∧ z.queue = stay ++ given b ∧ z.regs = y.regs)
          ∧ ((∀ j ∈ y.queue, j.left ≠ 0) → (∀ j, y.work = .line j → j.left ≠ 0) → z.missed = y.missed)
          ∧ (∀ j, y.work = .line j → j.left = 0 → y.queue = [] → z.missed = satInc y.missed
              ∧ .incomplete j.line j.seg b (y.regs.kernel.extractLsb' 0 16) ∈ u.det.flawOut)
          ∧ (∀ j js, (y.work = .idle ∨ ∃ i, y.work = .restoring i) → stay ++ given b = j :: js →
              z.work = .line j ∧ z.queue = js ∧ z.regs = startRegs (s.kernelEntry j.kslot) j.kslot j.line)))
  ∧ (∀ (w : TickWork) (qH qL : Strip Nat) (before : Vector Row 256) (map : MapSet) (r : Fin 256) (col : Nat) (z o : Cell) (code v q : Nat) (ov : Bool),
    let inW := inWindow w.half (stageOf w.dir r.val)
    let g := rowGain w.half r.val
    let ramp := vget w.ramp (finOf 16 (2 * (col / 2048) + g.val))
    let from_ : Row := if stageOf w.dir r.val = 0 then Row.clear else vget before (finOf 256 (if w.dir then r.val + 1 else r.val - 1))
    let y := vget (arrayStep w qH qL before map) r
    let got (x : Cell) : Prop := stripGet? y.walk col = some x
    let skip : Prop := cFmt w.half ≠ 0 ∧ cRowGroup w.half = false ∧ w.entry = 4
    let seen : Cell := { z with ovr := z.ovr + if ov then 1 else 0 }
    let adds : Prop := inW = true ∧ w.clear = false ∧ w.settling g = false ∧ ¬ skip
    let own := if cRowGroup w.half = true then cRowField w.half (r.val / 32) else w.entry
    let fo := code / 2 % 4
    let f : Fin 4 := if cFmt w.half = 0 then 0 else finOf 4 (if fo = 0 then own else if fo = 1 then 0 else if fo = 2 then 1 else cFo3 w.half)
    col < 16384 → stripGet? from_.walk col = some z → stripGet? (vget before r).expo col = some o →
    stripGet? (vget (map.getD (Vector.replicate 256 [(16384, 0)])) r) col = some code → stripGet? (convertRow w r.val) col = some (v, ov) →
    (stripGet? (lightStrip w.light w.window r.val 0 16384) col = some q →
      (v, ov) = latchOf g ramp.code.au ramp.code.table ramp.trim
        ((Nat.min (q + vget w.dark (finOf 8 (col / 2048))) (fullWell g) : Nat) + 1000 * (cPed w.half g : Int)))
    ∧ (w.frame = false →
      (inW = false → got (if w.clear then Cell.clear else z))
      ∧ (inW = true → w.clear = true → got { Cell.clear with ovr := if ov then 1 else 0 })
      ∧ (inW = true → w.clear = false → (w.settling g = true ∨ skip) → got seen)
      ∧ (adds → code % 2 = 1 → got { seen with masked := z.masked + 1 })
      ∧ (adds → code % 2 = 0 → ∃ t, got t ∧ t.ovr = seen.ovr ∧ t.masked = z.masked
          ∧ (∀ i, vget t.hg i = vget z.hg i + if i = f ∧ g = 0 then 1 else 0) ∧ (∀ i, vget t.lg i = vget z.lg i + if i = f ∧ g = 1 then 1 else 0)
          ∧ (cFmt w.half = 0 → field t.acc 23 0 = (field z.acc 23 0 + v) % 2 ^ 24 ∧ bit t.acc 24 = (bit z.acc 24 || ov) ∧ field t.acc 47 25 = field z.acc 47 25)
          ∧ (cFmt w.half = 1 → f.val < 2 → let part (x : Cell) (i : Nat) := (x.acc.extractLsb' (24 * i) 24).toNat
              part t f.val = (if ov = true ∨ part z f.val = 0xFFFFFF then 0xFFFFFF else Nat.min (part z f.val + v) 0xFFFFFF)
              ∧ part t (1 - f.val) = part z (1 - f.val))
          ∧ (2 ≤ cFmt w.half → let part (x : Cell) (i : Nat) := (x.acc.extractLsb' (12 * i) 12).toNat
              part t f.val = (if ov = true ∨ part z f.val = 0xFFF then 0xFFF else Nat.min (part z f.val + (rhe v (cPreshift w.half)).toNat) 0xFFF)
              ∧ ∀ i, i < 4 → i ≠ f.val → part t i = part z i)))
    ∧ (w.frame = true → w.clear = false →
      (w.handOver = true → inW = true → got { o with acc := o.acc <<< 24 })
      ∧ (w.handOver = false → got z)
      ∧ (w.handOver = false → (w.adding = false ∨ inW = false) → y.expo = (vget before r).expo)
      ∧ (w.handOver = false → w.adding = true → inW = true → w.settling g = false → code % 2 = 0 →
          ∃ t, stripGet? y.expo col = some t ∧ t.ovr = (o.ovr + if ov then 1 else 0)
            ∧ field t.acc 23 0 = (if ov = true ∨ field o.acc 23 0 = 0xFFFFFF then 0xFFFFFF else Nat.min (field o.acc 23 0 + v) 0xFFFFFF))))
  ∧ (∀ (g : Fin 2) (tab : Option CodeTable) (trim x : Int) (i : Nat), (∀ a b, a ≤ b → b < 256 → notBelow g tab trim x a = true → notBelow g tab trim x b = true) →
      (i < 256 → notBelow g tab trim x i = true → (∀ j, j < i → notBelow g tab trim x j = false) → rampStep g tab trim x = i)
      ∧ ((∀ j, j < 256 → notBelow g tab trim x j = false) → rampStep g tab trim x = 256))
  ∧ ∀ ns, darkMilli 25 ns = (rheDiv (2 * ns) 1000000).toNat ∧ darkMilli 38 ns = (rheDiv (8 * ns) 1000000).toNat

/-- R141–R148, R151, R153, R231, R233: what follows the array. In GROOM-F a line is decoded, normalised and its defective columns replaced, and the ramps are characterised; in
GROOM-B it is merged, binned and formatted and joins its statistics frames, which end at their length or where the next line begins new ones; in COMPOSE a
LINE stream gets the segments of its field and a FLAW stream the queued records. Each stage computes the value that the manual gives.
Where the manual leaves a choice it follows log entries 65, 70 and 107. -/
def Obligations.GroomingStatisticsAndPackets : Prop :=
  (∀ (s : State) (light : List LightTerm) (d : DueTick) (rest : List DueTick), s.tick.due = d :: rest → s.ticksMayFire = true →
    s.sync.joinAt = none → s.mode.pending = none → s.groom.resetDue = false →
    ∃ u, exec (.lineTick light) s = .next u
      ∧ (s.groom.link = none → u.groom.front = none ∧ u.sensor.rchar = s.sensor.rchar) ∧ (s.groom.front = none → u.groom.back = none)
      ∧ (∀ x, s.groom.link = some x → ∃ g, u.groom.front = some g ∧ u.groom.prev = some g ∧ g.line = x
          ∧ g.flags = setBit x.flags 3 (bit x.flags 3 || s.sensor.lastValid.elim true fun l => decide (l.1 + 100000000 < x.exitTb))
          ∧ g.fields = (List.range (cFields (vget x.half 0))).map (fun f => groomField s.groom s.sensor.rchar x (prevFor s.groom.prev x (finOf 4 f)) (finOf 4 f))
          ∧ ∀ i, vget u.sensor.rchar i = (characterise s.nvm.qH s.nvm.qL x g.flags i (vget s.sensor.rchar i)).1)
      ∧ (∀ g, s.groom.front = some g →
          let merged := mergeFields (vget (vget s.sensor.tables 0) (cTable (vget g.line.half 0) 0)) g.line g.fields
          ∃ l, u.groom.back = some l ∧ l.line = g.line ∧ l.flags = g.flags
            ∧ l.feed = merged.zipIdx.map (fun p => stripNorm (stripMap (outU16 (vget g.line.half (finOf 4 p.2))) p.1))
            ∧ l.codes = merged.zipIdx.map (fun p => formatField s.groom (vget g.line.half (finOf 4 p.2)) p.1)
            ∧ u.groom.history = ((g.line.line, g.flags) :: s.groom.history).take 64
            ∧ ∀ f ∈ lineFields g.line,
              let old : Frame := if g.line.opens then Frame.begin_ g.line f else (vget s.groom.frames f).getD (Frame.begin_ g.line f)
              let fr := old.add g.flags (cOfmt (vget g.line.half f)) g.line.cells (l.codes[f.val]?.getD []) (l.unrep[f.val]?.getD 0)
              let ends : Prop := g.line.cuts s.groom.link = true ∨ fr.target ≤ fr.lines
              (¬ ends → vget u.groom.frames f = some fr)
              ∧ (ends → vget u.groom.frames f = none
                ∧ (fr.enabled = true → ∃ z ∈ u.groom.stats, z.frame = fr ∧ z.fld = f ∧ z.next = 0 ∧ z.short = decide (fr.lines < fr.target)
                    ∧ (g.line.opens = false → z.number = (vget s.ctx fr.ctx).frame))
                ∧ (g.line.opens = false → (vget u.ctx fr.ctx).frame = (vget s.ctx fr.ctx).frame + 1)))
      ∧ (∀ (k : StreamIx) (p : PortIx),
          let y := vget s.port.stream k
          let q := vget s.port.port p
          bit y.cfg 31 = true → field y.cfg 28 27 = p.val → (∀ j, j ≠ k → bit (vget s.port.stream j).cfg 31 = false) → y.due = [] → y.exitDue = none →
          q.state = .running → s.hasPort p = true → q.composed = [] → q.sealedOut = [] → q.fifo = [] →
          (∀ l, s.groom.back = some l → l.line.disconts = []) →
          let port := vget u.port.port p
          let sent (ps : List Packet) : Prop := port.composed = ps.map (fun z => { z with composedTb := u.tb })
            ∧ (vget u.port.stream k).seq = y.seq + BitVec.ofNat 16 ps.length
          (∀ l, field y.cfg 30 29 = 0 → s.groom.back = some l → 3 ≤ l.line.mode.toNat → y.notProduced = none → y.truncated = none →
            let f : Fin 4 := finOf 4 (field y.cfg 26 25)
            (f.val < cFields (vget l.line.half 0) → cOfmt (vget l.line.half f) ≠ 3 → lineBytes l f ≤ 262144 →
              sent (linePackets k.val y.seq.toNat l f false s.stringPos (s.sync.geo.extractLsb' 0 19)))
            ∧ (cFields (vget l.line.half 0) ≤ f.val → sent [] ∧ (vget u.port.stream k).notProduced = some (1, l.line.line)))
          ∧ (field y.cfg 30 29 = 1 → s.det.flawLost = 0 → s.det.flawOut ≠ [] →
            sent (flawPackets k.val y.seq.toNat (s.groom.back.elim 0 fun l => l.line.line) s.det.flawOut.length
              (s.det.flawOut.map (flawBytes s.stringPos (s.sync.geo.extractLsb' 0 19) s.flagsOf))))))
  ∧ (∀ (h : CtxHalf) (rescale defect : Bool) (nom : Nat) (tab : Int × Nat) (ofs : Int × Int) (c : Cell), cFmt h = 0 → bit c.acc 24 = false →
      let raw : Int := field c.acc 23 0
      let au : Int := 8 / 2 ^ (cAu h).val
      let nh : Int := (vget c.hg 0 : Nat)
      let nl : Int := (vget c.lg 0 : Nat)
      let x : Int := 4096 * raw - nh * au * (4096 * cPed h 0 + ofs.1) - nl * au * (4096 * cPed h 1 + ofs.2) - 16 * (nh + nl) * tab.1
      let y : Int := if rescale = true ∧ 0 < nh + nl ∧ nh + nl < nom then rheDiv (x * nom) (16 * (nh + nl)) else rhe x 4
      normPix h rescale nom false 0 defect tab ofs c = { v := rhe (y * tab.2) 14, sat := false, unrep := false, bad := defect || decide (nh + nl = 0) })
  ∧ (∀ (h : CtxHalf) (rescale defect frame : Bool) (nom : Nat) (f : Fin 4) (tab : Int × Nat) (ofs : Int × Int) (c : Cell),
      ((cFmt h = 0 ∧ frame = false ∧ bit c.acc 24 = true) ∨ (cFmt h = 0 ∧ frame = true ∧ field c.acc 47 24 = 0xFFFFFF)
        ∨ (cFmt h = 1 ∧ c.acc.extractLsb' (24 * f.val) 24 = 0xFFFFFF#24) ∨ (2 ≤ cFmt h ∧ c.acc.extractLsb' (12 * f.val) 12 = 0xFFF#12)) →
      normPix h rescale nom frame f defect tab ofs c = { v := 0, sat := true, unrep := false, bad := defect || decide (vget c.hg f + vget c.lg f = 0) })
  ∧ (∀ (x a b e g : Pix) (o : Option Pix), let ok (p : Pix) : Prop := p.bad = false ∧ p.sat = false
      (x.bad = false ∨ x.sat = true → ∀ p2 p1 r1 r2, replace p2 p1 (x, o) r1 r2 = x)
      ∧ (x.bad = true → x.sat = false → replace none none (x, o) none none = { x with v := 0, unrep := true })
      ∧ (x.bad = true → x.sat = false → ok a → ok b → ok e → ok g →
          replace (some (b, none)) (some (a, none)) (x, none) (some (e, none)) (some (g, none)) = { x with v := if (e.v - g.v).natAbs < (a.v - b.v).natAbs then e.v else a.v }
          ∧ replace (some (b, none)) (some (a, none)) (x, none) none none = { x with v := a.v })
      ∧ (∀ pa pe po, x.bad = true → x.sat = false → ok a → ok e → ok pa → ok pe → po.sat = false → po.unrep = false →
          replace none (some (a, some pa)) (x, some po) (some (e, some pe)) none = { x with v := po.v }))
  ∧ (∀ (h : CtxHalf) (na nb fs : Nat) (a b : Pix), 0 < na → 0 < nb → 0 < fs → cKneeLo h < cKneeHi h →
      let au : Int := 2 ^ (cAu h).val
      let lo : Int := 8 * cKneeLo h * na * fs
      let hi : Int := 8 * cKneeHi h * na * fs
      let low : Int := rheDiv (au * a.v * 256) (8 * na * 2 ^ cMshift h)
      let high : Int := rheDiv (au * b.v * 256) (8 * nb * 2 ^ cMshift h)
      (b.sat = true → (mergePix h na nb fs a b).sat = true ∧ (mergePix h na nb fs a b).v = 0xFFFFF * 256)
      ∧ (b.sat = false → a.sat = false → 1000 * au * a.v ≤ lo → low ≤ 0xFFFFF * 256 → (mergePix h na nb fs a b).sat = false ∧ (mergePix h na nb fs a b).v = low)
      ∧ (b.sat = false → (a.sat = true ∨ hi ≤ 1000 * au * a.v) → high ≤ 0xFFFFF * 256 → (mergePix h na nb fs a b).sat = false ∧ (mergePix h na nb fs a b).v = high))
  ∧ (∀ (h : CtxHalf) (lut : Strip Nat) (p : Pix) (u : Nat),
      (p.sat = true → outU16 h p = 65535)
      ∧ (p.sat = false → outU16 h p = (max 0 (min 65535 (rhe (p.v * cOscale h) (8 + cOshift h) + cOblack h))).toNat)
      ∧ (cOfmt h ≠ 1 → cOfmt h ≠ 2 → outCode h lut u = u) ∧ (cOfmt h = 2 → ∀ n, stripGet? lut (u / 16) = some n → outCode h lut u = n)
      ∧ (cOfmt h = 1 → u ≤ 65535 → ∃ r, outCode h lut u = Nat.min 4095 r ∧ (2 * r - 1) * (2 * r - 1) ≤ 1024 * u ∧ 1024 * u < (2 * r + 1) * (2 * r + 1)))
  ∧ (∀ (fr : Frame) (flags : BitVec 9) (ofmt n unrep : Nat) (cells : Strip Cell) (c : Code),
      let ov := Nat.min (fr.satConv + (cells.map fun p => p.1 * p.2.ovr).sum) 0xFFFFFFFF
      let mk := Nat.min (fr.masked + (cells.map fun p => p.1 * p.2.masked).sum) 0xFFFFFFFF
      let b : Fin 256 := finOf 256 (if ofmt = 1 then c.code / 16 else if ofmt = 2 then c.code else c.u / 256)
      ((bit flags 0 = true ∨ bit flags 2 = true ∨ bit flags 4 = true ∨ bit flags 5 = true) →
        fr.add flags ofmt cells [(n, c)] unrep = { fr with lines := fr.lines + 1, satConv := ov, masked := mk })
      ∧ (bit flags 0 = false → bit flags 2 = false → bit flags 4 = false → bit flags 5 = false →
        fr.add flags ofmt cells [(n, c)] unrep = { fr with
          lines := fr.lines + 1, satConv := ov, masked := mk, included := fr.included + 1, hist := vset fr.hist b (Nat.min (vget fr.hist b + n) 0xFFFFFFFF),
          lo := Nat.min fr.lo c.code, hi := Nat.max fr.hi c.code, satPix := Nat.min (fr.satPix + if c.sat then n else 0) 0xFFFFFFFF,
          unrepl := Nat.min (fr.unrepl + unrep) 0xFFFFFFFF, sums := (fr.add flags ofmt cells [(n, c)] unrep).sums }
        ∧ (fr.colStat = false → (fr.add flags ofmt cells [(n, c)] unrep).sums = fr.sums)
        ∧ (fr.colStat = true → ∀ i t, i < n → stripGet? fr.sums i = some t →
            stripGet? (fr.add flags ofmt cells [(n, c)] unrep).sums i = some (t.1 + c.code, t.2 + c.code * c.code))))
  ∧ ∀ (stream seq i : Nat) (x : Formatted) (f : Fin 4) (trunc : Bool) (pos : BitVec 5) (ofs : BitVec 19) (z : Packet),
      (linePackets stream seq x f trunc pos ofs)[i]? = some z →
      z.header = packetHeader 1 stream (seq + i) x.line.line (z.payload.length / 32)
          (lineSpec i (field x.flags 5 0 + if trunc then 64 else 0) x.line.settle (vget x.line.serve f) pos ofs)
        ∧ (cOfmt (vget x.line.half f) = 0 → z.payload = ((((stripExpand (x.codes[f.val]?.getD [])).map (·.code)).drop (4096 * i)).take 4096).flatMap (bytesLe 2))
        ∧ (cOfmt (vget x.line.half f) = 2 →
            z.payload = ((((stripExpand (x.codes[f.val]?.getD [])).map (·.code)).drop (4096 * i)).take 4096).map (BitVec.ofNat 8))

/-- R37, R50, R92, R96, R98, R139, R275, R323, R328: the ends of what waits. A timed transition that can end brings its mode and answers; an entry without a tick
for 10 s, a lock that outlasts 1 ms and a capture without a tick for 10 s time out; a capture whose lines are written is answered; a map
load ends; the shutter gate closes; a held commit is written to MRAM. While the control processor is halted no timed transition ends.
Where the manual leaves a choice it follows log entries 17, 35, 77 and 83. -/
def Obligations.ModeAndCaptureEventsComplete : Prop :=
  ∀ (s : State) (t : Nat) (p : Pending) (slot : Slot) (us : BitVec 16) (c : Capture) (k : Fin 64) (st : Nat) (w : CtxWork) (x : CtxIx),
    let y := s.atTb t
    (s.dbg.cpHalted = true → exec (.modeTransitionDone t) s = .next y.newStep)
    ∧ (s.mode.pending = some p → p.phase = .timed → s.timedReady p = true → p.deep = false → s.sync.switch = none → s.dbg.cpHalted = false →
      (p.target = .standby ∨ p.target = .ready ∨ (p.target = .maint ∧ s.mode.leaving = false)) → ∃ u, exec (.modeTransitionDone t) s = .next u
        ∧ u.mode.mode = p.target ∧ u.mode.pending = none ∧ u.mode.cause = p.cause ∧ u.mode.role = p.role ∧ u.mem = s.mem
        ∧ (p.target = .ready → u.sensor.biased = true ∧ u.mode.nextLead = some p.ctx ∧ u.mode.owner = none)
        ∧ (p.target = .standby → u.sensor.biased = false ∧ u.tick.due = [])
        ∧ (p.target = .maint → u.mode.owner = p.slot ∧ u.tick.due = [])
        ∧ (p.slot = some slot → hostWf s.host.bytes = true →
            hostGet u.host.bytes (slotAddr slot + 0x0C) = 0 ∧ bit u.host.done slot.val = true))
    ∧ (s.mode.pending = some p → p.phase = .timed → s.timedReady p = true → p.target = .standby → p.deep = true → s.mode.mode = .standby →
        s.mode.deep = false → s.sync.switch = none → s.dbg.cpHalted = false → ∃ u, exec (.modeTransitionDone t) s = .next u ∧ u.mode.deep = true ∧ u.tbRun = false
          ∧ u.mode.mode = .standby ∧ u.mode.pending = none ∧ vget u.clk.lock 0 = false)
    ∧ (s.mode.pending = some p → p.phase = .enter st → p.since + 10000000000 ≤ y.tb → (s.sensor.anyTick = false ∨ s.sensor.lastTb ≤ p.since) →
        p.slot = some slot → s.dbg.cpHalted = false → s.sync.switch = none →
        exec (.modeSetTimeout t) s = .next ((y.setPending none).writeAnswer slot 7 [] []))
    ∧ (s.mode.pending = some p → p.phase = .enter st → p.since < s.sensor.lastTb → s.sensor.anyTick = true → exec (.modeSetTimeout t) s = .next y)
    ∧ (vget s.host.waits slot = some (.ctxLocked x w) → s.dbg.cpHalted = false →
        exec (.ctxLockTimeout slot) s = .next (s.writeAnswer slot 6 [] []))
    ∧ (s.cap = some c → vget s.host.waits c.slot = some .calCapture → s.dbg.cpHalted = false →
        (c.lines ≤ c.done_ → exec .calCaptureDone s = .next (State.writeAnswer { s with cap := none } c.slot 0 (bytesBe 4 c.done_) []))
        ∧ (c.done_ < c.lines → Nat.max c.since s.sensor.lastTb + 10000000000 ≤ y.tb →
            exec (.calCaptureTimeout t) s = .next (State.writeAnswer { y with cap := none } c.slot 7 (bytesBe 4 c.done_) [])))
    ∧ (s.sensor.loading = true → s.hbmDown = false → s.host.phase ≠ 0 → exec (.mapShadowLoadDone us) s =
        .next { s with sensor := { s.sensor with loading := false, shadowValid := true, loadUs := us } })
    ∧ (s.sensor.biased = true → s.sensor.biasedLt = true → s.sensor.lastTb + 65536 ≤ y.tb →
        exec (.shutterTimeout t) s = .next { y with sensor := { s.sensor with shut := true } })
    ∧ (NvItem.storedCtx k ∈ s.nvm.dirty → ∃ l, exec (.nvmDeferredWrite (.storedCtx k)) s = .next { s with nvm := { s.nvm with
          storedCopy := vset s.nvm.storedCopy k (vget s.nvm.stored k), dirty := l } }
        ∧ ∀ i, i ∈ l ↔ i ∈ s.nvm.dirty ∧ i ≠ .storedCtx k)

/-- R26, R27, R29, R30, R211, R324, R328, R329, R330, R368, R390, R401: the chores of a hub out of reset, each of which completes. A yard sample that is due is kept
and sets the warning; a scrub step of a hayloft bank or of MRAM counts and marks what it finds; a forced refresh counts; the flush moves
the log buffer to MRAM in order, as many audit entries as a second may take; a snapshot is logged; a band check marks MARGIN; flaw
credits refill to 65,536; a chore past its age limit is stale and reports CHORE.
Where the manual leaves a choice it follows log entries 42, 69, 93 and 108. -/
def Obligations.ChoresTakeTheirUnit : Prop :=
  ∀ (s : State) (t : Nat) (temps : Vector Byte 8) (bank : Fin 16) (found : ScrubFind) (q : PllIx) (inside forced : Bool) (n : Fin 9),
    s.host.phase ≠ 0 →
    let y := s.atTb t
    let credits (x : Nat) : Nat := x * 2048 / 1000000000
    (s.tbRun = true → s.tempDue y.tb = true → ∃ u, exec (.yardTempSample t temps) s = .next u ∧ u.chore.temps = temps ∧ u.chore.tempTb = some y.tb
      ∧ bit u.flt.stale 1 = false ∧ u.mem = s.mem ∧ (∀ i, 60 ≤ (vget temps i).toInt → bit u.flt.cls 5 = true)
      ∧ (s.flt.hubWarm = false → (∀ i, (vget temps i).toInt ≤ 55) → bit u.flt.cls 5 = false))
    ∧ (∃ u, exec (.hayloftScrub t bank found) s = .next u ∧ vget u.chore.hayPos bank = vget s.chore.hayPos bank + 1
        ∧ (∀ k, k ≠ bank → vget u.chore.hayPos k = vget s.chore.hayPos k) ∧ (∀ x, u.mem.get x = s.mem.get x)
        ∧ (found = .clean → u.mem = s.mem ∧ u.chore.correctedHay = s.chore.correctedHay)
        ∧ (∀ a, found = .corrected a → u.mem = s.mem ∧ u.chore.correctedHay = satInc s.chore.correctedHay)
        ∧ ∀ a, found = .uncorrectable a → bit u.flt.cls 13 = true ∧ ∀ w, u.mem.poisoned w = (s.mem.poisoned w || decide (w = a / 8)))
    ∧ (∃ u, exec (.mramScrub t found) s = .next u ∧ u.chore.mramPos = (s.chore.mramPos + 1) % 131072 ∧ u.mem = s.mem
        ∧ (found = .clean → u.nvm = s.nvm)
        ∧ (∀ a, found = .corrected a → u.nvm = { s.nvm with corrected := satInc s.nvm.corrected })
        ∧ ∀ a, found = .uncorrectable a → bit u.flt.cls 14 = true ∧ u.nvm = { s.nvm.damage a with uncorr := satInc s.nvm.uncorr }
          ∧ (a < 0x400000 → (vget u.nvm.banks (if a < 0x200000 then 0 else 1)).invalid = true))
    ∧ exec (.hbmRefresh forced) s =
        .next (if forced then { s with chore := { s.chore with forcedRefresh := satInc s.chore.forcedRefresh } } else s)
    ∧ (∃ u, exec (.logFlush t) s = .next u ∧ u.chore.log = (splitLog s.chore.log y.auditRoom).2 ∧ u.chore.logDropped = 0 ∧ u.mem = s.mem
        ∧ bit u.flt.stale 5 = decide (64 ≤ u.chore.log.length)
        ∧ ((s.chore.log.filter LogItem.isAudit).length ≤ y.auditRoom → u.chore.log = [])
        ∧ (∀ e, s.chore.log = [.audit e] → 0 < y.auditRoom → u.nvm.audit = (e :: s.nvm.audit).take 1024 ∧ u.nvm.auditNext = s.nvm.auditNext + 1)
        ∧ (∀ e, s.chore.log = [.audit e] → y.auditRoom = 0 → u.nvm.audit = s.nvm.audit ∧ u.chore.log = [.audit e])
        ∧ (∀ tb rtc kind data, s.chore.log = [.telemetry tb rtc kind data] → s.chore.logDropped = 0 →
            ∃ e, u.nvm.telem = (e :: s.nvm.telem).take 16384 ∧ e.number = s.nvm.telemNext ∧ e.tb = tb ∧ e.rtc = rtc ∧ e.kind = kind ∧ e.data = data))
    ∧ (∃ u, exec (.telemetrySnapshot t) s = .next u ∧ u.chore.forcedRefresh = 0 ∧ u.chore.snapTb = y.tb ∧ bit u.flt.stale 6 = false ∧ u.mem = s.mem
        ∧ (s.chore.log.length < 64 → ∃ data, u.chore.log = s.chore.log ++ [.telemetry (BitVec.ofNat 64 y.tb) s.rtcWord 1 data]
            ∧ data.length = 22 ∧ data.take 8 = s.chore.temps.toList)
        ∧ (64 ≤ s.chore.log.length → u.chore.log = s.chore.log ∧ u.chore.logDropped = satInc s.chore.logDropped))
    ∧ (∃ u, exec (.pllBandCheck t q inside) s = .next u ∧ vget u.chore.bandTb q = y.tb ∧ u.mem = s.mem
        ∧ (inside = false → vget s.clk.lock q = true → bit u.clk.margin q.val = true)
        ∧ ((inside = true ∨ vget s.clk.lock q = false) → u.clk = s.clk))
    ∧ exec (.flawCreditRefill t) s = .next { y with det := { s.det with
        credits := Nat.min 65536 (s.det.credits + (credits y.tb - credits s.det.creditTb)), creditTb := y.tb } }
    ∧ (y.choreAged n = true → ∃ u, exec (.choreAgeLimit n t) s = .next u ∧ bit u.flt.stale n.val = true ∧ bit u.flt.cls 20 = true ∧ u.mem = s.mem)
    ∧ (y.choreAged n = false → exec (.choreAgeLimit n t) s = .next y)

/-- R223, R225, R236, R237, R241, R242, R244–R248: the events of a port. START of a stopped port begins the start sequence in electrical idle; the lock of its PLL brings its lanes' markers,
and the end of the sequence makes it run with STATUS and TIME composed; a stop empties it and its end leaves electrical idle; the slots move packets on by one stage; markers are sent
when every lane has sent 16,383 blocks; STATUS, TIME and IDLE are composed when due; a SEAL_SIG follows what is composed, or the end of a
pause; a block 10 ms old closes.
Where the manual leaves a choice it follows log entries 11, 38 and 87. -/
def Obligations.PortEventsMovePackets : Prop :=
  ∀ (s : State) (p : PortIx) (t rtc : Nat),
    let q := vget s.port.port p
    let y := s.atTb t
    let on (x : Port) : State := { s with port := { s.port with port := vset s.port.port p x } }
    let now (u : State) : Port := vget u.port.port p
    let pll : PllIx := finOf 6 (2 + p.val)
    let alone (u : State) : Prop := (∀ k, k ≠ p → vget u.port.port k = vget s.port.port k) ∧ u.mem = s.mem ∧ u.det = s.det
    let composed (u : State) (type : Nat) : Prop := ∃ k, (now u).composed = q.composed ++ [k] ∧ k.type = type ∧ (now u).state = .running
    (s.hasPort p = true → (s.mode.mode = .ready ∨ s.mode.mode.streaming = true) → field q.cfg 30 28 ≤ 4 → q.state = .stopped →
      bit s.flt.pfrBusy (1 + p.val) = false → ∃ u, exec (.portCfgStart p) s = .next u ∧ alone u ∧ (now u).state = .starting
        ∧ bit (now u).cfg 31 = true ∧ (now u).lit = false ∧ (now u).lfsr = (vget s.clk.portPll p).extractLsb' 16 16 ∧ (now u).fifo = []
        ∧ vget u.clk.trying pll = true ∧ vget u.clk.lock pll = false ∧ ∀ l, vget (now u).lanes l = [])
    ∧ (∀ margin, q.state = .starting → s.mayLock pll = true → s.bandFor pll = some margin → ∃ u, exec (.portPllLock p) s = .next u ∧ alone u
        ∧ (now u).state = .starting ∧ (now u).lit = true ∧ vget u.clk.lock pll = true ∧ (now u).scrambler = BitVec.allOnes 58
        ∧ ∀ l, vget (now u).lanes l = vget q.lanes l ++ [laneBits (vget (s.polarity p) l) (markerBlock p.val l.val 0)])
    ∧ (s.hasPort p = true → q.state = .running → ∃ u, exec (.portCfgStop p) s = .next u ∧ alone u ∧ (now u).state = .stopping
        ∧ bit (now u).cfg 31 = false ∧ (now u).composed = [])
    ∧ (s.hasPort p = true → q.state = .starting → exec (.portCfgStop p) s = .next (on { q with
        cfg := setBit q.cfg 31 false, stopAsked := true, startAsked := false }))
    ∧ (q.state = .starting → q.lit = true → q.stopAsked = false → ∃ u, exec (.portStartDone p t) s = .next u
        ∧ alone u ∧ (now u).state = .running ∧ bit u.flt.pfrBusy (1 + p.val) = false ∧ (now u).timeDue = false
        ∧ ∃ l a b, (now u).composed = l ++ [a, b] ∧ a.type = 4 ∧ b.type = 5)
    ∧ (q.state = .stopping → q.startAsked = false → ∃ u, exec (.portStopDone p) s = .next u ∧ alone u ∧ (now u).state = .stopped
        ∧ (now u).session = none ∧ (now u).fifo = [] ∧ vget u.clk.lock pll = false)
    ∧ (s.tbRun = true → (s.sensor.anyTick = false ∨ s.sensor.lastTb + 100000 ≤ y.tb) → q.lit = true → q.session = none →
      ∃ u, exec (.portPeriod t) s = .next u ∧ (now u).sealedOut = q.composed ∧ (now u).composed = [] ∧ (now u).sentTb = y.tb ∧ u.mem = s.mem
        ∧ ∃ left, (now u).fifo = left ++ q.sealedOut.map fun k => (k, packetBlocks k))
    ∧ (q.lit = true → 8 * 16383 ≤ q.dealt → exec (.alignmentMarker p) s = .next (on { q with
        lanes := Vector.ofFn fun l => vget q.lanes l ++ [laneBits (vget (s.polarity p) l) (markerBlock p.val l.val (vget q.bip l))],
        bip := Vector.replicate 8 0, dealt := 0 }))
    ∧ (q.dealt < 8 * 16383 → exec (.alignmentMarker p) s = .next s)
    ∧ (q.state = .running →
        (∃ u, exec (.statusDue p t) s = .next u ∧ alone u ∧ composed u 4) ∧ (∃ u, exec (.timeDue p t rtc) s = .next u ∧ alone u ∧ composed u 5)
        ∧ (q.quietTb + 100000 ≤ y.tb → ∃ u, exec (.idleDue p t) s = .next u ∧ alone u ∧ composed u 0xA))
    ∧ (∀ k, q.state = .running → q.session = some k → k.opened = true → s.sealing = true →
        (s.tack.paused = false → ∃ u g, exec (.sealSigDue p rtc) s = .next u ∧ alone u ∧ (now u).composed = [g] ∧ g.type = 8)
        ∧ (s.tack.paused = true → ∃ u, exec (.sealSigDue p rtc) s = .next u ∧ alone u ∧ now u = { q with sigDue := true }))
    ∧ (∀ k, q.session = some k → k.block ≠ [] → k.blockTb + 10000000 ≤ y.tb → ∃ u z g, exec (.sealBlockTimeout p t) s = .next u ∧ alone u
        ∧ (now u).session = some z ∧ z.block = [] ∧ z.number = k.number + 1 ∧ z.session = k.session
        ∧ (now u).sealedOut = q.sealedOut ++ [g] ∧ g.type = 7)

/-- R201, R202, R209, R213–R216, R219: carts, frames and TLBs. A good head descriptor starts, a bad one stops the cart with a record; a chunk whose bytes are reached is
copied, each byte from its source, and the progress counts; a complete descriptor takes its DONE action; RESUME and ABORT act on a stopped
cart alone; the frame of a deep job is written and read back whole, or its slot is LOST or FAULTED; an invalidation empties the TLBs of
what it covers.
Where the manual leaves a choice it follows log entries 30, 31, 85, 86, 105 and 106. -/
def Obligations.CartsFramesAndTlbs : Prop :=
  ∀ (s : State) (q : CartIx) (b : BayIx) (d : CartDesc) (raw : BitVec 256) (rest : List CartDesc) (j : Fin 4) (why : SaveWhy) (value : Word)
    (src dst : List Nat) (t1 t2 : List TlbEntry) (bus : Bool) (w : Fin 288),
    let c := vget s.det.carts q
    let on (x : Cart) : State := { s with det := { s.det with carts := vset s.det.carts q x } }
    let v := descView raw
    let y := vget s.det.bays b
    let a := 0x1000000000 + (4 * b.val + j.val) * 0x900
    let slotOf (u : State) : DeepSlot := vget (vget u.det.bays b).slots j
    (c.queue = d :: rest → d.raw = some raw → s.cartReady q = true →
      (v.bad d.poster = false → exec (.cartDescriptorStart q) s = .next (on { c with
        queue := { d with raw := some raw } :: rest, freed := false, state := .running, begun := true, prog := BitVec.ofNat 32 v.progress, dva := d.va }))
      ∧ (v.bad d.poster = true → ∃ u, exec (.cartDescriptorStart q) s = .next u
          ∧ (vget u.det.carts q).state = .stopped ∧ (vget u.det.carts q).begun = false ∧ u.det.fltRecords = s.det.fltRecords + 1 ∧ bit u.flt.cls 12 = true))
    ∧ (c.queue = d :: rest → d.raw = some raw → c.state = .running → c.begun = true →
      (c.prog.toNat < v.total → s.mem.wf = true →
        s.accessAll (s.cartRequester q d) .cartRead (s.cartTlb q) (v.chunkVas c.prog.toNat).1 = .ok (src, t1) →
        s.accessAll (s.cartRequester q d) .cartWrite t1 (v.chunkVas c.prog.toNat).2 = .ok (dst, t2) → dst.Nodup →
        ∃ u, exec (.cartChunk q) s = .next u ∧ (∀ x ∈ src.zip dst, u.mem.get x.2 = s.mem.get x.1) ∧ (∀ x, x ∉ dst → u.mem.get x = s.mem.get x)
          ∧ vget u.det.carts q = { c with prog := c.prog + BitVec.ofNat 32 (src.zip dst).length } ∧ u.det.bays = s.det.bays)
      ∧ (v.total ≤ c.prog.toNat → v.chain = false →
        let x : Cart := { c with queue := rest, begun := false, state := .idle }
        (v.done_ = 0 → exec (.cartDescriptorDone q) s = .next (on x))
        ∧ (v.done_ = 1 → exec (.cartDescriptorDone q) s = .next { on x with det := { (on x).det with cartIrq := setBit s.det.cartIrq q.val true } }))
      ∧ (v.total ≤ c.prog.toNat → v.chain = true → v.done_ = 0 → exec (.cartDescriptorDone q) s = .next (on { c with
          queue := { d with raw := none, va := d.va + 32, chained := true } :: rest, begun := false, prog := 0, dva := d.va + 32,
          state := if s.cartRouted q then .idle else .running })))
    ∧ (c.state = .stopped → exec (.cartResume q) s = .next (on { c with state := .running })
        ∧ exec (.cartAbort q) s = .next (on { c with state := .idle, queue := [], begun := false, freed := false }))
    ∧ (c.state ≠ .stopped → exec (.cartResume q) s = .next s ∧ exec (.cartAbort q) s = .next s)
    ∧ (s.host.phase ≠ 0 → s.det.tlbBusy = none → field value 3 2 ≠ 3 → exec (.tlbInvGo value) s = .next { s with det := { s.det with
        tlbInv := value &&& 0xFC#32, tlbBusy := some (value.extractLsb' 4 4, value.extractLsb' 2 2, s.det.tlbInvVa.extractLsb' 16 24) } })
    ∧ (s.host.phase ≠ 0 → field value 3 2 = 3 → ∃ u, exec (.tlbInvGo value) s = .next u ∧ bit u.flt.cls 7 = true
        ∧ u.det = { s.det with tlbInv := value &&& 0xFC#32 })
    ∧ (∀ inv, s.det.tlbBusy = some inv → ∃ bays g, exec .tlbInvDone s = .next { s with det := { s.det with tlbBusy := none, bays := bays, cartTlb := g } }
        ∧ (∀ k : BayIx, let z := vget s.det.bays k
            vget bays k = { z with tlb := z.tlb.filter fun e => !e.covered inv })
        ∧ ∀ k : Fin 4, vget g k = (vget s.det.cartTlb k).filter fun e => !e.covered inv)
    ∧ (y.work = .saving j why → (why = .preempt → s.saveWaits b = false) → s.mem.wf = true → ∃ u, exec (.saveFrameWritten b none bus) s = .next u
        ∧ (slotOf u).saves = (vget y.slots j).saves + 1 ∧ (why ≠ .fault → (slotOf u).state = .saved)
        ∧ (∀ x, (x < a ∨ a + 0x900 ≤ x) → u.mem.get x = s.mem.get x)
        ∧ (let f := frameRegs u.mem a
          (∀ i, f.getS i = y.regs.getS i) ∧ (∀ i, f.getP i = y.regs.getP i) ∧ f.v = y.regs.v ∧ f.pc = y.regs.pc &&& ~~~(3#40)
          ∧ f = { y.regs with s := f.s, p := f.p, pc := f.pc })
        ∧ ∀ k, k ≠ b → vget u.det.bays k = vget s.det.bays k)
    ∧ (y.work = .saving j .preempt → s.saveWaits b = true → exec (.saveFrameWritten b none bus) s = .next s
        ∧ exec (.saveFrameWritten b (some w) bus) s = .next s)
    ∧ (y.work = .saving j .preempt → s.saveWaits b = false → s.mem.wf = true → ∃ u, exec (.saveFrameWritten b (some w) bus) s = .next u
        ∧ (slotOf u).state = .lost ∧ (vget u.det.bays b).faults = satInc y.faults ∧ bit u.flt.cls 12 = true
        ∧ ∀ x, (x < a ∨ a + 8 * w.val ≤ x) → (x < 0x1000120000 ∨ 0x1000122000 ≤ x) → u.mem.get x = s.mem.get x)
    ∧ (y.work = .restoring j → s.mem.wf = true → (∀ i, i < 0x120 → s.mem.poisoned (a / 8 + i) = false) → ∃ u, exec (.frameRestoreDone b) s = .next u
        ∧ (vget u.det.bays b).work = .deep j ∧ (vget u.det.bays b).regs = frameRegs s.mem a ∧ (∀ x, u.mem.get x = s.mem.get x)
        ∧ (slotOf u).state = .running ∧ (vget u.det.bays b).lastSlot = some j)
    ∧ (∀ i, i < 0x120 → y.work = .restoring j → s.mem.poisoned (a / 8 + i) = true → ∃ u, exec (.frameRestoreDone b) s = .next u
        ∧ (slotOf u).state = .faulted ∧ (vget u.det.bays b).faults = satInc y.faults ∧ bit u.flt.cls 12 = true ∧ bit u.flt.cls 13 = true)

/-- R419–R425, R427–R429, R431: the debug port, whose rows all complete once all rails are good. The TAP's instructions select registers and drive the pins; with full
scope the control processor halts, steps and resumes, or is halted again by a breakpoint or a watchpoint; with bay scope the selected bay does, and another bay is selected; outside its scope a control bit
does nothing and an access is denied; an access to memory reads or writes a word.
Where the manual leaves a choice it follows log entries 28, 48 and 100. -/
def Obligations.DebugPortActsWithinItsScope : Prop :=
  ∀ (s : State) (pins : List Bool) (drive : Option (List Bool)) (value : Word) (dr : BitVec 80) (i : Fin 8) (k : Fin 4) (n : Nat) (level : Option Bool),
    let ir (v : BitVec 5) : State := { s with dbg := { s.dbg with ir := v } }
    let z : State := { ir 0x08 with sync := { s.sync with sentUp := [], sentDown := [] } }
    let b := s.dbg.baySel
    let y := vget s.det.bays b
    let bay : BayIx := (value.extractLsb' 8 7).toFin
    let only (n : Nat) : Prop := ∀ i, i ∈ [0, 1, 2, 3, 4, 5, 15] → i ≠ n → bit value i = false
    let rest (u : State) : Prop := u.mem = s.mem ∧ u.host = s.host ∧ ∀ k, k ≠ b → vget u.det.bays k = vget s.det.bays k
    s.tapUp = true →
    (exec .tapReset s = .next { s with dbg := { s.dbg with ir := 0x02, haltOnRestart := false, baySel := 0 } }
      ∧ exec (.extest drive) s = .next { s with dbg := { s.dbg with ir := 0x00, preload := drive.getD s.dbg.preload } } ∧ exec .idcode s = .next (ir 0x02) ∧ exec .clamp s = .next (ir 0x03) ∧ exec .highz s = .next (ir 0x04)
      ∧ exec (.samplePreload pins drive) s = .next { s with dbg := { s.dbg with ir := 0x01, boundary := pins, preload := drive.getD s.dbg.preload } }
      ∧ (s.dbg.ir = 0x00 ∨ s.dbg.ir = 0x03 → s.pinOut n level = s.dbg.preload[n]?) ∧ (s.dbg.ir = 0x04 → s.pinOut n level = none)
      ∧ (s.dbg.ir ≠ 0x00 → s.dbg.ir ≠ 0x03 → s.dbg.ir ≠ 0x04 → s.pinOut n level = level))
    ∧ (exec (.cpHalt value) s = .next (z.dbgCtrlWrite (setBit value 0 true)) ∧ exec (.cpResume value) s = .next (z.dbgCtrlWrite (setBit value 1 true))
      ∧ exec (.cpStep value) s = .next (z.dbgCtrlWrite (setBit value 2 true)) ∧ exec (.bayHalt value) s = .next (z.dbgCtrlWrite (setBit value 3 true))
      ∧ exec (.bayResume value) s = .next (z.dbgCtrlWrite (setBit value 4 true)) ∧ exec (.bayStep value) s = .next (z.dbgCtrlWrite (setBit value 5 true))
      ∧ exec (.selWr value) s = .next (z.dbgCtrlWrite (setBit value 15 true)))
    ∧ (s.debugScope = 1 → (only 0 → exec (.cpHalt value) s = .next z) ∧ (only 1 → exec (.cpResume value) s = .next z)
        ∧ (only 2 → exec (.cpStep value) s = .next z))
    ∧ (s.debugScope = 0 → exec (.cpHalt value) s = .next z ∧ exec (.cpResume value) s = .next z ∧ exec (.cpStep value) s = .next z
        ∧ exec (.bayHalt value) s = .next z ∧ exec (.bayResume value) s = .next z ∧ exec (.bayStep value) s = .next z ∧ exec (.selWr value) s = .next z
        ∧ ∃ u, exec (.dbgAccess dr) s = .next u ∧ u.mem = s.mem ∧ u.det = s.det ∧ field u.dbg.result 79 76 = 2)
    ∧ (s.debugScope = 2 →
        (only 0 → s.dbg.cpHalted = false → ∃ u, exec (.cpHalt value) s = .next u ∧ rest u ∧ u.dbg.cpHalted = true ∧ u.dbg.cpWhy = .request
          ∧ u.wdt.disFirst = false ∧ u.dbg.haltOnRestart = bit value 16)
        ∧ (only 2 → s.dbg.cpHalted = true → ∃ u, exec (.cpStep value) s = .next u ∧ rest u ∧ u.dbg.cpHalted = true
          ∧ (s.dbg.cpTouch = none → u.dbg.cpWhy = .step) ∧ (s.dbg.cpTouch = some k → u.dbg.cpWhy = .watchpoint ∧ u.dbg.cpIdx.toNat = k.val))
        ∧ (only 1 → s.dbg.cpHalted = true → s.dbg.cpBreak = some i → ∃ u, exec (.cpResume value) s = .next u ∧ rest u ∧ u.dbg.cpHalted = true
          ∧ u.dbg.cpWhy = .breakpoint ∧ u.dbg.cpIdx.toNat = i.val)
        ∧ (only 1 → s.dbg.cpHalted = true → s.dbg.cpBreak = none → s.dbg.cpTouch = none → s.dbg.restartHeld = false → s.host.held = [] → s.host.order = [] → exec (.cpResume value) s =
            .next { z with dbg := { z.dbg with cpHalted := false, cpWhy := .none, restartHeld := false, haltOnRestart := bit value 16 } })
        ∧ (let m := (dr.extractLsb' 32 40).toNat / 4 * 4
          m < hbmEnd → dr.extractLsb' 74 6 = 0 → s.hbmDown = false → s.mem.poisoned (m / 8) = false → s.mem.wf = true →
            (bit dr 72 = false → ∃ u, exec (.dbgAccess dr) s = .next u ∧ field u.dbg.result 79 76 = 0
              ∧ (u.dbg.result.extractLsb' 0 32).toNat = s.mem.num m 4 ∧ ∀ x, u.mem.get x = s.mem.get x)
            ∧ (bit dr 72 = true → ∃ u, exec (.dbgAccess dr) s = .next u ∧ field u.dbg.result 79 76 = 0 ∧ u.mem.num m 4 = (dr.extractLsb' 0 32).toNat
              ∧ ∀ x, (x < m ∨ m + 4 ≤ x) → u.mem.get x = s.mem.get x)))
    ∧ (1 ≤ s.debugScope →
        (only 3 → s.hasBay b = true → y.halted = false → ∃ u, exec (.bayHalt value) s = .next u ∧ rest u
          ∧ vget u.det.bays b = { y with halted := true } ∧ u.dbg.bayWhy = .request)
        ∧ (only 4 → y.halted = true → ∃ u, exec (.bayResume value) s = .next u ∧ rest u
          ∧ vget u.det.bays b = { y with halted := false, skipBrk := decide (s.dbg.bayWhy = .breakpoint) } ∧ u.dbg.bayWhy = .none)
        ∧ (only 5 → y.halted = true → State.canIssue (s.onBay b fun y => { y with halted := false, skipBrk := true }) b = true →
            ∃ u, exec (.bayStep value) s = .next u ∧ (vget u.det.bays b).halted = true)
        ∧ (only 15 → s.hasBay bay = true → b ≠ bay → ∃ u, exec (.selWr value) s = .next u ∧ rest u ∧ u.dbg.baySel = bay
          ∧ (vget u.det.bays b).halted = false))

/-- A step takes the command at the front of the queue and runs it on the state with the queue's rest. That an empty queue idles is the
model's own choice (log entry 2), as it is that no word of the table spells a command and withFetchWord leaves the state as it is (log entries 1 and 24). -/
def Obligations.StepRunsTheFrontCommand : Prop :=
  ∀ (s : State) (c : Instr) (rest : List Instr),
    (s.pending = c :: rest → step s = exec c { s with pending := rest })
    ∧ step { s with pending := c :: rest } = exec c { s with pending := rest }
    ∧ (s.pending = [] → step s = .next s)
    ∧ ∀ n w, s.withFetchWord n w = s

/-- R20, R53, R60, R91, R109, R134, R159, R251, R260, R369, R384, R400, R406, R417, R434: what the state is with no rail good. PHASE is OFF, MODE is BOOT, nothing is
pending, the registers hold the reset values of their tables, and memory lists nothing.
Where the manual leaves a choice it follows log entries 5, 19 and 20. -/
def Obligations.ResetValues : Prop :=
  let s := State.reset
  s.pending = [] ∧ s.mem.wf = true ∧ hostWf s.host.bytes = true ∧ s.mem.cells = [] ∧ (∀ a, hbmEnd / 8 ≤ a → s.mem.poisoned a = false)
  ∧ s.host.phase = 0 ∧ s.host.irqEn = 0x0007FFFF#32 ∧ s.host.ring = 0 ∧ s.host.done = 0
  ∧ s.mode.mode = .boot ∧ s.mode.pending = none ∧ (∀ i, vget s.pwr.rails i = false) ∧ s.pwr.porHeld = true
  ∧ s.flt.cls = 0 ∧ s.flt.faultN = 0x0002004F#32 ∧ s.flt.irqEn = 0x001FFFFF#32
  ∧ s.wdt.periodMs = 2000 ∧ s.wdt.disabled = false ∧ s.wdt.isOpen = false
  ∧ s.tick.cfg = 0x00000400#32 ∧ s.tick.ratio = 0x00010000#32 ∧ s.tick.per = 0x000004E2#32 ∧ s.tick.pred = 0x00100404#32
  ∧ s.sync.cfg = 0x05DC0000#32 ∧ (∀ c, (vget s.ctx c).active = CtxHalf.reset ∧ (vget s.ctx c).shadow = CtxHalf.reset)
  ∧ (∀ t, (vget s.ts.tmr t).reload = 0xFFFFFFFF#32 ∧ (vget s.ts.tmr t).cnt = 0 ∧ (vget s.ts.tmr t).run = false)
  ∧ (∀ c, (vget s.hk.conv c).ctrl = 0x000003E8#32) ∧ s.hk.chk = 0x00000010#32 ∧ s.hk.i2cCfg = 0x00200000#32
  ∧ (∀ l, vget s.port.lane l = 0x00000128#32) ∧ (∀ p, (vget s.port.port p).sealCfg = 0x80000040#32 ∧ (vget s.port.port p).state = .stopped)
  ∧ s.clk.pllbCfg = 0x00280000#32 ∧ (∀ q, vget s.clk.lock q = false) ∧ s.clk.refclkOk = false ∧ s.det.jobCfg = 0x20#32 ∧ s.dbg.ir = 0x02
  ∧ s.bkp.chgCfg = 0x00009884#32 ∧ s.bkp.canary ≠ canaryPattern

/-- R205, R211: every step keeps memory in its canonical form: listed addresses and marked words rise strictly, and no listed byte is one that memory need not list.
Where the manual leaves a choice it follows log entry 59. -/
def Obligations.StepsKeepMemoryCanonical : Prop :=
  ∀ s t : State, s.mem.wf = true → step s = .next t → t.mem.wf = true
end

