-- ==== Sys2Proof/Laws/Bits.lean ====
section
/-! SUPPORT. Laws of the vector accessors, of single bits and of byte strings. -/

namespace Sys2Proof.Machine

variable {α : Type} {n : Nat}

@[simp] theorem vget_vset_self (v : Vector α n) (i : Fin n) (x : α) : vget (vset v i x) i = x := by
  simp [vget, vset]

theorem vget_vset_ne (v : Vector α n) {i j : Fin n} (x : α) (h : i ≠ j) : vget (vset v i x) j = vget v j := by
  have : i.val ≠ j.val := fun e => h (Fin.ext e)
  simp [vget, vset, this]

theorem vget_vset (v : Vector α n) (i j : Fin n) (x : α) : vget (vset v i x) j = if i = j then x else vget v j := by
  split
  · subst_vars; simp
  · exact vget_vset_ne v x ‹_›

@[simp] theorem vmod_eq_vset (v : Vector α n) (i : Fin n) (f : α → α) : vmod v i f = vset v i (f (vget v i)) := rfl

@[simp] theorem vset_vset (v : Vector α n) (i : Fin n) (x y : α) : vset (vset v i x) i y = vset v i y := by
  apply Vector.ext
  intro k hk
  simp only [vset, Vector.getElem_set, Fin.eta]
  split <;> rfl

@[simp] theorem vset_vget (v : Vector α n) (i : Fin n) : vset v i (vget v i) = v := by
  simp [vset, vget]

@[simp] theorem bytesLe_length (k x : Nat) : (bytesLe k x).length = k := by
  induction k generalizing x with
  | zero => rfl
  | succ k ih => simp [bytesLe, ih]

@[simp] theorem bytesBe_length (k x : Nat) : (bytesBe k x).length = k := by simp [bytesBe]

/-- The little-endian bytes of a number read back as its value modulo the width. -/
theorem natLe_bytesLe (k x : Nat) : natLe (bytesLe k x) = x % 256 ^ k := by
  induction k generalizing x with
  | zero => simp [bytesLe, natLe, Nat.mod_one]
  | succ k ih =>
    have e : 256 ^ (k + 1) = 256 * 256 ^ k := by rw [Nat.pow_succ, Nat.mul_comm]
    simp only [bytesLe, natLe, ih, BitVec.toNat_ofNat, e, Nat.mod_mul]

theorem bit_setBit (x : BitVec n) (i j : Nat) (b : Bool) (hi : i < n) :
    bit (setBit x i b) j = if j = i then b else bit x j := by
  cases b <;> simp only [setBit, bit, if_true, Bool.false_eq_true, if_false, BitVec.getLsbD_or, BitVec.getLsbD_and,
    BitVec.getLsbD_not, BitVec.getLsbD_shiftLeft, BitVec.getLsbD_one] <;> by_cases h : j = i
  · subst h; simp [hi]; omega
  · by_cases hj : j < n
    · have : ¬ (j - i = 0 ∧ i ≤ j) := by omega
      by_cases h2 : j < i <;> simp_all <;> omega
    · simp [h, hj, BitVec.getLsbD_of_ge x j (by omega)]
  · subst h; simp [hi]; omega
  · by_cases h2 : j < i <;> simp_all <;> omega

end Sys2Proof.Machine
end

