-- ==== Sys2Proof/Laws/Bay.lean ====
section
/-! SUPPORT. What the issue of an instruction by a bay can do (R161, R165, R169, R425). -/

namespace Sys2Proof.Machine

variable {σ t : State} {b : BayIx} {i : Myvik}

@[simp] theorem State.getBay_onBay (s : State) (b : BayIx) (f : Bay → Bay) : (s.onBay b f).getBay b = f (s.getBay b) := by
  simp [State.onBay, State.getBay]

theorem State.getBay_onBay_ne (s : State) {b b' : BayIx} (f : Bay → Bay) (h : b ≠ b') :
    (s.onBay b f).getBay b' = s.getBay b' := by
  simp [State.onBay, State.getBay, vget_vset_ne _ _ h]

@[simp] theorem State.onBay_onBay (s : State) (b : BayIx) (f g : Bay → Bay) :
    (s.onBay b f).onBay b g = s.onBay b fun y => g (f y) := by
  simp [State.onBay]

@[simp] theorem State.getBay_ran (s : State) (b : BayIx) (q : JobRegs) : ((s.ran b q).getBay b).regs = q := by
  simp [State.ran, State.getBay]

theorem State.getBay_ran_ne (s : State) {b b' : BayIx} (q : JobRegs) (h : b ≠ b') : (s.ran b q).getBay b' = s.getBay b' := by
  simp [State.ran, State.getBay, vget_vset_ne _ _ h]

/-- An instruction that executes: the body's effect and one cycle, or its fault. -/
theorem issue_executes {body : State → Did} (h : σ.executes b) (hl : i.legal = true) :
    issue b i body σ = match body σ with
      | .fault f => .next ((σ.tickCycle b).bayFault b f 0 (myvikEncode i))
      | .done σ' touched =>
        match σ.watchAt b touched with
        | some k => .next ((σ'.tickCycle b).haltBay b .watchpoint (BitVec.ofNat 4 k.val))
        | none => .next (σ'.tickCycle b) := by
  obtain ⟨h1, h2⟩ := h
  have h3 : (if (σ.getBay b).skipBrk = true then none else σ.breakAt b (σ.getBay b).regs.pc) = none := by
    rcases h2 with h2 | h2
    · simp [h2]
    · simp only [State.regsOf] at h2; simp [h2]
  simp only [issue, h1, hl, h3]
  rfl

/-- An illegal instruction aborts the job before any effect (R169, R170). -/
theorem issue_illegal {body : State → Did} (h : σ.executes b) (hl : i.legal = false) :
    issue b i body σ = .next ((σ.tickCycle b).bayIllegal b (myvikEncode i)) := by
  obtain ⟨h1, h2⟩ := h
  have h3 : (if (σ.getBay b).skipBrk = true then none else σ.breakAt b (σ.getBay b).regs.pc) = none := by
    rcases h2 with h2 | h2
    · simp [h2]
    · simp only [State.regsOf] at h2; simp [h2]
  simp only [issue, h1, hl, h3]
  rfl

/-- A bay that cannot issue does nothing. -/
theorem issue_idle {body : State → Did} (h : σ.canIssue b = false) : issue b i body σ = .next σ := by
  simp [issue, h]

/-- An instruction of a bay always answers a next state. -/
theorem issue_next {body : State → Did} : ∃ t, issue b i body σ = .next t := by
  simp only [issue]
  split
  · exact ⟨_, rfl⟩
  · split
    · exact ⟨_, rfl⟩
    · split
      · exact ⟨_, rfl⟩
      · split
        · exact ⟨_, rfl⟩
        · split <;> exact ⟨_, rfl⟩

theorem State.watchAt_nil (s : State) (b : BayIx) : s.watchAt b [] = none := by
  simp [State.watchAt]

/-- A register instruction that executes leaves the registers that `f` gives. -/
theorem regStep_executes {f : JobRegs → JobRegs} (h : σ.executes b) (hl : i.legal = true) :
    regStep b i f σ = .next (σ.ran b (f (σ.regsOf b))) := by
  simp [regStep, issue_executes h hl, State.watchAt_nil, State.tickCycle, State.ran, State.regsOf, State.onBay, State.getBay]

/-- A legal register instruction completes with the registers `f` gives. -/
theorem runsTo_regStep {c : Instr} {f : JobRegs → JobRegs} {rel : JobRegs → JobRegs → Prop} (hc : exec c σ = regStep b i f σ)
    (h : σ.executes b) (hl : i.legal = true) (hr : rel (σ.regsOf b) (f (σ.regsOf b))) : RunsTo c σ b rel :=
  ⟨f (σ.regsOf b), by rw [hc, regStep_executes h hl], hr⟩

/-! The registers of a job. -/

variable (r : JobRegs)

theorem JobRegs.getS_setS (i j : SReg) (x : Word) : (r.setS i x).getS j = if j = i ∧ i ≠ 0 then x else r.getS j := by
  by_cases hi : i = 0
  · simp [JobRegs.setS, hi]
  · by_cases hj : j = i
    · subst hj; simp [JobRegs.setS, JobRegs.getS, hi]
    · have : i.val ≠ j.val := fun e => hj (Fin.ext e.symm)
      by_cases h0 : j = 0
      · subst h0; simp [JobRegs.getS, hj]
      · simp [JobRegs.setS, JobRegs.getS, hi, hj, h0, this]

theorem JobRegs.getP_setP (i j : PReg) (x : Word) : (r.setP i x).getP j = if j = i ∧ i ≠ 0 then x else r.getP j := by
  by_cases hi : i = 0
  · simp [JobRegs.setP, hi]
  · by_cases hj : j = i
    · subst hj; simp [JobRegs.setP, JobRegs.getP, hi]
    · have : i.val ≠ j.val := fun e => hj (Fin.ext e.symm)
      by_cases h0 : j = 0
      · subst h0; simp [JobRegs.getP, hj]
      · simp [JobRegs.setP, JobRegs.getP, hi, hj, h0, this]

/-- s0 reads 0 whatever is written to it (R162). -/
@[simp] theorem JobRegs.getS_zero : r.getS 0 = 0 := rfl

/-- p0 reads all ones whatever is written to it (R162). -/
@[simp] theorem JobRegs.getP_zero : r.getP 0 = BitVec.allOnes 32 := rfl

@[simp] theorem JobRegs.getS_advance (j : SReg) : r.advance.getS j = r.getS j := rfl
@[simp] theorem JobRegs.getP_advance (j : PReg) : r.advance.getP j = r.getP j := rfl
@[simp] theorem JobRegs.lane16_advance (v : VReg) (k : Fin 32) : r.advance.lane16 v k = r.lane16 v k := rfl

/-- A write of a scalar register changes the scalar registers alone. -/
theorem JobRegs.setS_eq (i : SReg) (x : Word) : r.setS i x = { r with s := (r.setS i x).s } := by
  unfold JobRegs.setS; split <;> rfl

theorem JobRegs.setP_eq (i : PReg) (x : Word) : r.setP i x = { r with p := (r.setP i x).p } := by
  unfold JobRegs.setP; split <;> rfl

@[simp] theorem JobRegs.setS_pc (i : SReg) (x : Word) : (r.setS i x).pc = r.pc := by unfold JobRegs.setS; split <;> rfl
@[simp] theorem JobRegs.setS_sflags (i : SReg) (x : Word) : (r.setS i x).sflags = r.sflags := by
  unfold JobRegs.setS; split <;> rfl
@[simp] theorem JobRegs.setP_pc (i : PReg) (x : Word) : (r.setP i x).pc = r.pc := by unfold JobRegs.setP; split <;> rfl

theorem hi_append (a : BitVec 8) (c : BitVec 32) : (a ++ c).extractLsb' 32 8 = a := by
  apply BitVec.eq_of_getLsbD_eq
  intro j hj
  rw [BitVec.getLsbD_extractLsb', BitVec.getLsbD_append]
  simp [hj]

theorem lo_append (a : BitVec 8) (c : BitVec 32) : (a ++ c).extractLsb' 0 32 = c := by
  apply BitVec.eq_of_getLsbD_eq
  intro j hj
  rw [BitVec.getLsbD_extractLsb', BitVec.getLsbD_append]
  simp [hj]

/-- A branch moves the PC as R166 says. -/
theorem pcMoved_pcPlus (pc : BitVec 40) (k : Int) : pcMoved pc k (pcPlus pc k) := ⟨hi_append _ _, lo_append _ _⟩

theorem JobRegs.scalarTo_setS (sd : SReg) (x f : Word) : ScalarTo sd x f r ((r.setS sd x).setSflags f).advance := by
  refine ⟨fun k => ?_, ?_, ?_⟩
  · exact JobRegs.getS_setS r sd k x
  · simp only [JobRegs.advance, JobRegs.setSflags, JobRegs.setS_pc]; exact pcMoved_pcPlus _ _
  · rw [JobRegs.setS_eq]; rfl

theorem JobRegs.scalarTo_plain (sd : SReg) (x : Word) : ScalarTo sd x 0 r (r.setS sd x).advance := by
  have h := JobRegs.scalarTo_setS r sd x 0
  have e : (r.setS sd x).setSflags 0 = r.setS sd x := by
    rw [JobRegs.setS_eq]; simp [JobRegs.setSflags]
  rwa [e] at h

theorem JobRegs.predTo_setP (pd : PReg) (x : Word) : PredTo pd x r (r.setP pd x).advance := by
  refine ⟨fun k => ?_, ?_, ?_⟩
  · exact JobRegs.getP_setP r pd k x
  · simp only [JobRegs.advance, JobRegs.setP_pc]; exact pcMoved_pcPlus _ _
  · rw [JobRegs.setP_eq]; rfl

end Sys2Proof.Machine
end

