-- ==== Sys2Proof/Laws/Commands.lean ====
section
/-! SUPPORT. The bytes of the host window, and what a command that is admitted does (R252, R264–R267). -/

namespace Sys2Proof.Machine

/-- The addresses of the listed bytes rise strictly. -/
abbrev HostRising (bs : List Host.Cell) : Prop := bs.Pairwise fun c d => c.1 < d.1

theorem hostWf_iff (bs : List Host.Cell) : hostWf bs = true ↔ HostRising bs ∧ ∀ c ∈ bs, c.2 ≠ 0 := by
  simp [hostWf]

theorem mem_hostPut {bs : List Host.Cell} {a : Nat} {b : Byte} {c : Host.Cell} (h : c ∈ hostPut bs a b) :
    c ∈ bs ∨ (c = (a, b) ∧ b ≠ 0) := by
  induction bs with
  | nil =>
    simp only [hostPut] at h
    split at h
    · simp at h
    · simp at h; exact .inr ⟨h, ‹_›⟩
  | cons d ds ih =>
    simp only [hostPut] at h
    split at h
    · rcases List.mem_cons.1 h with h | h
      · exact .inl (by simp [h])
      · rcases ih h with h | h
        · exact .inl (List.mem_cons_of_mem _ h)
        · exact .inr h
    · split at h
      · split at h
        · exact .inl (List.mem_cons_of_mem _ h)
        · rcases List.mem_cons.1 h with h | h
          · exact .inr ⟨h, ‹_›⟩
          · exact .inl (List.mem_cons_of_mem _ h)
      · split at h
        · exact .inl h
        · rcases List.mem_cons.1 h with h | h
          · exact .inr ⟨h, ‹_›⟩
          · exact .inl h

theorem hostWf_hostPut {bs : List Host.Cell} (h : hostWf bs = true) (a : Nat) (b : Byte) : hostWf (hostPut bs a b) = true := by
  rw [hostWf_iff] at *
  obtain ⟨h1, h2⟩ := h
  refine ⟨?_, fun c hc => ?_⟩
  · clear h2
    induction bs with
    | nil => simp only [hostPut]; split <;> simp
    | cons d ds ih =>
      obtain ⟨h3, h4⟩ := List.pairwise_cons.1 h1
      simp only [hostPut]
      split
      · refine List.pairwise_cons.2 ⟨fun c hc => ?_, ih h4⟩
        rcases mem_hostPut hc with hc | ⟨rfl, -⟩
        · exact h3 c hc
        · assumption
      · split
        · split
          · exact h4
          · exact List.pairwise_cons.2 ⟨fun c hc => by have := h3 c hc; simp only; omega, h4⟩
        · split
          · exact h1
          · refine List.pairwise_cons.2 ⟨fun c hc => ?_, h1⟩
            rcases List.mem_cons.1 hc with rfl | hc
            · simp only; omega
            · have := h3 c hc; simp only; omega
  · rcases mem_hostPut hc with hc | ⟨rfl, h⟩
    · exact h2 c hc
    · exact h

theorem hostGet_cons (c : Host.Cell) (cs : List Host.Cell) (a : Nat) : hostGet (c :: cs) a = if c.1 = a then c.2 else hostGet cs a := by
  simp only [hostGet, List.find?_cons]
  by_cases h : c.1 = a <;> simp [h]

theorem hostGet_of_lt {bs : List Host.Cell} {a : Nat} (h : ∀ c ∈ bs, a < c.1) : hostGet bs a = 0 := by
  have : bs.find? (fun c => c.1 = a) = none := by
    rw [List.find?_eq_none]; intro c hc; have := h c hc; simp; omega
  simp [hostGet, this]

/-- A byte of the window written reads back, and every other address reads as before. -/
theorem hostGet_hostPut {bs : List Host.Cell} (h : HostRising bs) (a : Nat) (b : Byte) (x : Nat) :
    hostGet (hostPut bs a b) x = if x = a then b else hostGet bs x := by
  induction bs with
  | nil =>
    simp only [hostPut]
    by_cases hb : b = 0
    · rw [if_pos hb]; by_cases hx : x = a <;> simp [hx, hb, hostGet]
    · rw [if_neg hb, hostGet_cons]
      by_cases hx : x = a
      · simp [hx]
      · simp [hx, Ne.symm hx]
  | cons c cs ih =>
    obtain ⟨h1, h2⟩ := List.pairwise_cons.1 h
    simp only [hostPut]
    split
    · rw [hostGet_cons, hostGet_cons, ih h2]
      by_cases hx : c.1 = x
      · have : x ≠ a := by omega
        simp [hx, this]
      · simp [hx]
    · split
      · rename_i hc
        by_cases hb : b = 0
        · rw [if_pos hb, hostGet_cons]
          by_cases hx : x = a
          · subst hx; rw [if_pos rfl, hostGet_of_lt fun d hd => by have := h1 d hd; omega, hb]
          · simp [hx, Ne.symm hx, hc]
        · rw [if_neg hb, hostGet_cons, hostGet_cons]
          by_cases hx : x = a
          · simp [hx]
          · simp [hx, Ne.symm hx, hc]
      · rename_i h3 h4
        by_cases hb : b = 0
        · rw [if_pos hb]
          by_cases hx : x = a
          · subst hx
            rw [if_pos rfl, hostGet_of_lt (fun d hd => by
              rcases List.mem_cons.1 hd with rfl | hd
              · omega
              · have := h1 d hd; omega), hb]
          · rw [if_neg hx]
        · rw [if_neg hb, hostGet_cons]
          by_cases hx : x = a
          · simp [hx]
          · simp [hx, Ne.symm hx]

theorem hostWf_hostPuts {bs : List Host.Cell} (h : hostWf bs = true) (a : Nat) (xs : List Byte) : hostWf (hostPuts bs a xs) = true := by
  induction xs generalizing bs a with
  | nil => exact h
  | cons x xs ih => exact ih (hostWf_hostPut h a x) (a + 1)

/-- Bytes written from an address on: the byte at each place in range, every other address as before. -/
theorem hostGet_hostPuts {bs : List Host.Cell} (h : hostWf bs = true) (a : Nat) (xs : List Byte) (x : Nat) :
    hostGet (hostPuts bs a xs) x = if a ≤ x then xs.getD (x - a) (hostGet bs x) else hostGet bs x := by
  induction xs generalizing bs a with
  | nil => simp [hostPuts]
  | cons y ys ih =>
    simp only [hostPuts]
    rw [ih (hostWf_hostPut h a y), hostGet_hostPut ((hostWf_iff _).1 h).1]
    by_cases h1 : x = a
    · subst h1; simp
    · by_cases h2 : a + 1 ≤ x
      · have h3 : a ≤ x := by omega
        have h4 : x - a = (x - (a + 1)) + 1 := by omega
        simp [h1, h2, h3, h4]
      · have h3 : ¬ a ≤ x := by omega
        simp [h1, h2, h3]

/-- Bytes written from an address on leave every address outside them as it was. -/
theorem hostGet_hostPuts_of_not_mem {bs : List Host.Cell} (h : hostWf bs = true) {a : Nat} {xs : List Byte} {x : Nat}
    (hx : ¬ (a ≤ x ∧ x < a + xs.length)) : hostGet (hostPuts bs a xs) x = hostGet bs x := by
  rw [hostGet_hostPuts h]
  split
  · rw [List.getD_eq_getElem?_getD, List.getElem?_eq_none (by omega)]; rfl
  · rfl

/-- A posted command writes its slot and sub-window alone. -/
theorem HostPort.post_get {p : HostPort} (h : hostWf p.bytes = true) (c : Cmd) (hp : c.payload.length ≤ 224) {x : Nat} (hx : ¬ inSlot c.slot x) :
    hostGet (p.post c).bytes x = hostGet p.bytes x := by
  simp only [inSlot, not_or] at hx
  simp only [HostPort.post]
  rw [hostGet_hostPuts_of_not_mem (hostWf_hostPuts h _ _) (by simp; omega),
    hostGet_hostPuts_of_not_mem h (by simp [Cmd.header]; omega)]

/-- Passing step 3 restarts the idle timer of the slot's session, where the command names it, and does nothing else (R294). -/
theorem State.passStep3_eq (s : State) (c : Cmd) : ∃ x,
    (x = vget s.tack.sessions c.slot
      ∨ ∃ y, vget s.tack.sessions c.slot = some y ∧ x = some { y with since := s.tack.periods, held := true })
    ∧ s.passStep3 c = { s with tack := { s.tack with sessions := vset s.tack.sessions c.slot x } } := by
  have same : ∃ x, (x = vget s.tack.sessions c.slot
      ∨ ∃ y, vget s.tack.sessions c.slot = some y ∧ x = some { y with since := s.tack.periods, held := true })
      ∧ s = { s with tack := { s.tack with sessions := vset s.tack.sessions c.slot x } } := ⟨_, .inl rfl, by simp⟩
  unfold State.passStep3
  split
  · rename_i x hx
    split
    · refine ⟨_, .inr ⟨x, ?_, rfl⟩, rfl⟩
      simp only [State.sessionOf] at hx
      split at hx
      · simp at hx
      · split at hx
        · split at hx
          · simp only [Option.some.injEq] at hx; subst hx; assumption
          · simp at hx
        · simp at hx
    · exact same
  · exact same

/-- An admitted command runs on the state in which it is posted (R264, R266). -/
theorem State.command_admits {s : State} {c : Cmd} {g : Gate} {run : Run} {modes : Mode → Bool} {ses : Option Session}
    (h : s.admits c.slot c.h g.role modes g.exempt g.audited ses) (hm : modes s.mode.mode = true → g.modes s.mode.mode = true)
    (hp : c.payload.length ≤ 224) (hb : c.bulk.length ≤ 4096) :
    ∃ u, s.posted_ u c.slot ∧ s.command c g run = .next ((run ses u).finish c.slot u false) := by
  obtain ⟨⟨h1, h2, h3, h4⟩, ⟨h5, h6, h7, h8⟩, h9, h10, h11, h12, h13⟩ := h
  have hh : c.headerOk = true := by simp [Cmd.headerOk, h5, h6, h7, h8, hp, hb]
  have hr : roleOk g ses = true := by
    rcases h11 with h11 | ⟨x, rfl, h11⟩
    · simp [roleOk, h11]
    · rcases h11 with h11 | h11 <;> simp [roleOk, h11]
  have hx : (s.busyMaint c.slot ses && !g.exempt) = false := by
    rcases h10 with h10 | h10 <;> simp [h10]
  let v : State := { s with
    sync := { s.sync with sentUp := [], sentDown := [] }, host := (s.host.post c).rung c.slot s.tb }
  obtain ⟨x, hxs, e3⟩ := State.passStep3_eq v c
  have hadm : v.admission c g = .ok ses := by
    have e1 : v.sessionOf c.slot c.h.session = some ses := by simpa [State.sessionOf, v] using h9
    have e2 : v.busyMaint c.slot ses = s.busyMaint c.slot ses := rfl
    simp [State.admission, hh, e1, e2, hx]
  have hv : s.command c g run = .next (v.accept c g run) := by
    have p0 : ¬ s.newStep.host.phase = 0 := by show ¬ s.host.phase = 0; rw [h1]; decide
    have p1 : (decide (s.newStep.host.phase = 1) || decide (s.newStep.host.phase = 2)) = false := by
      show (decide (s.host.phase = 1) || decide (s.host.phase = 2)) = false
      rw [h1]; decide
    have p2 : bit s.newStep.host.ring c.slot.val = false := h3
    have p3 : s.newStep.dbg.cpHalted = false := h2
    simp only [State.command, p0, if_false, p1, p2, p3, Bool.false_eq_true]
    rfl
  have hw : v.accept c g run = (v.passStep3 c).perform c g ses false run := by
    have e : v.host.phase = 5 := h1
    have e7 : (decide (v.host.phase = 7)) = false := by rw [e]; decide
    simp only [State.accept, e7, Bool.false_and, hadm, e]
    rfl
  have hmm : g.modes (v.passStep3 c).mode.mode = true := by rw [e3]; exact hm h12
  have hl : g.audited = true → (v.passStep3 c).logFull = false := fun hg => by rw [e3]; exact h13 hg
  refine ⟨if g.audited then
      { v.passStep3 c with host := { (v.passStep3 c).host with
        audits := vset (v.passStep3 c).host.audits c.slot (some (c.auditInfo ses)) } }
    else v.passStep3 c, ?_, ?_⟩
  · have hpost := fun y (hy : ¬ inSlot c.slot y) => HostPort.post_get (p := s.host) h4 c hp hy
    cases hg : g.audited
    · refine ⟨(s.host.post c).bytes, vget s.host.audits c.slot, x, hpost, hxs, ?_⟩
      rw [e3]
      simp [HostPort.rung, HostPort.post, v]
    · refine ⟨(s.host.post c).bytes, some (c.auditInfo ses), x, hpost, hxs, ?_⟩
      rw [e3]
      simp [HostPort.rung, HostPort.post, v]
  · rw [hv, hw]
    cases hg : g.audited
    · simp [State.perform, hg, hr, hmm]
    · have hf := hl hg
      simp only [State.perform, hg, hr, Bool.not_true, Bool.false_eq_true, if_false, if_true, Bool.true_and, hmm, Bool.and_false]
      congr 2

/-- An admitted command whose run ends in an answer. -/
theorem Replies.of {s : State} {i : Instr} {c : Cmd} {g : Gate} {run : Run} {modes : Mode → Bool} {ses : Option Session} {st : Byte}
    {payload bulk : List Byte} {eff : State → State} (hx : exec i s = s.command c g run)
    (h : s.admits c.slot c.h g.role modes g.exempt g.audited ses) (hm : modes s.mode.mode = true → g.modes s.mode.mode = true)
    (hp : c.payload.length ≤ 224) (hb : c.bulk.length ≤ 4096)
    (hr : ∀ u, s.posted_ u c.slot → (run ses u).finish c.slot u false = (eff u).writeAnswer c.slot st payload bulk) :
    Replies i s c.slot st payload bulk eff := by
  obtain ⟨u, hu, e⟩ := State.command_admits (run := run) h hm hp hb
  exact ⟨u, hu, by rw [hx, e, hr u hu]⟩

/-- An admitted command whose run ends in a wait. -/
theorem Waits.of {s : State} {i : Instr} {c : Cmd} {g : Gate} {run : Run} {modes : Mode → Bool} {ses : Option Session} {w : Wait}
    {eff : State → State} (hx : exec i s = s.command c g run)
    (h : s.admits c.slot c.h g.role modes g.exempt g.audited ses) (hm : modes s.mode.mode = true → g.modes s.mode.mode = true)
    (hp : c.payload.length ≤ 224) (hb : c.bulk.length ≤ 4096) (hr : ∀ u, s.posted_ u c.slot → run ses u = .wait w (eff u)) :
    Waits i s c.slot w eff := by
  obtain ⟨u, hu, e⟩ := State.command_admits (run := run) h hm hp hb
  refine ⟨u, hu, ?_⟩
  rw [hx, e, hr u hu]
  rfl

/-- An answer of a firmware that debug does not halt is written at once (R423). -/
theorem Result.finish_done {st : Byte} {payload bulk : List Byte} {s t : State} {slot : Slot} (h : s.dbg.cpHalted = false) :
    (Result.done st payload bulk s).finish slot t false = s.writeAnswer slot st payload bulk := by
  simp [Result.finish, State.answerBulk, h]

end Sys2Proof.Machine
end

