-- ==== Sys2Proof/Laws/Exec.lean ====
section
/-! SUPPORT. The meaning of each command, one law per constructor: proofs cite these and need not reduce `exec`. -/

namespace Sys2Proof.Machine

variable {s : State}

theorem exec_lineTick {light} : exec (.lineTick light) s = execLineTick light s := rfl
theorem exec_shutterTimeout {t} : exec (.shutterTimeout t) s = execShutterTimeout t s := rfl
theorem exec_mapShadowLoadDone {us} : exec (.mapShadowLoadDone us) s = execMapShadowLoadDone us s := rfl
theorem exec_modeTransitionDone {t} : exec (.modeTransitionDone t) s = execModeTransitionDone t s := rfl
theorem exec_modeSetTimeout {t} : exec (.modeSetTimeout t) s = execModeSetTimeout t s := rfl
theorem exec_yardTempSample {t} {temps} : exec (.yardTempSample t temps) s = execYardTempSample t temps s := rfl
theorem exec_hayloftScrub {t} {bank} {found} : exec (.hayloftScrub t bank found) s = execHayloftScrub t bank found s := rfl
theorem exec_mramScrub {t} {found} : exec (.mramScrub t found) s = execMramScrub t found s := rfl
theorem exec_hbmRefresh {forced} : exec (.hbmRefresh forced) s = execHbmRefresh forced s := rfl
theorem exec_logFlush {t} : exec (.logFlush t) s = execLogFlush t s := rfl
theorem exec_telemetrySnapshot {t} : exec (.telemetrySnapshot t) s = execTelemetrySnapshot t s := rfl
theorem exec_pllBandCheck {t} {q} {inside} : exec (.pllBandCheck t q inside) s = execPllBandCheck t q inside s := rfl
theorem exec_flawCreditRefill {t} : exec (.flawCreditRefill t) s = execFlawCreditRefill t s := rfl
theorem exec_encoderEdge {ch} {a} {b} {t} {held} : exec (.encoderEdge ch a b t held) s = execEncoderEdge ch a b t s held := rfl
theorem exec_zCapture {ch} : exec (.zCapture ch) s = execZCapture ch s := rfl
theorem exec_predictorTimeout {ch} {t} : exec (.predictorTimeout ch t) s = execPredictorTimeout ch t s := rfl
theorem exec_tickRequest {t} : exec (.tickRequest t) s = execTickRequest t s := rfl
theorem exec_tickCommit {t} : exec (.tickCommit t) s = execTickCommit t s := rfl
theorem exec_trigEdge {t} {rising} : exec (.trigEdge t rising) s = execTrigEdge t rising s := rfl
theorem exec_internalPeriod {t} : exec (.internalPeriod t) s = execInternalPeriod t s := rfl
theorem exec_ticksAllowed {t} : exec (.ticksAllowed t) s = execTicksAllowed t s := rfl
theorem exec_tick {t} {frame} : exec (.tick t frame) s = execTick t frame s := rfl
theorem exec_ctxAt {frame} : exec (.ctxAt frame) s = execCtxAt frame s := rfl
theorem exec_ctxAck {frame} : exec (.ctxAck frame) s = execCtxAck frame s := rfl
theorem exec_ctxCancelMsg {frame} : exec (.ctxCancelMsg frame) s = execCtxCancelMsg frame s := rfl
theorem exec_dreq {t2} {t3} {frame} : exec (.dreq t2 t3 frame) s = execDreq t2 t3 frame s := rfl
theorem exec_drsp {t4} {frame} : exec (.drsp t4 frame) s = execDrsp t4 frame s := rfl
theorem exec_hopMeasureDue {t1} : exec (.hopMeasureDue t1) s = execHopMeasureDue t1 s := rfl
theorem exec_enum {frame} : exec (.enum frame) s = execEnum frame s := rfl
theorem exec_enumAck {frame} : exec (.enumAck frame) s = execEnumAck frame s := rfl
theorem exec_aligned {frame} : exec (.aligned frame) s = execAligned frame s := rfl
theorem exec_lost {fromAbove} {frame} : exec (.lost fromAbove frame) s = execLost fromAbove frame s := rfl
theorem exec_joinReq {frame} : exec (.joinReq frame) s = execJoinReq frame s := rfl
theorem exec_joinAt {frame} : exec (.joinAt frame) s = execJoinAt frame s := rfl
theorem exec_syncLoss {cause} : exec (.syncLoss cause) s = execSyncLoss cause s := rfl
theorem exec_syncLinkRecovered : exec (.syncLinkRecovered) s = execSyncLinkRecovered s := rfl
theorem exec_hopSymbolLock : exec (.hopSymbolLock) s = execHopSymbolLock s := rfl
theorem exec_write {op} {addr} {data} {crc} : exec (.write op addr data crc) s = execWrite op addr data crc s := rfl
theorem exec_read {addr} {len} : exec (.read addr len) s = execRead addr len s := rfl
theorem exec_quadOn : exec (.quadOn) s = execQuadOn s := rfl
theorem exec_quadOff : exec (.quadOff) s = execQuadOff s := rfl
theorem exec_registerWrite {addr} {value} {byDebug} : exec (.registerWrite addr value byDebug) s = execRegisterWrite addr value byDebug s := rfl
theorem exec_mbxDoorbell {ring} : exec (.mbxDoorbell ring) s = execMbxDoorbell ring s := rfl
theorem exec_fltClassClear {mask} : exec (.fltClassClear mask) s = execFltClassClear mask s := rfl
theorem exec_nop {slot} {h} {data} : exec (.nop slot h data) s = execNop slot h data s := rfl
theorem exec_identify {slot} {h} : exec (.identify slot h) s = execIdentify slot h s := rfl
theorem exec_getStatus {slot} {h} : exec (.getStatus slot h) s = execGetStatus slot h s := rfl
theorem exec_fwRestart {slot} {h} : exec (.fwRestart slot h) s = execFwRestart slot h s := rfl
theorem exec_shipMode {slot} {h} : exec (.shipMode slot h) s = execShipMode slot h s := rfl
theorem exec_objChunk {slot} {h} {offset} {bulk} : exec (.objChunk slot h offset bulk) s = execObjChunk slot h offset bulk s := rfl
theorem exec_objEnd {slot} {h} : exec (.objEnd slot h) s = execObjEnd slot h s := rfl
theorem exec_objAbort {slot} {h} : exec (.objAbort slot h) s = execObjAbort slot h s := rfl
theorem exec_modeSet {slot} {h} {mode} {ctx} {opts} {start} : exec (.modeSet slot h mode ctx opts start) s = execModeSet slot h mode ctx opts start s := rfl
theorem exec_ctxSet {slot} {h} {ctx} {mask} {values} : exec (.ctxSet slot h ctx mask values) s = execCtxSet slot h ctx mask values s := rfl
theorem exec_ctxGet {slot} {h} {ctx} {half} : exec (.ctxGet slot h ctx half) s = execCtxGet slot h ctx half s := rfl
theorem exec_ctxSchedule {slot} {h} {ctx} {line} : exec (.ctxSchedule slot h ctx line) s = execCtxSchedule slot h ctx line s := rfl
theorem exec_ctxCancel {slot} {h} {ctx} : exec (.ctxCancel slot h ctx) s = execCtxCancel slot h ctx s := rfl
theorem exec_ctxLockTimeout {slot} : exec (.ctxLockTimeout slot) s = execCtxLockTimeout slot s := rfl
theorem exec_ctxStore {slot} {h} {ctx} {store} : exec (.ctxStore slot h ctx store) s = execCtxStore slot h ctx store s := rfl
theorem exec_ctxLoad {slot} {h} {store} {ctx} : exec (.ctxLoad slot h store ctx) s = execCtxLoad slot h store ctx s := rfl
theorem exec_tickSet {slot} {h} {src} {policy} {lagLimit} {trigEdge} {perNs} {velWin} {revHyst} {accMax} : exec (.tickSet slot h src policy lagLimit trigEdge perNs velWin revHyst accMax) s = execTickSet slot h src policy lagLimit trigEdge perNs velWin revHyst accMax s := rfl
theorem exec_ratioSet {slot} {h} {ratio} : exec (.ratioSet slot h ratio) s = execRatioSet slot h ratio s := rfl
theorem exec_encSet {slot} {h} {ch} {filtNs} {decode} {invert} {zmode} : exec (.encSet slot h ch filtNs decode invert zmode) s = execEncSet slot h ch filtNs decode invert zmode s := rfl
theorem exec_calBegin {slot} {h} {type} {index} {arg} {total} {crc} : exec (.calBegin slot h type index arg total crc) s = execCalBegin slot h type index arg total crc s := rfl
theorem exec_calCapture {slot} {h} {lines} {pa} : exec (.calCapture slot h lines pa) s = execCalCapture slot h lines pa s := rfl
theorem exec_calCaptureDone : exec (.calCaptureDone) s = execCalCaptureDone s := rfl
theorem exec_calStatus {slot} {h} {yard} : exec (.calStatus slot h yard) s = execCalStatus slot h yard s := rfl
theorem exec_stringSet {slot} {h} {role} {colOfs} {asym} {leadNs} : exec (.stringSet slot h role colOfs asym leadNs) s = execStringSet slot h role colOfs asym leadNs s := rfl
theorem exec_stringForm {slot} {h} : exec (.stringForm slot h) s = execStringForm slot h s := rfl
theorem exec_stringFormDone {timedOut} : exec (.stringFormDone timedOut) s = execStringFormDone timedOut s := rfl
theorem exec_stringLeave {slot} {h} : exec (.stringLeave slot h) s = execStringLeave slot h s := rfl
theorem exec_stringStatus {slot} {h} : exec (.stringStatus slot h) s = execStringStatus slot h s := rfl
theorem exec_kernBegin {slot} {h} {kslot} {pa} {entry} {total} {crc} : exec (.kernBegin slot h kslot pa entry total crc) s = execKernBegin slot h kslot pa entry total crc s := rfl
theorem exec_asSet {slot} {h} {asid} {l1} {en} : exec (.asSet slot h asid l1 en) s = execAsSet slot h asid l1 en s := rfl
theorem exec_memWrite {slot} {h} {pa} {bulk} : exec (.memWrite slot h pa bulk) s = execMemWrite slot h pa bulk s := rfl
theorem exec_memRead {slot} {h} {pa} {len} : exec (.memRead slot h pa len) s = execMemRead slot h pa len s := rfl
theorem exec_tlbInv {slot} {h} {asid} {scope} {va} : exec (.tlbInv slot h asid scope va) s = execTlbInv slot h asid scope va s := rfl
theorem exec_jobSet {slot} {h} {loftSplit} : exec (.jobSet slot h loftSplit) s = execJobSet slot h loftSplit s := rfl
theorem exec_djFill {slot} {h} {bay} {djSlot} {kslot} {asid} : exec (.djFill slot h bay djSlot kslot asid) s = execDjFill slot h bay djSlot kslot asid s := rfl
theorem exec_djResume {slot} {h} {bay} {djSlot} : exec (.djResume slot h bay djSlot) s = execDjResume slot h bay djSlot s := rfl
theorem exec_djDiscard {slot} {h} {bay} {djSlot} : exec (.djDiscard slot h bay djSlot) s = execDjDiscard slot h bay djSlot s := rfl
theorem exec_cartSet {slot} {h} {cart} {owner} : exec (.cartSet slot h cart owner) s = execCartSet slot h cart owner s := rfl
theorem exec_cartCtrlResume {slot} {h} {cart} : exec (.cartCtrlResume slot h cart) s = execCartCtrlResume slot h cart s := rfl
theorem exec_cartCtrlAbort {slot} {h} {cart} : exec (.cartCtrlAbort slot h cart) s = execCartCtrlAbort slot h cart s := rfl
theorem exec_faultRead {slot} {h} {max} : exec (.faultRead slot h max) s = execFaultRead slot h max s := rfl
theorem exec_portSet {slot} {h} {port} {rate} {sealEn} {sealN} : exec (.portSet slot h port rate sealEn sealN) s = execPortSet slot h port rate sealEn sealN s := rfl
theorem exec_portStart {slot} {h} {port} : exec (.portStart slot h port) s = execPortStart slot h port s := rfl
theorem exec_portStop {slot} {h} {port} : exec (.portStop slot h port) s = execPortStop slot h port s := rfl
theorem exec_laneSet {slot} {h} {lane} {pre} {post} {swing} {zdiff} {pol} : exec (.laneSet slot h lane pre post swing zdiff pol) s = execLaneSet slot h lane pre post swing zdiff pol s := rfl
theorem exec_streamSet {slot} {h} {stream} {kind} {port} {field} : exec (.streamSet slot h stream kind port field) s = execStreamSet slot h stream kind port field s := rfl
theorem exec_streamEnable {slot} {h} {stream} {en} : exec (.streamEnable slot h stream en) s = execStreamEnable slot h stream en s := rfl
theorem exec_portStatus {slot} {h} {port} : exec (.portStatus slot h port) s = execPortStatus slot h port s := rfl
theorem exec_authChallenge {slot} {h} {role} {index} : exec (.authChallenge slot h role index) s = execAuthChallenge slot h role index s := rfl
theorem exec_authResponse {slot} {h} {sig} : exec (.authResponse slot h sig) s = execAuthResponse slot h sig s := rfl
theorem exec_sessionEnd {slot} {h} : exec (.sessionEnd slot h) s = execSessionEnd slot h s := rfl
theorem exec_enrol {slot} {h} {role} {index} {key} : exec (.enrol slot h role index key) s = execEnrol slot h role index key s := rfl
theorem exec_revoke {slot} {h} {role} {index} : exec (.revoke slot h role index) s = execRevoke slot h role index s := rfl
theorem exec_timeSet {slot} {h} {rtc} {sig} : exec (.timeSet slot h rtc sig) s = execTimeSet slot h rtc sig s := rfl
theorem exec_sealExportSet {slot} {h} {bulk} : exec (.sealExportSet slot h bulk) s = execSealExportSet slot h bulk s := rfl
theorem exec_zeroize {slot} {h} : exec (.zeroize slot h) s = execZeroize slot h s := rfl
theorem exec_debugUnlock {slot} {h} : exec (.debugUnlock slot h) s = execDebugUnlock slot h s := rfl
theorem exec_fwBegin {slot} {h} {bank} {total} {crc} : exec (.fwBegin slot h bank total crc) s = execFwBegin slot h bank total crc s := rfl
theorem exec_fwActivate {slot} {h} {bank} : exec (.fwActivate slot h bank) s = execFwActivate slot h bank s := rfl
theorem exec_fuseRead {slot} {h} {word} : exec (.fuseRead slot h word) s = execFuseRead slot h word s := rfl
theorem exec_fuseProgram {slot} {h} {word} {bit} {vpp} : exec (.fuseProgram slot h word bit vpp) s = execFuseProgram slot h word bit s vpp := rfl
theorem exec_fuseProgramInst {slot} {h} {bit} {vpp} : exec (.fuseProgramInst slot h bit vpp) s = execFuseProgramInst slot h bit s vpp := rfl
theorem exec_fusePulseDone {verified} : exec (.fusePulseDone verified) s = execFusePulseDone verified s := rfl
theorem exec_nvmStatus {slot} {h} : exec (.nvmStatus slot h) s = execNvmStatus slot h s := rfl
theorem exec_telemRead {slot} {h} : exec (.telemRead slot h) s = execTelemRead slot h s := rfl
theorem exec_logRead {slot} {h} {index} {count} : exec (.logRead slot h index count) s = execLogRead slot h index count s := rfl
theorem exec_auditRead {slot} {h} {index} {count} : exec (.auditRead slot h index count) s = execAuditRead slot h index count s := rfl
theorem exec_periphSet {slot} {h} {block} {unit} {reg} {value} : exec (.periphSet slot h block unit reg value) s = execPeriphSet slot h block unit reg value s := rfl
theorem exec_periphGet {slot} {h} {block} {unit} {reg} : exec (.periphGet slot h block unit reg) s = execPeriphGet slot h block unit reg s := rfl
theorem exec_periphGo {slot} {h} {block} {mask} : exec (.periphGo slot h block mask) s = execPeriphGo slot h block mask s := rfl
theorem exec_strobeBegin {slot} {h} {engine} {total} {crc} : exec (.strobeBegin slot h engine total crc) s = execStrobeBegin slot h engine total crc s := rfl
theorem exec_dacSet {slot} {h} {dac} {range} {code} : exec (.dacSet slot h dac range code) s = execDacSet slot h dac range code s := rfl
theorem exec_i2cXfer {slot} {h} {addr} {wlen} {rlen} {wdata} : exec (.i2cXfer slot h addr wlen rlen wdata) s = execI2cXfer slot h addr wlen rlen wdata s := rfl
theorem exec_i2cXferDone {result} {index} {rdata} : exec (.i2cXferDone result index rdata) s = execI2cXferDone result index rdata s := rfl
theorem exec_hkRead {slot} {h} {conv} {ch} : exec (.hkRead slot h conv ch) s = execHkRead slot h conv ch s := rfl
theorem exec_lockstepFault : exec (.lockstepFault) s = execLockstepFault s := rfl
theorem exec_mailboxesReady : exec (.mailboxesReady) s = execMailboxesReady s := rfl
theorem exec_sessionExpiry {slot} {rtc} : exec (.sessionExpiry slot rtc) s = execSessionExpiry slot rtc s := rfl
theorem exec_challengeExpiry {slot} {rtc} : exec (.challengeExpiry slot rtc) s = execChallengeExpiry slot rtc s := rfl
theorem exec_lockoutEnd {role} {index} {rtc} : exec (.lockoutEnd role index rtc) s = execLockoutEnd role index rtc s := rfl
theorem exec_lockoutJournalWrite {role} {index} {rtc} : exec (.lockoutJournalWrite role index rtc) s = execLockoutJournalWrite role index rtc s := rfl
theorem exec_entropyHealthFail {test} : exec (.entropyHealthFail test) s = execEntropyHealthFail test s := rfl
theorem exec_tamperVoltage {detector} {rtc} : exec (.tamperVoltage detector rtc) s = execTamperVoltage detector rtc s := rfl
theorem exec_tamperClock {detector} {rtc} : exec (.tamperClock detector rtc) s = execTamperClock detector rtc s := rfl
theorem exec_tamperTemperature {rtc} : exec (.tamperTemperature rtc) s = execTamperTemperature rtc s := rfl
theorem exec_lidLight {rtc} : exec (.lidLight rtc) s = execLidLight rtc s := rfl
theorem exec_tamperPauseEnd : exec (.tamperPauseEnd) s = execTamperPauseEnd s := rfl
theorem exec_lastRailGood {vddioB33} : exec (.lastRailGood vddioB33) s = execLastRailGood vddioB33 s := rfl
theorem exec_porRelease {addrPins} : exec (.porRelease addrPins) s = execPorRelease addrPins s := rfl
theorem exec_fuseLoadDone : exec (.fuseLoadDone) s = execFuseLoadDone s := rfl
theorem exec_selftestDone {failTest} : exec (.selftestDone failTest) s = execSelftestDone failTest s := rfl
theorem exec_fwVerified : exec (.fwVerified) s = execFwVerified s := rfl
theorem exec_hbmTrained : exec (.hbmTrained) s = execHbmTrained s := rfl
theorem exec_railLoss {rail} : exec (.railLoss rail) s = execRailLoss rail s := rfl
theorem exec_resetN : exec (.resetN) s = execResetN s := rfl
theorem exec_resetNRelease {addrPins} : exec (.resetNRelease addrPins) s = execResetNRelease addrPins s := rfl
theorem exec_vaonInGood : exec (.vaonInGood) s = execVaonInGood s := rfl
theorem exec_vaonInLoss : exec (.vaonInLoss) s = execVaonInLoss s := rfl
theorem exec_backupDomainPor : exec (.backupDomainPor) s = execBackupDomainPor s := rfl
theorem exec_reconciliation {t} {rtc} : exec (.reconciliation t rtc) s = execReconciliation t rtc s := rfl
theorem exec_rtcTrim : exec (.rtcTrim) s = execRtcTrim s := rfl
theorem exec_chargerDetect {auxHeld} {vddioB30} : exec (.chargerDetect auxHeld vddioB30) s = execChargerDetect auxHeld vddioB30 s := rfl
theorem exec_chargerZoneRead {ntcOpen} {temp} : exec (.chargerZoneRead ntcOpen temp) s = execChargerZoneRead ntcOpen temp s := rfl
theorem exec_chargerVbatThreshold {vbatMv} : exec (.chargerVbatThreshold vbatMv) s = execChargerVbatThreshold vbatMv s := rfl
theorem exec_chargerTimeout {rtc} : exec (.chargerTimeout rtc) s = execChargerTimeout s rtc := rfl
theorem exec_chargerCutback {vaonMv} : exec (.chargerCutback vaonMv) s = execChargerCutback vaonMv s := rfl
theorem exec_svcBtnLongPress : exec (.svcBtnLongPress) s = execSvcBtnLongPress s := rfl
theorem exec_svcBtnResetEnd : exec (.svcBtnResetEnd) s = execSvcBtnResetEnd s := rfl
theorem exec_refclkLoss : exec (.refclkLoss) s = execRefclkLoss s := rfl
theorem exec_pllaLockLoss {t} : exec (.pllaLockLoss t) s = execPllaLockLoss t s := rfl
theorem exec_pllaRelockAttempt : exec (.pllaRelockAttempt) s = execPllaRelockAttempt s := rfl
theorem exec_pllaLock {t} : exec (.pllaLock t) s = execPllaLock t s := rfl
theorem exec_pllbLockLoss : exec (.pllbLockLoss) s = execPllbLockLoss s := rfl
theorem exec_pllbRelockAttempt : exec (.pllbRelockAttempt) s = execPllbRelockAttempt s := rfl
theorem exec_pllbLock : exec (.pllbLock) s = execPllbLock s := rfl
theorem exec_portPllLockLoss {p} : exec (.portPllLockLoss p) s = execPortPllLockLoss p s := rfl
theorem exec_portPllRelockAttempt {p} : exec (.portPllRelockAttempt p) s = execPortPllRelockAttempt p s := rfl
theorem exec_portPllLock {p} : exec (.portPllLock p) s = execPortPllLock p s := rfl
theorem exec_pllaPhaseWrite {value} : exec (.pllaPhaseWrite value) s = execPllaPhaseWrite value s := rfl
theorem exec_phaseStep {t} : exec (.phaseStep t) s = execPhaseStep s t := rfl
theorem exec_pllbProfileGo {value} : exec (.pllbProfileGo value) s = execPllbProfileGo value s := rfl
theorem exec_pllbProfileSegmentEnd : exec (.pllbProfileSegmentEnd) s = execPllbProfileSegmentEnd s := rfl
theorem exec_tmrGo {mask} : exec (.tmrGo mask) s = execTmrGo mask s := rfl
theorem exec_tmrStop {tmr} : exec (.tmrStop tmr) s = execTmrStop tmr s := rfl
theorem exec_timerCountStep {tmr} : exec (.timerCountStep tmr) s = execTimerCountStep tmr s := rfl
theorem exec_timerEventStart {tmr} : exec (.timerEventStart tmr) s = execTimerEventStart tmr s := rfl
theorem exec_timerCapture {tmr} : exec (.timerCapture tmr) s = execTimerCapture tmr s := rfl
theorem exec_tmrCapRead {tmr} : exec (.tmrCapRead tmr) s = execTmrCapRead tmr s := rfl
theorem exec_stbGo {mask} : exec (.stbGo mask) s = execStbGo mask s := rfl
theorem exec_stbStop {e} : exec (.stbStop e) s = execStbStop e s := rfl
theorem exec_strobeStep {e} {pins} : exec (.strobeStep e pins) s = execStrobeStep e pins s := rfl
theorem exec_preLt {t} : exec (.preLt t) s = execPreLt t s := rfl
theorem exec_stbTxWrite {e} {word} : exec (.stbTxWrite e word) s = execStbTxWrite e word s := rfl
theorem exec_stbRxRead {e} : exec (.stbRxRead e) s = execStbRxRead e s := rfl
theorem exec_hkRegularPass {conv} {t} : exec (.hkRegularPass conv t) s = execHkRegularPass conv s t := rfl
theorem exec_hkConversion {conv} {code} {checkCode} {t} : exec (.hkConversion conv code checkCode t) s = execHkConversion conv code checkCode s t := rfl
theorem exec_hkResult {conv} {t} : exec (.hkResult conv t) s = execHkResult conv s t := rfl
theorem exec_hkInjectTrigger {conv} {t} : exec (.hkInjectTrigger conv t) s = execHkInjectTrigger conv t s := rfl
theorem exec_dacWrite {d} {value} : exec (.dacWrite d value) s = execDacWrite d value s := rfl
theorem exec_dacRangeHoldEnd {d} {t} : exec (.dacRangeHoldEnd d t) s = execDacRangeHoldEnd d s t := rfl
theorem exec_dacSlewDone {d} : exec (.dacSlewDone d) s = execDacSlewDone d s := rfl
theorem exec_i2cTargetWrite {addr} {bytes} {more} : exec (.i2cTargetWrite addr bytes more) s = execI2cTargetWrite addr bytes s more := rfl
theorem exec_i2cTargetRead {addr} {len} {more} : exec (.i2cTargetRead addr len more) s = execI2cTargetRead addr len s more := rfl
theorem exec_i2cTimeout {target} {index} {rdata} : exec (.i2cTimeout target index rdata) s = execI2cTimeout target index rdata s := rfl
theorem exec_wdtArm : exec (.wdtArm) s = execWdtArm s := rfl
theorem exec_wdtService : exec (.wdtService) s = execWdtService s := rfl
theorem exec_wdtDisarm : exec (.wdtDisarm) s = execWdtDisarm s := rfl
theorem exec_wdtWindowOpen : exec (.wdtWindowOpen) s = execWdtWindowOpen s := rfl
theorem exec_wdtExpiry : exec (.wdtExpiry) s = execWdtExpiry s := rfl
theorem exec_wdtClkstop : exec (.wdtClkstop) s = execWdtClkstop s := rfl
theorem exec_wdtDisable {first} {second} : exec (.wdtDisable first second) s = execWdtDisable first second s := rfl
theorem exec_pfrF0 : exec (.pfrF0) s = execPfrF0 s := rfl
theorem exec_pfrPort {p} : exec (.pfrPort p) s = execPfrPort p s := rfl
theorem exec_pfrGrooming : exec (.pfrGrooming) s = execPfrGrooming s := rfl
theorem exec_pfrBays {oneShed} {shed} : exec (.pfrBays oneShed shed) s = execPfrBays oneShed shed s := rfl
theorem exec_pfrCarts : exec (.pfrCarts) s = execPfrCarts s := rfl
theorem exec_pfrHbm : exec (.pfrHbm) s = execPfrHbm s := rfl
theorem exec_pfrStrobes : exec (.pfrStrobes) s = execPfrStrobes s := rfl
theorem exec_pfrHousekeeping : exec (.pfrHousekeeping) s = execPfrHousekeeping s := rfl
theorem exec_pfrI2c : exec (.pfrI2c) s = execPfrI2c s := rfl
theorem exec_pfrSync : exec (.pfrSync) s = execPfrSync s := rfl
theorem exec_pfrDone {fn} : exec (.pfrDone fn) s = execPfrDone fn s := rfl
theorem exec_portCfgStart {p} : exec (.portCfgStart p) s = execPortCfgStart p s := rfl
theorem exec_portCfgStop {p} : exec (.portCfgStop p) s = execPortCfgStop p s := rfl
theorem exec_portStartDone {p} {t} : exec (.portStartDone p t) s = execPortStartDone p t s := rfl
theorem exec_portStopDone {p} : exec (.portStopDone p) s = execPortStopDone p s := rfl
theorem exec_portPeriod {t} : exec (.portPeriod t) s = execPortPeriod t s := rfl
theorem exec_alignmentMarker {p} : exec (.alignmentMarker p) s = execAlignmentMarker p s := rfl
theorem exec_statusDue {p} {t} : exec (.statusDue p t) s = execStatusDue p t s := rfl
theorem exec_timeDue {p} {t} {rtc} : exec (.timeDue p t rtc) s = execTimeDue p t rtc s := rfl
theorem exec_sealSigDue {p} {rtc} : exec (.sealSigDue p rtc) s = execSealSigDue p rtc s := rfl
theorem exec_sealBlockTimeout {p} {t} : exec (.sealBlockTimeout p t) s = execSealBlockTimeout p t s := rfl
theorem exec_idleDue {p} {t} : exec (.idleDue p t) s = execIdleDue p t s := rfl
theorem exec_saveFrameWritten {b} {failed} {bus} : exec (.saveFrameWritten b failed bus) s = execSaveFrameWritten b s failed bus := rfl
theorem exec_cartDescriptorStart {q} : exec (.cartDescriptorStart q) s = execCartDescriptorStart q s := rfl
theorem exec_cartChunk {q} : exec (.cartChunk q) s = execCartChunk q s := rfl
theorem exec_cartDescriptorDone {q} : exec (.cartDescriptorDone q) s = execCartDescriptorDone q s := rfl
theorem exec_cartResume {q} : exec (.cartResume q) s = execCartResume q s := rfl
theorem exec_cartAbort {q} : exec (.cartAbort q) s = execCartAbort q s := rfl
theorem exec_tlbInvGo {value} : exec (.tlbInvGo value) s = execTlbInvGo value s := rfl
theorem exec_tlbInvDone : exec (.tlbInvDone) s = execTlbInvDone s := rfl
theorem exec_illegalInstruction {b} {word} : exec (.illegalInstruction b word) s = execIllegalInstruction b word s := rfl
theorem exec_add {b} {sd} {sa} {sb} : exec (.add b sd sa sb) s = execAdd b sd sa sb s := rfl
theorem exec_sub {b} {sd} {sa} {sb} : exec (.sub b sd sa sb) s = execSub b sd sa sb s := rfl
theorem exec_and {b} {sd} {sa} {sb} : exec (.and b sd sa sb) s = execAnd b sd sa sb s := rfl
theorem exec_or {b} {sd} {sa} {sb} : exec (.or b sd sa sb) s = execOr b sd sa sb s := rfl
theorem exec_xor {b} {sd} {sa} {sb} : exec (.xor b sd sa sb) s = execXor b sd sa sb s := rfl
theorem exec_andn {b} {sd} {sa} {sb} : exec (.andn b sd sa sb) s = execAndn b sd sa sb s := rfl
theorem exec_sll {b} {sd} {sa} {sb} : exec (.sll b sd sa sb) s = execSll b sd sa sb s := rfl
theorem exec_srl {b} {sd} {sa} {sb} : exec (.srl b sd sa sb) s = execSrl b sd sa sb s := rfl
theorem exec_sra {b} {sd} {sa} {sb} : exec (.sra b sd sa sb) s = execSra b sd sa sb s := rfl
theorem exec_rol {b} {sd} {sa} {sb} : exec (.rol b sd sa sb) s = execRol b sd sa sb s := rfl
theorem exec_ror {b} {sd} {sa} {sb} : exec (.ror b sd sa sb) s = execRor b sd sa sb s := rfl
theorem exec_setlt {b} {sd} {sa} {sb} : exec (.setlt b sd sa sb) s = execSetlt b sd sa sb s := rfl
theorem exec_setltu {b} {sd} {sa} {sb} : exec (.setltu b sd sa sb) s = execSetltu b sd sa sb s := rfl
theorem exec_min {b} {sd} {sa} {sb} : exec (.min b sd sa sb) s = execMin b sd sa sb s := rfl
theorem exec_max {b} {sd} {sa} {sb} : exec (.max b sd sa sb) s = execMax b sd sa sb s := rfl
theorem exec_minu {b} {sd} {sa} {sb} : exec (.minu b sd sa sb) s = execMinu b sd sa sb s := rfl
theorem exec_maxu {b} {sd} {sa} {sb} : exec (.maxu b sd sa sb) s = execMaxu b sd sa sb s := rfl
theorem exec_mul {b} {sd} {sa} {sb} : exec (.mul b sd sa sb) s = execMul b sd sa sb s := rfl
theorem exec_mulhs {b} {sd} {sa} {sb} : exec (.mulhs b sd sa sb) s = execMulhs b sd sa sb s := rfl
theorem exec_mulhu {b} {sd} {sa} {sb} : exec (.mulhu b sd sa sb) s = execMulhu b sd sa sb s := rfl
theorem exec_div {b} {sd} {sa} {sb} : exec (.div b sd sa sb) s = execDiv b sd sa sb s := rfl
theorem exec_divu {b} {sd} {sa} {sb} : exec (.divu b sd sa sb) s = execDivu b sd sa sb s := rfl
theorem exec_rem {b} {sd} {sa} {sb} : exec (.rem b sd sa sb) s = execRem b sd sa sb s := rfl
theorem exec_remu {b} {sd} {sa} {sb} : exec (.remu b sd sa sb) s = execRemu b sd sa sb s := rfl
theorem exec_clz {b} {sd} {sa} : exec (.clz b sd sa) s = execClz b sd sa s := rfl
theorem exec_popc {b} {sd} {sa} : exec (.popc b sd sa) s = execPopc b sd sa s := rfl
theorem exec_addk {b} {sd} {sa} {imm} : exec (.addk b sd sa imm) s = execAddk b sd sa imm s := rfl
theorem exec_andk {b} {sd} {sa} {imm} : exec (.andk b sd sa imm) s = execAndk b sd sa imm s := rfl
theorem exec_ork {b} {sd} {sa} {imm} : exec (.ork b sd sa imm) s = execOrk b sd sa imm s := rfl
theorem exec_xork {b} {sd} {sa} {imm} : exec (.xork b sd sa imm) s = execXork b sd sa imm s := rfl
theorem exec_setltk {b} {sd} {sa} {imm} : exec (.setltk b sd sa imm) s = execSetltk b sd sa imm s := rfl
theorem exec_setltuk {b} {sd} {sa} {imm} : exec (.setltuk b sd sa imm) s = execSetltuk b sd sa imm s := rfl
theorem exec_rsubk {b} {sd} {sa} {imm} : exec (.rsubk b sd sa imm) s = execRsubk b sd sa imm s := rfl
theorem exec_kset {b} {sd} {imm} : exec (.kset b sd imm) s = execKset b sd imm s := rfl
theorem exec_khi {b} {sd} {imm} : exec (.khi b sd imm) s = execKhi b sd imm s := rfl
theorem exec_pcadd {b} {sd} {imm} : exec (.pcadd b sd imm) s = execPcadd b sd imm s := rfl
theorem exec_slli {b} {sd} {sa} {amt} : exec (.slli b sd sa amt) s = execSlli b sd sa amt s := rfl
theorem exec_srli {b} {sd} {sa} {amt} : exec (.srli b sd sa amt) s = execSrli b sd sa amt s := rfl
theorem exec_srai {b} {sd} {sa} {amt} : exec (.srai b sd sa amt) s = execSrai b sd sa amt s := rfl
theorem exec_roli {b} {sd} {sa} {amt} : exec (.roli b sd sa amt) s = execRoli b sd sa amt s := rfl
theorem exec_rori {b} {sd} {sa} {amt} : exec (.rori b sd sa amt) s = execRori b sd sa amt s := rfl
theorem exec_bcEq {b} {sa} {sb} {off} : exec (.bcEq b sa sb off) s = execBcEq b sa sb off s := rfl
theorem exec_bcNe {b} {sa} {sb} {off} : exec (.bcNe b sa sb off) s = execBcNe b sa sb off s := rfl
theorem exec_bcLt {b} {sa} {sb} {off} : exec (.bcLt b sa sb off) s = execBcLt b sa sb off s := rfl
theorem exec_bcGe {b} {sa} {sb} {off} : exec (.bcGe b sa sb off) s = execBcGe b sa sb off s := rfl
theorem exec_bcLtu {b} {sa} {sb} {off} : exec (.bcLtu b sa sb off) s = execBcLtu b sa sb off s := rfl
theorem exec_bcGeu {b} {sa} {sb} {off} : exec (.bcGeu b sa sb off) s = execBcGeu b sa sb off s := rfl
theorem exec_bcLe {b} {sa} {sb} {off} : exec (.bcLe b sa sb off) s = execBcLe b sa sb off s := rfl
theorem exec_bcGt {b} {sa} {sb} {off} : exec (.bcGt b sa sb off) s = execBcGt b sa sb off s := rfl
theorem exec_bcTz {b} {sa} {sb} {off} : exec (.bcTz b sa sb off) s = execBcTz b sa sb off s := rfl
theorem exec_bcTnz {b} {sa} {sb} {off} : exec (.bcTnz b sa sb off) s = execBcTnz b sa sb off s := rfl
theorem exec_jrel {b} {sd} {off} : exec (.jrel b sd off) s = execJrel b sd off s := rfl
theorem exec_jreg {b} {sd} {sa} {imm} : exec (.jreg b sd sa imm) s = execJreg b sd sa imm s := rfl
theorem exec_bpany {b} {pa} {off} : exec (.bpany b pa off) s = execBpany b pa off s := rfl
theorem exec_bpnone {b} {pa} {off} : exec (.bpnone b pa off) s = execBpnone b pa off s := rfl
theorem exec_ldB {b} {sd} {sa} {imm} : exec (.ldB b sd sa imm) s = execLdB b sd sa imm s := rfl
theorem exec_ldBu {b} {sd} {sa} {imm} : exec (.ldBu b sd sa imm) s = execLdBu b sd sa imm s := rfl
theorem exec_ldH {b} {sd} {sa} {imm} : exec (.ldH b sd sa imm) s = execLdH b sd sa imm s := rfl
theorem exec_ldHu {b} {sd} {sa} {imm} : exec (.ldHu b sd sa imm) s = execLdHu b sd sa imm s := rfl
theorem exec_ldW {b} {sd} {sa} {imm} : exec (.ldW b sd sa imm) s = execLdW b sd sa imm s := rfl
theorem exec_stB {b} {s_} {sa} {imm} : exec (.stB b s_ sa imm) s = execStB b s_ sa imm s := rfl
theorem exec_stH {b} {s_} {sa} {imm} : exec (.stH b s_ sa imm) s = execStH b s_ sa imm s := rfl
theorem exec_stW {b} {s_} {sa} {imm} : exec (.stW b s_ sa imm) s = execStW b s_ sa imm s := rfl
theorem exec_vld {b} {vd} {sa} {pg} {off} : exec (.vld b vd sa pg off) s = execVld b vd sa pg off s := rfl
theorem exec_vst {b} {vd} {sa} {pg} {off} : exec (.vst b vd sa pg off) s = execVst b vd sa pg off s := rfl
theorem exec_vlds {b} {vd} {sa} {sb} {pg} : exec (.vlds b vd sa sb pg) s = execVlds b vd sa sb pg s := rfl
theorem exec_vsts {b} {vd} {sa} {sb} {pg} : exec (.vsts b vd sa sb pg) s = execVsts b vd sa sb pg s := rfl
theorem exec_vldbu {b} {vd} {sa} {pg} {off} : exec (.vldbu b vd sa pg off) s = execVldbu b vd sa pg off s := rfl
theorem exec_vstb {b} {vd} {sa} {pg} {off} : exec (.vstb b vd sa pg off) s = execVstb b vd sa pg off s := rfl
theorem exec_lfr {b} {vd} {sa} {age} {fld} : exec (.lfr b vd sa age fld) s = execLfr b vd sa age fld s := rfl
theorem exec_emit {b} {va} : exec (.emit b va) s = execEmit b va s := rfl
theorem exec_yield {b} : exec (.yield b) s = execYield b s := rfl
theorem exec_halt {b} : exec (.halt b) s = execHalt b s := rfl
theorem exec_cpost {b} {sd} {sa} {sb} : exec (.cpost b sd sa sb) s = execCpost b sd sa sb s := rfl
theorem exec_cwait {b} {flag} : exec (.cwait b flag) s = execCwait b flag s := rfl
theorem exec_mfc {b} {s_} {csr} : exec (.mfc b s_ csr) s = execMfc b s_ csr s := rfl
theorem exec_mtc {b} {s_} {csr} : exec (.mtc b s_ csr) s = execMtc b s_ csr s := rfl
theorem exec_fence {b} : exec (.fence b) s = execFence b s := rfl
theorem exec_vadd {b} {vd} {va} {vb} {pg} {w} : exec (.vadd b vd va vb pg w) s = execVadd b vd va vb pg w s := rfl
theorem exec_vsub {b} {vd} {va} {vb} {pg} {w} : exec (.vsub b vd va vb pg w) s = execVsub b vd va vb pg w s := rfl
theorem exec_vadds {b} {vd} {va} {vb} {pg} {w} : exec (.vadds b vd va vb pg w) s = execVadds b vd va vb pg w s := rfl
theorem exec_vsubs {b} {vd} {va} {vb} {pg} {w} : exec (.vsubs b vd va vb pg w) s = execVsubs b vd va vb pg w s := rfl
theorem exec_vaddus {b} {vd} {va} {vb} {pg} {w} : exec (.vaddus b vd va vb pg w) s = execVaddus b vd va vb pg w s := rfl
theorem exec_vsubus {b} {vd} {va} {vb} {pg} {w} : exec (.vsubus b vd va vb pg w) s = execVsubus b vd va vb pg w s := rfl
theorem exec_vneg {b} {vd} {va} {pg} {w} : exec (.vneg b vd va pg w) s = execVneg b vd va pg w s := rfl
theorem exec_vnegs {b} {vd} {va} {pg} {w} : exec (.vnegs b vd va pg w) s = execVnegs b vd va pg w s := rfl
theorem exec_vabs {b} {vd} {va} {pg} {w} : exec (.vabs b vd va pg w) s = execVabs b vd va pg w s := rfl
theorem exec_vabss {b} {vd} {va} {pg} {w} : exec (.vabss b vd va pg w) s = execVabss b vd va pg w s := rfl
theorem exec_vabsdu {b} {vd} {va} {vb} {pg} {w} : exec (.vabsdu b vd va vb pg w) s = execVabsdu b vd va vb pg w s := rfl
theorem exec_vavgu {b} {vd} {va} {vb} {pg} {w} : exec (.vavgu b vd va vb pg w) s = execVavgu b vd va vb pg w s := rfl
theorem exec_vand {b} {vd} {va} {vb} {pg} {w} : exec (.vand b vd va vb pg w) s = execVand b vd va vb pg w s := rfl
theorem exec_vor {b} {vd} {va} {vb} {pg} {w} : exec (.vor b vd va vb pg w) s = execVor b vd va vb pg w s := rfl
theorem exec_vxor {b} {vd} {va} {vb} {pg} {w} : exec (.vxor b vd va vb pg w) s = execVxor b vd va vb pg w s := rfl
theorem exec_vandn {b} {vd} {va} {vb} {pg} {w} : exec (.vandn b vd va vb pg w) s = execVandn b vd va vb pg w s := rfl
theorem exec_vmin {b} {vd} {va} {vb} {pg} {w} : exec (.vmin b vd va vb pg w) s = execVmin b vd va vb pg w s := rfl
theorem exec_vmax {b} {vd} {va} {vb} {pg} {w} : exec (.vmax b vd va vb pg w) s = execVmax b vd va vb pg w s := rfl
theorem exec_vminu {b} {vd} {va} {vb} {pg} {w} : exec (.vminu b vd va vb pg w) s = execVminu b vd va vb pg w s := rfl
theorem exec_vmaxu {b} {vd} {va} {vb} {pg} {w} : exec (.vmaxu b vd va vb pg w) s = execVmaxu b vd va vb pg w s := rfl
theorem exec_vmul {b} {vd} {va} {vb} {pg} {w} : exec (.vmul b vd va vb pg w) s = execVmul b vd va vb pg w s := rfl
theorem exec_vmulhs {b} {vd} {va} {vb} {pg} {w} : exec (.vmulhs b vd va vb pg w) s = execVmulhs b vd va vb pg w s := rfl
theorem exec_vmulhu {b} {vd} {va} {vb} {pg} {w} : exec (.vmulhu b vd va vb pg w) s = execVmulhu b vd va vb pg w s := rfl
theorem exec_vmulq {b} {vd} {va} {vb} {pg} : exec (.vmulq b vd va vb pg) s = execVmulq b vd va vb pg s := rfl
theorem exec_vmulus {b} {vd} {va} {vb} {pg} {w} : exec (.vmulus b vd va vb pg w) s = execVmulus b vd va vb pg w s := rfl
theorem exec_vmac {b} {vd} {va} {vb} {pg} {w} : exec (.vmac b vd va vb pg w) s = execVmac b vd va vb pg w s := rfl
theorem exec_vmacs {b} {vd} {va} {vb} {pg} {w} : exec (.vmacs b vd va vb pg w) s = execVmacs b vd va vb pg w s := rfl
theorem exec_vmacus {b} {vd} {va} {vb} {pg} {w} : exec (.vmacus b vd va vb pg w) s = execVmacus b vd va vb pg w s := rfl
theorem exec_vmsub {b} {vd} {va} {vb} {pg} {w} : exec (.vmsub b vd va vb pg w) s = execVmsub b vd va vb pg w s := rfl
theorem exec_vmacw {b} {vd} {va} {vb} {pg} : exec (.vmacw b vd va vb pg) s = execVmacw b vd va vb pg s := rfl
theorem exec_vmacwu {b} {vd} {va} {vb} {pg} : exec (.vmacwu b vd va vb pg) s = execVmacwu b vd va vb pg s := rfl
theorem exec_vmacws {b} {vd} {va} {vb} {pg} : exec (.vmacws b vd va vb pg) s = execVmacws b vd va vb pg s := rfl
theorem exec_vsadw {b} {vd} {va} {vb} {pg} : exec (.vsadw b vd va vb pg) s = execVsadw b vd va vb pg s := rfl
theorem exec_vcmpEq {b} {pd} {va} {vb} {pg} {w} : exec (.vcmpEq b pd va vb pg w) s = execVcmpEq b pd va vb pg w s := rfl
theorem exec_vcmpNe {b} {pd} {va} {vb} {pg} {w} : exec (.vcmpNe b pd va vb pg w) s = execVcmpNe b pd va vb pg w s := rfl
theorem exec_vcmpLt {b} {pd} {va} {vb} {pg} {w} : exec (.vcmpLt b pd va vb pg w) s = execVcmpLt b pd va vb pg w s := rfl
theorem exec_vcmpLe {b} {pd} {va} {vb} {pg} {w} : exec (.vcmpLe b pd va vb pg w) s = execVcmpLe b pd va vb pg w s := rfl
theorem exec_vcmpGt {b} {pd} {va} {vb} {pg} {w} : exec (.vcmpGt b pd va vb pg w) s = execVcmpGt b pd va vb pg w s := rfl
theorem exec_vcmpGe {b} {pd} {va} {vb} {pg} {w} : exec (.vcmpGe b pd va vb pg w) s = execVcmpGe b pd va vb pg w s := rfl
theorem exec_vcmpLtu {b} {pd} {va} {vb} {pg} {w} : exec (.vcmpLtu b pd va vb pg w) s = execVcmpLtu b pd va vb pg w s := rfl
theorem exec_vcmpLeu {b} {pd} {va} {vb} {pg} {w} : exec (.vcmpLeu b pd va vb pg w) s = execVcmpLeu b pd va vb pg w s := rfl
theorem exec_vcmpGtu {b} {pd} {va} {vb} {pg} {w} : exec (.vcmpGtu b pd va vb pg w) s = execVcmpGtu b pd va vb pg w s := rfl
theorem exec_vcmpGeu {b} {pd} {va} {vb} {pg} {w} : exec (.vcmpGeu b pd va vb pg w) s = execVcmpGeu b pd va vb pg w s := rfl
theorem exec_vcmpTest {b} {pd} {va} {vb} {pg} {w} : exec (.vcmpTest b pd va vb pg w) s = execVcmpTest b pd va vb pg w s := rfl
theorem exec_vsll {b} {vd} {va} {vb} {pg} {w} : exec (.vsll b vd va vb pg w) s = execVsll b vd va vb pg w s := rfl
theorem exec_vsrl {b} {vd} {va} {vb} {pg} {w} : exec (.vsrl b vd va vb pg w) s = execVsrl b vd va vb pg w s := rfl
theorem exec_vsra {b} {vd} {va} {vb} {pg} {w} : exec (.vsra b vd va vb pg w) s = execVsra b vd va vb pg w s := rfl
theorem exec_vrol {b} {vd} {va} {vb} {pg} {w} : exec (.vrol b vd va vb pg w) s = execVrol b vd va vb pg w s := rfl
theorem exec_vror {b} {vd} {va} {vb} {pg} {w} : exec (.vror b vd va vb pg w) s = execVror b vd va vb pg w s := rfl
theorem exec_vsrar {b} {vd} {va} {vb} {pg} {w} : exec (.vsrar b vd va vb pg w) s = execVsrar b vd va vb pg w s := rfl
theorem exec_vsrlr {b} {vd} {va} {vb} {pg} {w} : exec (.vsrlr b vd va vb pg w) s = execVsrlr b vd va vb pg w s := rfl
theorem exec_vslls {b} {vd} {va} {vb} {pg} {w} : exec (.vslls b vd va vb pg w) s = execVslls b vd va vb pg w s := rfl
theorem exec_vext {b} {vd} {va} {vb} {sc} {w} : exec (.vext b vd va vb sc w) s = execVext b vd va vb sc w s := rfl
theorem exec_vslup {b} {vd} {va} {sc} {w} : exec (.vslup b vd va sc w) s = execVslup b vd va sc w s := rfl
theorem exec_vsldn {b} {vd} {va} {sc} {w} : exec (.vsldn b vd va sc w) s = execVsldn b vd va sc w s := rfl
theorem exec_vrot {b} {vd} {va} {sc} {w} : exec (.vrot b vd va sc w) s = execVrot b vd va sc w s := rfl
theorem exec_vrev {b} {vd} {va} {w} : exec (.vrev b vd va w) s = execVrev b vd va w s := rfl
theorem exec_vtbl {b} {vd} {va} {vb} {w} : exec (.vtbl b vd va vb w) s = execVtbl b vd va vb w s := rfl
theorem exec_vsplat {b} {vd} {va} {sc} {w} : exec (.vsplat b vd va sc w) s = execVsplat b vd va sc w s := rfl
theorem exec_vzipl {b} {vd} {va} {vb} {w} : exec (.vzipl b vd va vb w) s = execVzipl b vd va vb w s := rfl
theorem exec_vziph {b} {vd} {va} {vb} {w} : exec (.vziph b vd va vb w) s = execVziph b vd va vb w s := rfl
theorem exec_vuzpe {b} {vd} {va} {vb} {w} : exec (.vuzpe b vd va vb w) s = execVuzpe b vd va vb w s := rfl
theorem exec_vuzpo {b} {vd} {va} {vb} {w} : exec (.vuzpo b vd va vb w) s = execVuzpo b vd va vb w s := rfl
theorem exec_vrsum {b} {sd} {va} {pg} {w} : exec (.vrsum b sd va pg w) s = execVrsum b sd va pg w s := rfl
theorem exec_vrsumu {b} {sd} {va} {pg} {w} : exec (.vrsumu b sd va pg w) s = execVrsumu b sd va pg w s := rfl
theorem exec_vrmin {b} {sd} {va} {pg} {w} : exec (.vrmin b sd va pg w) s = execVrmin b sd va pg w s := rfl
theorem exec_vrmax {b} {sd} {va} {pg} {w} : exec (.vrmax b sd va pg w) s = execVrmax b sd va pg w s := rfl
theorem exec_vrminu {b} {sd} {va} {pg} {w} : exec (.vrminu b sd va pg w) s = execVrminu b sd va pg w s := rfl
theorem exec_vrmaxu {b} {sd} {va} {pg} {w} : exec (.vrmaxu b sd va pg w) s = execVrmaxu b sd va pg w s := rfl
theorem exec_vrband {b} {sd} {va} {pg} {w} : exec (.vrband b sd va pg w) s = execVrband b sd va pg w s := rfl
theorem exec_vrbor {b} {sd} {va} {pg} {w} : exec (.vrbor b sd va pg w) s = execVrbor b sd va pg w s := rfl
theorem exec_vrargmax {b} {sd} {va} {pg} {w} : exec (.vrargmax b sd va pg w) s = execVrargmax b sd va pg w s := rfl
theorem exec_vrargmin {b} {sd} {va} {pg} {w} : exec (.vrargmin b sd va pg w) s = execVrargmin b sd va pg w s := rfl
theorem exec_vmov {b} {vd} {va} {pg} {w} : exec (.vmov b vd va pg w) s = execVmov b vd va pg w s := rfl
theorem exec_vsel {b} {vd} {va} {vb} {pg} {w} : exec (.vsel b vd va vb pg w) s = execVsel b vd va vb pg w s := rfl
theorem exec_viota {b} {vd} {pg} {w} : exec (.viota b vd pg w) s = execViota b vd pg w s := rfl
theorem exec_vins {b} {vd} {k} {sb} {w} : exec (.vins b vd k sb w) s = execVins b vd k sb w s := rfl
theorem exec_vextr {b} {sd} {va} {k} {w} : exec (.vextr b sd va k w) s = execVextr b sd va k w s := rfl
theorem exec_vextru {b} {sd} {va} {k} {w} : exec (.vextru b sd va k w) s = execVextru b sd va k w s := rfl
theorem exec_vwiden {b} {vd} {va} {pg} : exec (.vwiden b vd va pg) s = execVwiden b vd va pg s := rfl
theorem exec_vwidenu {b} {vd} {va} {pg} : exec (.vwidenu b vd va pg) s = execVwidenu b vd va pg s := rfl
theorem exec_vnarrow {b} {vd} {va} {pg} : exec (.vnarrow b vd va pg) s = execVnarrow b vd va pg s := rfl
theorem exec_vnarrows {b} {vd} {va} {pg} : exec (.vnarrows b vd va pg) s = execVnarrows b vd va pg s := rfl
theorem exec_vnarrowus {b} {vd} {va} {pg} : exec (.vnarrowus b vd va pg) s = execVnarrowus b vd va pg s := rfl
theorem exec_pand {b} {pd} {pa} {pb} : exec (.pand b pd pa pb) s = execPand b pd pa pb s := rfl
theorem exec_por {b} {pd} {pa} {pb} : exec (.por b pd pa pb) s = execPor b pd pa pb s := rfl
theorem exec_pxor {b} {pd} {pa} {pb} : exec (.pxor b pd pa pb) s = execPxor b pd pa pb s := rfl
theorem exec_pandn {b} {pd} {pa} {pb} : exec (.pandn b pd pa pb) s = execPandn b pd pa pb s := rfl
theorem exec_pnot {b} {pd} {pa} : exec (.pnot b pd pa) s = execPnot b pd pa s := rfl
theorem exec_pset {b} {pd} : exec (.pset b pd) s = execPset b pd s := rfl
theorem exec_pclr {b} {pd} : exec (.pclr b pd) s = execPclr b pd s := rfl
theorem exec_pfirst {b} {pd} {pa} : exec (.pfirst b pd pa) s = execPfirst b pd pa s := rfl
theorem exec_ptos {b} {pa} {s_} : exec (.ptos b pa s_) s = execPtos b pa s_ s := rfl
theorem exec_stop {b} {pd} {s_} : exec (.stop b pd s_) s = execStop b pd s_ s := rfl
theorem exec_pcnt {b} {pa} {s_} : exec (.pcnt b pa s_) s = execPcnt b pa s_ s := rfl
theorem exec_vli {b} {vd} {imm} : exec (.vli b vd imm) s = execVli b vd imm s := rfl
theorem exec_tapReset : exec (.tapReset) s = execTapReset s := rfl
theorem exec_extest {drive} : exec (.extest drive) s = execExtest s drive := rfl
theorem exec_samplePreload {pins} {preload} : exec (.samplePreload pins preload) s = execSamplePreload pins s preload := rfl
theorem exec_idcode : exec (.idcode) s = execIdcode s := rfl
theorem exec_clamp : exec (.clamp) s = execClamp s := rfl
theorem exec_highz : exec (.highz) s = execHighz s := rfl
theorem exec_cpHalt {value} : exec (.cpHalt value) s = execCpHalt s value := rfl
theorem exec_cpResume {value} : exec (.cpResume value) s = execCpResume s value := rfl
theorem exec_cpStep {value} : exec (.cpStep value) s = execCpStep s value := rfl
theorem exec_bayHalt {value} : exec (.bayHalt value) s = execBayHalt s value := rfl
theorem exec_bayResume {value} : exec (.bayResume value) s = execBayResume s value := rfl
theorem exec_bayStep {value} : exec (.bayStep value) s = execBayStep s value := rfl
theorem exec_selWr {value} : exec (.selWr value) s = execSelWr value s := rfl
theorem exec_dbgAccess {dr} : exec (.dbgAccess dr) s = execDbgAccess dr s := rfl
theorem exec_refclkReturn : exec (.refclkReturn) s = execRefclkReturn s := rfl
theorem exec_childLinkLoss : exec (.childLinkLoss) s = execChildLinkLoss s := rfl
theorem exec_frameRestoreDone {b} : exec (.frameRestoreDone b) s = execFrameRestoreDone b s := rfl
theorem exec_hkCalConverged {conv} : exec (.hkCalConverged conv) s = execHkCalConverged conv s := rfl
theorem exec_nvmDeferredWrite {item} : exec (.nvmDeferredWrite item) s = execNvmDeferredWrite item s := rfl
theorem exec_choreAgeLimit {chore} {t} : exec (.choreAgeLimit chore t) s = execChoreAgeLimit chore t s := rfl
theorem exec_calCaptureTimeout {t} : exec (.calCaptureTimeout t) s = execCalCaptureTimeout t s := rfl
theorem exec_chargerSourceLoss {aux} : exec (.chargerSourceLoss aux) s = execChargerSourceLoss aux s := rfl
theorem exec_chargeTermination : exec (.chargeTermination) s = execChargeTermination s := rfl

end Sys2Proof.Machine
end

