-- ==== Sys2Proof/Laws/Lanes.lean ====
section
/-! SUPPORT. What writes of the lanes of a vector register or pair do (R163, R164). -/

namespace Sys2Proof.Machine

variable (r : JobRegs)

theorem JobRegs.lane16_setV (v : VReg) (f : Fin 32 → BitVec 16) (i : Fin 32) : (r.setV v f).lane16 v i = f i := by
  simp [JobRegs.lane16, JobRegs.setV]

theorem JobRegs.vget_setV_ne {v x : VReg} (f : Fin 32 → BitVec 16) (h : x ≠ v) : vget (r.setV v f).v x = vget r.v x := by
  have : v.val ≠ x.val := fun e => h (Fin.ext e.symm)
  simp [JobRegs.setV, vget, this]

theorem JobRegs.lane16_setV_ne {v x : VReg} (f : Fin 32 → BitVec 16) (h : x ≠ v) (i : Fin 32) :
    (r.setV v f).lane16 x i = r.lane16 x i := by
  have := JobRegs.vget_setV_ne r f h
  simp only [vget] at this
  simp [JobRegs.lane16, this]

/-- The second register of a pair is not the first (R163). -/
theorem succ_ne (v : VReg) : v + 1 ≠ v := by
  revert v; decide

theorem JobRegs.lane32_setV32 (v : VReg) (f : Fin 32 → Word) (i : Fin 32) : (r.setV32 v f).lane32 v i = f i := by
  simp only [JobRegs.setV32, JobRegs.lane32, JobRegs.lane16_setV, JobRegs.lane16_setV_ne _ _ (succ_ne v).symm]
  generalize f i = x
  apply BitVec.eq_of_getLsbD_eq
  intro j hj
  rw [BitVec.getLsbD_append, BitVec.getLsbD_extractLsb', BitVec.getLsbD_extractLsb']
  by_cases h : j < 16
  · simp [h]
  · have h2 : j - 16 < 16 := by omega
    have h3 : 16 + (j - 16) = j := by omega
    simp [h, h2, h3]

/-- Every lane of `v` (or of its pair) as written. -/
theorem JobRegs.lane_setLanes (W : Bool) (v : VReg) (f : Fin 32 → BitVec (laneWidth W)) (i : Fin 32) :
    (r.setLanes W v f).lane W v i = f i := by
  cases W
  · exact JobRegs.lane16_setV r v f i
  · exact JobRegs.lane32_setV32 r v f i

/-- The registers outside the pair stay. -/
theorem JobRegs.vget_setLanes_ne (W : Bool) {v x : VReg} (f : Fin 32 → BitVec (laneWidth W)) (h : ¬ inPair W v x) :
    vget (r.setLanes W v f).v x = vget r.v x := by
  cases W
  · exact JobRegs.vget_setV_ne r f fun e => h (.inl e)
  · have h1 : x ≠ v := fun e => h (.inl e)
    have h2 : x ≠ v + 1 := fun e => h (.inr ⟨rfl, e⟩)
    show vget (r.setV32 v f).v x = _
    unfold JobRegs.setV32
    rw [JobRegs.vget_setV_ne _ _ h2, JobRegs.vget_setV_ne _ _ h1]

/-- A write of lanes changes the vector registers alone. -/
theorem JobRegs.setLanes_eq (W : Bool) (v : VReg) (f : Fin 32 → BitVec (laneWidth W)) :
    r.setLanes W v f = { r with v := (r.setLanes W v f).v } := by cases W <;> rfl

@[simp] theorem bit_laneMask (f : Fin 32 → Bool) (i : Fin 32) : bit (laneMask f) i.val = f i := by
  simp [bit, laneMask]

theorem bit_or_laneMask (x : Word) (f : Fin 32 → Bool) (i : Fin 32) : bit (x ||| laneMask f) i.val = (bit x i.val || f i) := by
  have := bit_laneMask f i
  simp only [bit] at this ⊢
  rw [BitVec.getLsbD_or, this]

/-- A write of every lane, without flags. -/
theorem JobRegs.lanesTo_setLanes (W : Bool) (vd : VReg) (f : Fin 32 → BitVec (laneWidth W)) :
    LanesTo W vd f (fun _ => false) (fun _ => false) r (r.setLanes W vd f).advance := by
  refine ⟨fun i => ?_, fun x hx => ?_, fun i => ?_, fun i => ?_, ?_, ?_⟩
  · have := JobRegs.lane_setLanes r W vd f i
    cases W <;> exact this
  · exact JobRegs.vget_setLanes_ne r W f hx
  · rw [JobRegs.setLanes_eq]; simp [JobRegs.advance]
  · rw [JobRegs.setLanes_eq]; simp [JobRegs.advance]
  · rw [JobRegs.setLanes_eq]; exact pcMoved_pcPlus _ _
  · rw [JobRegs.setLanes_eq]; rfl

/-- A predicated lane operation (R164). -/
theorem JobRegs.activeLanesTo_laneOp (W : Bool) (vd : VReg) (pg : PReg) (f : JobRegs → Fin 32 → LaneOut (laneWidth W))
    (g : JobRegs → Fin 32 → LaneRule (laneWidth W)) (h : ∀ i, ((f r i).val, (f r i).ov, (f r i).sat) = g r i) :
    ActiveLanesTo W vd pg g r (r.laneOp W vd pg (f r)).advance := by
  have hg : g r = fun i => ((f r i).val, (f r i).ov, (f r i).sat) := funext fun i => (h i).symm
  unfold ActiveLanesTo JobRegs.laneOp JobRegs.setActive
  rw [hg]
  refine ⟨fun i => ?_, fun x hx => ?_, fun i => ?_, fun i => ?_, ?_, ?_⟩
  · have := JobRegs.lane_setLanes r W vd (fun i => if r.active pg i then (f r i).val else r.lane W vd i) i
    cases W <;> exact this
  · exact JobRegs.vget_setLanes_ne r W _ hx
  · rw [JobRegs.setLanes_eq]; exact bit_or_laneMask _ _ i
  · rw [JobRegs.setLanes_eq]; exact bit_or_laneMask _ _ i
  · rw [JobRegs.setLanes_eq]; exact pcMoved_pcPlus _ _
  · rw [JobRegs.setLanes_eq]; rfl

/-- A predicated write without flags (R164). -/
theorem JobRegs.activeLanesTo_setActive (W : Bool) (vd : VReg) (pg : PReg) (f : JobRegs → Fin 32 → BitVec (laneWidth W)) :
    ActiveLanesTo W vd pg (fun r i => bare (f r i)) r (r.setActive W vd pg (f r)).advance := by
  have h := JobRegs.lanesTo_setLanes r W vd (fun i => if r.active pg i then f r i else r.lane W vd i)
  simpa [ActiveLanesTo, bare, JobRegs.setActive] using h

end Sys2Proof.Machine
end

