-- ==== Sys2Proof/Laws/Memory.lean ====
section
/-! SUPPORT. What the operations over memory do, and that each keeps its canonical form. -/

namespace Sys2Proof.Machine

/-- The listed addresses rise strictly. -/
abbrev Rising (cs : List Host.Cell) : Prop := cs.Pairwise fun c d => c.1 < d.1

theorem Memory.wf_iff (m : Memory) :
    m.wf = true ↔ Rising m.cells ∧ (∀ c ∈ m.cells, Memory.lists c.1 c.2 = true) ∧ m.poison.Pairwise (· < ·) := by
  simp [Memory.wf, and_assoc]

/-- Memory after reset is in canonical form. -/
theorem Memory.reset_wf : Memory.reset.wf = true := by decide

/-! One byte. -/

theorem mem_cellsPut {cs : List Host.Cell} {a : Nat} {b : Byte} {c : Host.Cell} (h : c ∈ cellsPut cs a b) :
    c ∈ cs ∨ (c = (a, b) ∧ Memory.lists a b = true) := by
  induction cs with
  | nil =>
    simp only [cellsPut] at h
    split at h
    · simp at h; exact .inr ⟨h, ‹_›⟩
    · simp at h
  | cons d ds ih =>
    simp only [cellsPut] at h
    split at h
    · rcases List.mem_cons.1 h with h | h
      · exact .inl (by simp [h])
      · rcases ih h with h | h
        · exact .inl (List.mem_cons_of_mem _ h)
        · exact .inr h
    · split at h
      · split at h
        · rcases List.mem_cons.1 h with h | h
          · exact .inr ⟨h, ‹_›⟩
          · exact .inl (List.mem_cons_of_mem _ h)
        · exact .inl (List.mem_cons_of_mem _ h)
      · split at h
        · rcases List.mem_cons.1 h with h | h
          · exact .inr ⟨h, ‹_›⟩
          · exact .inl h
        · exact .inl h

theorem rising_cellsPut {cs : List Host.Cell} (h : Rising cs) (a : Nat) (b : Byte) : Rising (cellsPut cs a b) := by
  induction cs with
  | nil => simp only [cellsPut]; split <;> simp [Rising]
  | cons d ds ih =>
    obtain ⟨h1, h2⟩ := List.pairwise_cons.1 h
    simp only [cellsPut]
    split
    · refine List.pairwise_cons.2 ⟨fun c hc => ?_, ih h2⟩
      rcases mem_cellsPut hc with hc | ⟨rfl, -⟩
      · exact h1 c hc
      · assumption
    · split
      · rename_i _ e
        split
        · exact List.pairwise_cons.2 ⟨fun c hc => by have := h1 c hc; simp only; omega, h2⟩
        · exact h2
      · rename_i h3 h4
        split
        · refine List.pairwise_cons.2 ⟨fun c hc => ?_, h⟩
          rcases List.mem_cons.1 hc with rfl | hc
          · simp only; omega
          · have := h1 c hc; simp only; omega
        · exact h

theorem Memory.wf_put {m : Memory} (h : m.wf = true) (a : Nat) (b : Byte) : (m.put a b).wf = true := by
  rw [Memory.wf_iff] at *
  obtain ⟨h1, h2, h3⟩ := h
  refine ⟨rising_cellsPut h1 a b, fun c hc => ?_, h3⟩
  rcases mem_cellsPut hc with hc | ⟨rfl, h⟩
  · exact h2 c hc
  · exact h

theorem Memory.wf_puts {m : Memory} (h : m.wf = true) (cs : List Host.Cell) : (m.puts cs).wf = true := by
  induction cs generalizing m with
  | nil => exact h
  | cons c cs ih => exact ih (Memory.wf_put h c.1 c.2)

theorem Memory.wf_unmark {m : Memory} (h : m.wf = true) (ws : List Nat) : (m.unmark ws).wf = true := by
  rw [Memory.wf_iff] at *
  exact ⟨h.1, h.2.1, h.2.2.filter _⟩

theorem mem_wordsAdd {xs : List Nat} {w x : Nat} (h : x ∈ wordsAdd xs w) : x ∈ xs ∨ x = w := by
  induction xs with
  | nil => simpa [wordsAdd] using h
  | cons y ys ih =>
    simp only [wordsAdd] at h
    split at h
    · rcases List.mem_cons.1 h with h | h
      · exact .inl (by simp [h])
      · rcases ih h with h | h
        · exact .inl (List.mem_cons_of_mem _ h)
        · exact .inr h
    · split at h
      · exact .inl h
      · rcases List.mem_cons.1 h with h | h
        · exact .inr h
        · exact .inl h

theorem rising_wordsAdd {xs : List Nat} (h : xs.Pairwise (· < ·)) (w : Nat) : (wordsAdd xs w).Pairwise (· < ·) := by
  induction xs with
  | nil => simp [wordsAdd]
  | cons y ys ih =>
    obtain ⟨h1, h2⟩ := List.pairwise_cons.1 h
    simp only [wordsAdd]
    split
    · refine List.pairwise_cons.2 ⟨fun c hc => ?_, ih h2⟩
      rcases mem_wordsAdd hc with hc | rfl
      · exact h1 c hc
      · assumption
    · split
      · exact h
      · refine List.pairwise_cons.2 ⟨fun c hc => ?_, h⟩
        rcases List.mem_cons.1 hc with rfl | hc
        · omega
        · have := h1 c hc; omega

theorem Memory.wf_mark {m : Memory} (h : m.wf = true) (ws : List Nat) : (m.mark ws).wf = true := by
  rw [Memory.wf_iff] at *
  refine ⟨h.1, h.2.1, ?_⟩
  have : ∀ xs : List Nat, xs.Pairwise (· < ·) → (ws.foldl wordsAdd xs).Pairwise (· < ·) := by
    induction ws with
    | nil => exact fun xs h => h
    | cons w ws ih => exact fun xs h => ih _ (rising_wordsAdd h w)
  exact this _ h.2.2

/-- A store keeps the canonical form. -/
theorem Memory.wf_store {m : Memory} (h : m.wf = true) (cs : List Host.Cell) : (m.store cs).wf = true :=
  Memory.wf_unmark (Memory.wf_puts h cs) _

theorem mem_cellsAt {a : Nat} {bs : List Byte} {c : Host.Cell} (h : c ∈ cellsAt a bs) : a ≤ c.1 ∧ c.1 < a + bs.length := by
  induction bs generalizing a with
  | nil => simp [cellsAt] at h
  | cons b bs ih =>
    rcases List.mem_cons.1 h with rfl | h
    · simp
    · have := ih h
      simp only [List.length_cons]; omega

theorem rising_cellsAt (a : Nat) (bs : List Byte) : Rising (cellsAt a bs) := by
  induction bs generalizing a with
  | nil => simp [cellsAt, Rising]
  | cons b bs ih =>
    refine List.pairwise_cons.2 ⟨fun c hc => ?_, ih _⟩
    have := mem_cellsAt hc
    simp only; omega

/-- A write of a block keeps the canonical form. -/
theorem Memory.wf_deviceWrite {m : Memory} (h : m.wf = true) (a : Nat) (bs : List Byte) : (m.deviceWrite a bs).wf = true := by
  rw [Memory.wf_iff] at *
  obtain ⟨h1, h2, h3⟩ := h
  refine ⟨?_, fun c hc => ?_, h3.filter _⟩
  · refine List.pairwise_append.2 ⟨?_, ?_, ?_⟩
    · refine List.pairwise_append.2 ⟨h1.filter _, (rising_cellsAt a bs).filter _, fun c hc d hd => ?_⟩
      have h4 := mem_cellsAt (List.mem_of_mem_filter hd)
      have h5 := (List.mem_filter.1 hc).2
      simp at h5; omega
    · exact h1.filter _
    · intro c hc d hd
      have h5 := (List.mem_filter.1 hd).2
      simp at h5
      rcases List.mem_append.1 hc with hc | hc
      · have h6 := (List.mem_filter.1 hc).2; simp at h6; omega
      · have h6 := mem_cellsAt (List.mem_of_mem_filter hc); omega
  · rcases List.mem_append.1 hc with hc | hc
    · rcases List.mem_append.1 hc with hc | hc
      · exact h2 c (List.mem_of_mem_filter hc)
      · exact (List.mem_filter.1 hc).2
    · exact h2 c (List.mem_of_mem_filter hc)

/-! Reads after writes. -/

/-- The cell that a read of `a` finds. -/
def cellAt (cs : List Host.Cell) (a : Nat) : Byte :=
  match cs.find? fun c => c.1 = a with
  | some c => c.2
  | none => Memory.unlisted a

theorem Memory.get_eq (m : Memory) (a : Nat) : m.get a = cellAt m.cells a := rfl

theorem cellAt_cons (c : Host.Cell) (cs : List Host.Cell) (a : Nat) : cellAt (c :: cs) a = if c.1 = a then c.2 else cellAt cs a := by
  simp only [cellAt, List.find?_cons]
  by_cases h : c.1 = a <;> simp [h]

theorem cellAt_of_lt {cs : List Host.Cell} {a : Nat} (h : ∀ c ∈ cs, a < c.1) : cellAt cs a = Memory.unlisted a := by
  have : cs.find? (fun c => c.1 = a) = none := by
    rw [List.find?_eq_none]; intro c hc; have := h c hc; simp; omega
  simp [cellAt, this]

/-- A byte that memory need not list is what an unlisted address reads. -/
theorem unlisted_of_not_lists {a : Nat} {b : Byte} (h : Memory.lists a b = false) : Memory.unlisted a = b := by
  simp only [Memory.lists, Bool.or_eq_false_iff, decide_eq_false_iff_not] at h
  have h2 : b = 0 := by simpa using h.2
  simp only [Memory.unlisted, h.1, if_false, h2]

/-- A byte written reads back, and every other address reads as before, in canonical form. -/
theorem cellAt_cellsPut {cs : List Host.Cell} (h : Rising cs) (a : Nat) (b : Byte) (x : Nat) :
    cellAt (cellsPut cs a b) x = if x = a then b else cellAt cs x := by
  induction cs with
  | nil =>
    simp only [cellsPut]
    by_cases hl : Memory.lists a b = true
    · rw [if_pos hl, cellAt_cons]
      by_cases hx : x = a
      · simp [hx]
      · simp [hx, Ne.symm hx]
    · rw [if_neg hl]
      by_cases hx : x = a
      · subst hx; rw [if_pos rfl]; exact unlisted_of_not_lists (by simpa using hl)
      · rw [if_neg hx]
  | cons c cs ih =>
    obtain ⟨h1, h2⟩ := List.pairwise_cons.1 h
    simp only [cellsPut]
    split
    · rename_i hc
      rw [cellAt_cons, cellAt_cons, ih h2]
      by_cases hx : c.1 = x
      · have : x ≠ a := by omega
        simp [hx, this]
      · simp [hx]
    · split
      · rename_i hc
        by_cases hl : Memory.lists a b = true
        · rw [if_pos hl, cellAt_cons, cellAt_cons]
          by_cases hx : x = a
          · simp [hx]
          · simp [hx, Ne.symm hx, hc]
        · rw [if_neg hl, cellAt_cons]
          by_cases hx : x = a
          · subst hx
            rw [if_pos rfl, cellAt_of_lt (fun d hd => by have := h1 d hd; omega)]
            exact unlisted_of_not_lists (by simpa using hl)
          · simp [hx, Ne.symm hx, hc]
      · rename_i h3 h4
        by_cases hl : Memory.lists a b = true
        · rw [if_pos hl, cellAt_cons]
          by_cases hx : x = a
          · simp [hx]
          · simp [hx, Ne.symm hx]
        · rw [if_neg hl]
          by_cases hx : x = a
          · subst hx
            rw [if_pos rfl, cellAt_of_lt (fun d hd => by
              rcases List.mem_cons.1 hd with rfl | hd
              · omega
              · have := h1 d hd; omega)]
            exact unlisted_of_not_lists (by simpa using hl)
          · rw [if_neg hx]

/-- A read after a write of one byte. -/
theorem Memory.get_put {m : Memory} (h : m.wf = true) (a : Nat) (b : Byte) (x : Nat) :
    (m.put a b).get x = if x = a then b else m.get x :=
  cellAt_cellsPut ((Memory.wf_iff m).1 h).1 a b x

/-- A write of bytes leaves every other address alone. -/
theorem Memory.get_puts_of_notMem {m : Memory} (h : m.wf = true) (cs : List Host.Cell) (x : Nat) (hx : ∀ c ∈ cs, c.1 ≠ x) :
    (m.puts cs).get x = m.get x := by
  induction cs generalizing m with
  | nil => rfl
  | cons c cs ih =>
    show ((m.put c.1 c.2).puts cs).get x = _
    rw [ih (Memory.wf_put h _ _) fun d hd => hx d (List.mem_cons_of_mem _ hd), Memory.get_put h,
      if_neg (Ne.symm (hx c (List.mem_cons_self ..)))]

@[simp] theorem Memory.get_unmark (m : Memory) (ws : List Nat) (x : Nat) : (m.unmark ws).get x = m.get x := rfl
@[simp] theorem Memory.get_mark (m : Memory) (ws : List Nat) (x : Nat) : (m.mark ws).get x = m.get x := rfl

/-- A store leaves every address outside its bytes alone. -/
theorem Memory.get_store_of_notMem {m : Memory} (h : m.wf = true) (cs : List Host.Cell) (x : Nat) (hx : ∀ c ∈ cs, c.1 ≠ x) :
    (m.store cs).get x = m.get x := by
  rw [Memory.store, Memory.get_unmark, Memory.get_puts_of_notMem h cs x hx]

end Sys2Proof.Machine
end

