-- ==== Sys2Proof/Laws/State.lean ====
section
/-! SUPPORT. One law per field of the state for each named update of one unit: every other field stays. -/

namespace Sys2Proof.Machine

section
variable (s : State) (b : BayIx) (q : CartIx) (p : PortIx) (k : StreamIx) (e : EngIx) (t : TmrIx) (c : ConvIx) (d : Fin 4) (x : CtxIx)

section
variable (f : Bay → Bay)

@[simp] theorem State.onBay_pending : (s.onBay b f).pending = s.pending := rfl
@[simp] theorem State.onBay_tb : (s.onBay b f).tb = s.tb := rfl
@[simp] theorem State.onBay_tbRun : (s.onBay b f).tbRun = s.tbRun := rfl
@[simp] theorem State.onBay_timeSource : (s.onBay b f).timeSource = s.timeSource := rfl
@[simp] theorem State.onBay_sensor : (s.onBay b f).sensor = s.sensor := rfl
@[simp] theorem State.onBay_groom : (s.onBay b f).groom = s.groom := rfl
@[simp] theorem State.onBay_ctx : (s.onBay b f).ctx = s.ctx := rfl
@[simp] theorem State.onBay_tick : (s.onBay b f).tick = s.tick := rfl
@[simp] theorem State.onBay_enc : (s.onBay b f).enc = s.enc := rfl
@[simp] theorem State.onBay_sync : (s.onBay b f).sync = s.sync := rfl
@[simp] theorem State.onBay_mode : (s.onBay b f).mode = s.mode := rfl
@[simp] theorem State.onBay_chore : (s.onBay b f).chore = s.chore := rfl
@[simp] theorem State.onBay_cap : (s.onBay b f).cap = s.cap := rfl
@[simp] theorem State.onBay_port : (s.onBay b f).port = s.port := rfl
theorem State.onBay_det : (s.onBay b f).det = { s.det with bays := vmod s.det.bays b f } := rfl
@[simp] theorem State.onBay_mem : (s.onBay b f).mem = s.mem := rfl
@[simp] theorem State.onBay_host : (s.onBay b f).host = s.host := rfl
@[simp] theorem State.onBay_tack : (s.onBay b f).tack = s.tack := rfl
@[simp] theorem State.onBay_fuse : (s.onBay b f).fuse = s.fuse := rfl
@[simp] theorem State.onBay_nvm : (s.onBay b f).nvm = s.nvm := rfl
@[simp] theorem State.onBay_bkp : (s.onBay b f).bkp = s.bkp := rfl
@[simp] theorem State.onBay_pwr : (s.onBay b f).pwr = s.pwr := rfl
@[simp] theorem State.onBay_clk : (s.onBay b f).clk = s.clk := rfl
@[simp] theorem State.onBay_ts : (s.onBay b f).ts = s.ts := rfl
@[simp] theorem State.onBay_hk : (s.onBay b f).hk = s.hk := rfl
@[simp] theorem State.onBay_flt : (s.onBay b f).flt = s.flt := rfl
@[simp] theorem State.onBay_wdt : (s.onBay b f).wdt = s.wdt := rfl
@[simp] theorem State.onBay_dbg : (s.onBay b f).dbg = s.dbg := rfl
end

section
variable (f : Cart → Cart)

@[simp] theorem State.onCart_pending : (s.onCart q f).pending = s.pending := rfl
@[simp] theorem State.onCart_tb : (s.onCart q f).tb = s.tb := rfl
@[simp] theorem State.onCart_tbRun : (s.onCart q f).tbRun = s.tbRun := rfl
@[simp] theorem State.onCart_timeSource : (s.onCart q f).timeSource = s.timeSource := rfl
@[simp] theorem State.onCart_sensor : (s.onCart q f).sensor = s.sensor := rfl
@[simp] theorem State.onCart_groom : (s.onCart q f).groom = s.groom := rfl
@[simp] theorem State.onCart_ctx : (s.onCart q f).ctx = s.ctx := rfl
@[simp] theorem State.onCart_tick : (s.onCart q f).tick = s.tick := rfl
@[simp] theorem State.onCart_enc : (s.onCart q f).enc = s.enc := rfl
@[simp] theorem State.onCart_sync : (s.onCart q f).sync = s.sync := rfl
@[simp] theorem State.onCart_mode : (s.onCart q f).mode = s.mode := rfl
@[simp] theorem State.onCart_chore : (s.onCart q f).chore = s.chore := rfl
@[simp] theorem State.onCart_cap : (s.onCart q f).cap = s.cap := rfl
@[simp] theorem State.onCart_port : (s.onCart q f).port = s.port := rfl
theorem State.onCart_det : (s.onCart q f).det = { s.det with carts := vmod s.det.carts q f } := rfl
@[simp] theorem State.onCart_mem : (s.onCart q f).mem = s.mem := rfl
@[simp] theorem State.onCart_host : (s.onCart q f).host = s.host := rfl
@[simp] theorem State.onCart_tack : (s.onCart q f).tack = s.tack := rfl
@[simp] theorem State.onCart_fuse : (s.onCart q f).fuse = s.fuse := rfl
@[simp] theorem State.onCart_nvm : (s.onCart q f).nvm = s.nvm := rfl
@[simp] theorem State.onCart_bkp : (s.onCart q f).bkp = s.bkp := rfl
@[simp] theorem State.onCart_pwr : (s.onCart q f).pwr = s.pwr := rfl
@[simp] theorem State.onCart_clk : (s.onCart q f).clk = s.clk := rfl
@[simp] theorem State.onCart_ts : (s.onCart q f).ts = s.ts := rfl
@[simp] theorem State.onCart_hk : (s.onCart q f).hk = s.hk := rfl
@[simp] theorem State.onCart_flt : (s.onCart q f).flt = s.flt := rfl
@[simp] theorem State.onCart_wdt : (s.onCart q f).wdt = s.wdt := rfl
@[simp] theorem State.onCart_dbg : (s.onCart q f).dbg = s.dbg := rfl
end

section
variable (f : Port → Port)

@[simp] theorem State.onPort_pending : (s.onPort p f).pending = s.pending := rfl
@[simp] theorem State.onPort_tb : (s.onPort p f).tb = s.tb := rfl
@[simp] theorem State.onPort_tbRun : (s.onPort p f).tbRun = s.tbRun := rfl
@[simp] theorem State.onPort_timeSource : (s.onPort p f).timeSource = s.timeSource := rfl
@[simp] theorem State.onPort_sensor : (s.onPort p f).sensor = s.sensor := rfl
@[simp] theorem State.onPort_groom : (s.onPort p f).groom = s.groom := rfl
@[simp] theorem State.onPort_ctx : (s.onPort p f).ctx = s.ctx := rfl
@[simp] theorem State.onPort_tick : (s.onPort p f).tick = s.tick := rfl
@[simp] theorem State.onPort_enc : (s.onPort p f).enc = s.enc := rfl
@[simp] theorem State.onPort_sync : (s.onPort p f).sync = s.sync := rfl
@[simp] theorem State.onPort_mode : (s.onPort p f).mode = s.mode := rfl
@[simp] theorem State.onPort_chore : (s.onPort p f).chore = s.chore := rfl
@[simp] theorem State.onPort_cap : (s.onPort p f).cap = s.cap := rfl
@[simp] theorem State.onPort_det : (s.onPort p f).det = s.det := rfl
@[simp] theorem State.onPort_mem : (s.onPort p f).mem = s.mem := rfl
@[simp] theorem State.onPort_host : (s.onPort p f).host = s.host := rfl
@[simp] theorem State.onPort_tack : (s.onPort p f).tack = s.tack := rfl
@[simp] theorem State.onPort_fuse : (s.onPort p f).fuse = s.fuse := rfl
@[simp] theorem State.onPort_nvm : (s.onPort p f).nvm = s.nvm := rfl
@[simp] theorem State.onPort_bkp : (s.onPort p f).bkp = s.bkp := rfl
@[simp] theorem State.onPort_pwr : (s.onPort p f).pwr = s.pwr := rfl
@[simp] theorem State.onPort_clk : (s.onPort p f).clk = s.clk := rfl
@[simp] theorem State.onPort_ts : (s.onPort p f).ts = s.ts := rfl
@[simp] theorem State.onPort_hk : (s.onPort p f).hk = s.hk := rfl
@[simp] theorem State.onPort_flt : (s.onPort p f).flt = s.flt := rfl
@[simp] theorem State.onPort_wdt : (s.onPort p f).wdt = s.wdt := rfl
@[simp] theorem State.onPort_dbg : (s.onPort p f).dbg = s.dbg := rfl
end

section
variable (f : DataStream → DataStream)

@[simp] theorem State.onStream_pending : (s.onStream k f).pending = s.pending := rfl
@[simp] theorem State.onStream_tb : (s.onStream k f).tb = s.tb := rfl
@[simp] theorem State.onStream_tbRun : (s.onStream k f).tbRun = s.tbRun := rfl
@[simp] theorem State.onStream_timeSource : (s.onStream k f).timeSource = s.timeSource := rfl
@[simp] theorem State.onStream_sensor : (s.onStream k f).sensor = s.sensor := rfl
@[simp] theorem State.onStream_groom : (s.onStream k f).groom = s.groom := rfl
@[simp] theorem State.onStream_ctx : (s.onStream k f).ctx = s.ctx := rfl
@[simp] theorem State.onStream_tick : (s.onStream k f).tick = s.tick := rfl
@[simp] theorem State.onStream_enc : (s.onStream k f).enc = s.enc := rfl
@[simp] theorem State.onStream_sync : (s.onStream k f).sync = s.sync := rfl
@[simp] theorem State.onStream_mode : (s.onStream k f).mode = s.mode := rfl
@[simp] theorem State.onStream_chore : (s.onStream k f).chore = s.chore := rfl
@[simp] theorem State.onStream_cap : (s.onStream k f).cap = s.cap := rfl
@[simp] theorem State.onStream_det : (s.onStream k f).det = s.det := rfl
@[simp] theorem State.onStream_mem : (s.onStream k f).mem = s.mem := rfl
@[simp] theorem State.onStream_host : (s.onStream k f).host = s.host := rfl
@[simp] theorem State.onStream_tack : (s.onStream k f).tack = s.tack := rfl
@[simp] theorem State.onStream_fuse : (s.onStream k f).fuse = s.fuse := rfl
@[simp] theorem State.onStream_nvm : (s.onStream k f).nvm = s.nvm := rfl
@[simp] theorem State.onStream_bkp : (s.onStream k f).bkp = s.bkp := rfl
@[simp] theorem State.onStream_pwr : (s.onStream k f).pwr = s.pwr := rfl
@[simp] theorem State.onStream_clk : (s.onStream k f).clk = s.clk := rfl
@[simp] theorem State.onStream_ts : (s.onStream k f).ts = s.ts := rfl
@[simp] theorem State.onStream_hk : (s.onStream k f).hk = s.hk := rfl
@[simp] theorem State.onStream_flt : (s.onStream k f).flt = s.flt := rfl
@[simp] theorem State.onStream_wdt : (s.onStream k f).wdt = s.wdt := rfl
@[simp] theorem State.onStream_dbg : (s.onStream k f).dbg = s.dbg := rfl
end

section
variable (f : Engine → Engine)

@[simp] theorem State.onEng_pending : (s.onEng e f).pending = s.pending := rfl
@[simp] theorem State.onEng_tb : (s.onEng e f).tb = s.tb := rfl
@[simp] theorem State.onEng_tbRun : (s.onEng e f).tbRun = s.tbRun := rfl
@[simp] theorem State.onEng_timeSource : (s.onEng e f).timeSource = s.timeSource := rfl
@[simp] theorem State.onEng_sensor : (s.onEng e f).sensor = s.sensor := rfl
@[simp] theorem State.onEng_groom : (s.onEng e f).groom = s.groom := rfl
@[simp] theorem State.onEng_ctx : (s.onEng e f).ctx = s.ctx := rfl
@[simp] theorem State.onEng_tick : (s.onEng e f).tick = s.tick := rfl
@[simp] theorem State.onEng_enc : (s.onEng e f).enc = s.enc := rfl
@[simp] theorem State.onEng_sync : (s.onEng e f).sync = s.sync := rfl
@[simp] theorem State.onEng_mode : (s.onEng e f).mode = s.mode := rfl
@[simp] theorem State.onEng_chore : (s.onEng e f).chore = s.chore := rfl
@[simp] theorem State.onEng_cap : (s.onEng e f).cap = s.cap := rfl
@[simp] theorem State.onEng_port : (s.onEng e f).port = s.port := rfl
@[simp] theorem State.onEng_det : (s.onEng e f).det = s.det := rfl
@[simp] theorem State.onEng_mem : (s.onEng e f).mem = s.mem := rfl
@[simp] theorem State.onEng_host : (s.onEng e f).host = s.host := rfl
@[simp] theorem State.onEng_tack : (s.onEng e f).tack = s.tack := rfl
@[simp] theorem State.onEng_fuse : (s.onEng e f).fuse = s.fuse := rfl
@[simp] theorem State.onEng_nvm : (s.onEng e f).nvm = s.nvm := rfl
@[simp] theorem State.onEng_bkp : (s.onEng e f).bkp = s.bkp := rfl
@[simp] theorem State.onEng_pwr : (s.onEng e f).pwr = s.pwr := rfl
@[simp] theorem State.onEng_clk : (s.onEng e f).clk = s.clk := rfl
theorem State.onEng_ts : (s.onEng e f).ts = { s.ts with eng := vmod s.ts.eng e f } := rfl
@[simp] theorem State.onEng_hk : (s.onEng e f).hk = s.hk := rfl
@[simp] theorem State.onEng_flt : (s.onEng e f).flt = s.flt := rfl
@[simp] theorem State.onEng_wdt : (s.onEng e f).wdt = s.wdt := rfl
@[simp] theorem State.onEng_dbg : (s.onEng e f).dbg = s.dbg := rfl
end

section
variable (f : Timer → Timer)

@[simp] theorem State.onTmr_pending : (s.onTmr t f).pending = s.pending := rfl
@[simp] theorem State.onTmr_tb : (s.onTmr t f).tb = s.tb := rfl
@[simp] theorem State.onTmr_tbRun : (s.onTmr t f).tbRun = s.tbRun := rfl
@[simp] theorem State.onTmr_timeSource : (s.onTmr t f).timeSource = s.timeSource := rfl
@[simp] theorem State.onTmr_sensor : (s.onTmr t f).sensor = s.sensor := rfl
@[simp] theorem State.onTmr_groom : (s.onTmr t f).groom = s.groom := rfl
@[simp] theorem State.onTmr_ctx : (s.onTmr t f).ctx = s.ctx := rfl
@[simp] theorem State.onTmr_tick : (s.onTmr t f).tick = s.tick := rfl
@[simp] theorem State.onTmr_enc : (s.onTmr t f).enc = s.enc := rfl
@[simp] theorem State.onTmr_sync : (s.onTmr t f).sync = s.sync := rfl
@[simp] theorem State.onTmr_mode : (s.onTmr t f).mode = s.mode := rfl
@[simp] theorem State.onTmr_chore : (s.onTmr t f).chore = s.chore := rfl
@[simp] theorem State.onTmr_cap : (s.onTmr t f).cap = s.cap := rfl
@[simp] theorem State.onTmr_port : (s.onTmr t f).port = s.port := rfl
@[simp] theorem State.onTmr_det : (s.onTmr t f).det = s.det := rfl
@[simp] theorem State.onTmr_mem : (s.onTmr t f).mem = s.mem := rfl
@[simp] theorem State.onTmr_host : (s.onTmr t f).host = s.host := rfl
@[simp] theorem State.onTmr_tack : (s.onTmr t f).tack = s.tack := rfl
@[simp] theorem State.onTmr_fuse : (s.onTmr t f).fuse = s.fuse := rfl
@[simp] theorem State.onTmr_nvm : (s.onTmr t f).nvm = s.nvm := rfl
@[simp] theorem State.onTmr_bkp : (s.onTmr t f).bkp = s.bkp := rfl
@[simp] theorem State.onTmr_pwr : (s.onTmr t f).pwr = s.pwr := rfl
@[simp] theorem State.onTmr_clk : (s.onTmr t f).clk = s.clk := rfl
theorem State.onTmr_ts : (s.onTmr t f).ts = { s.ts with tmr := vmod s.ts.tmr t f } := rfl
@[simp] theorem State.onTmr_hk : (s.onTmr t f).hk = s.hk := rfl
@[simp] theorem State.onTmr_flt : (s.onTmr t f).flt = s.flt := rfl
@[simp] theorem State.onTmr_wdt : (s.onTmr t f).wdt = s.wdt := rfl
@[simp] theorem State.onTmr_dbg : (s.onTmr t f).dbg = s.dbg := rfl
end

section
variable (f : Conv → Conv)

@[simp] theorem State.onConv_pending : (s.onConv c f).pending = s.pending := rfl
@[simp] theorem State.onConv_tb : (s.onConv c f).tb = s.tb := rfl
@[simp] theorem State.onConv_tbRun : (s.onConv c f).tbRun = s.tbRun := rfl
@[simp] theorem State.onConv_timeSource : (s.onConv c f).timeSource = s.timeSource := rfl
@[simp] theorem State.onConv_sensor : (s.onConv c f).sensor = s.sensor := rfl
@[simp] theorem State.onConv_groom : (s.onConv c f).groom = s.groom := rfl
@[simp] theorem State.onConv_ctx : (s.onConv c f).ctx = s.ctx := rfl
@[simp] theorem State.onConv_tick : (s.onConv c f).tick = s.tick := rfl
@[simp] theorem State.onConv_enc : (s.onConv c f).enc = s.enc := rfl
@[simp] theorem State.onConv_sync : (s.onConv c f).sync = s.sync := rfl
@[simp] theorem State.onConv_mode : (s.onConv c f).mode = s.mode := rfl
@[simp] theorem State.onConv_chore : (s.onConv c f).chore = s.chore := rfl
@[simp] theorem State.onConv_cap : (s.onConv c f).cap = s.cap := rfl
@[simp] theorem State.onConv_port : (s.onConv c f).port = s.port := rfl
@[simp] theorem State.onConv_det : (s.onConv c f).det = s.det := rfl
@[simp] theorem State.onConv_mem : (s.onConv c f).mem = s.mem := rfl
@[simp] theorem State.onConv_host : (s.onConv c f).host = s.host := rfl
@[simp] theorem State.onConv_tack : (s.onConv c f).tack = s.tack := rfl
@[simp] theorem State.onConv_fuse : (s.onConv c f).fuse = s.fuse := rfl
@[simp] theorem State.onConv_nvm : (s.onConv c f).nvm = s.nvm := rfl
@[simp] theorem State.onConv_bkp : (s.onConv c f).bkp = s.bkp := rfl
@[simp] theorem State.onConv_pwr : (s.onConv c f).pwr = s.pwr := rfl
@[simp] theorem State.onConv_clk : (s.onConv c f).clk = s.clk := rfl
@[simp] theorem State.onConv_ts : (s.onConv c f).ts = s.ts := rfl
theorem State.onConv_hk : (s.onConv c f).hk = { s.hk with conv := vmod s.hk.conv c f } := rfl
@[simp] theorem State.onConv_flt : (s.onConv c f).flt = s.flt := rfl
@[simp] theorem State.onConv_wdt : (s.onConv c f).wdt = s.wdt := rfl
@[simp] theorem State.onConv_dbg : (s.onConv c f).dbg = s.dbg := rfl
end

section
variable (f : Dac → Dac)

@[simp] theorem State.onDac_pending : (s.onDac d f).pending = s.pending := rfl
@[simp] theorem State.onDac_tb : (s.onDac d f).tb = s.tb := rfl
@[simp] theorem State.onDac_tbRun : (s.onDac d f).tbRun = s.tbRun := rfl
@[simp] theorem State.onDac_timeSource : (s.onDac d f).timeSource = s.timeSource := rfl
@[simp] theorem State.onDac_sensor : (s.onDac d f).sensor = s.sensor := rfl
@[simp] theorem State.onDac_groom : (s.onDac d f).groom = s.groom := rfl
@[simp] theorem State.onDac_ctx : (s.onDac d f).ctx = s.ctx := rfl
@[simp] theorem State.onDac_tick : (s.onDac d f).tick = s.tick := rfl
@[simp] theorem State.onDac_enc : (s.onDac d f).enc = s.enc := rfl
@[simp] theorem State.onDac_sync : (s.onDac d f).sync = s.sync := rfl
@[simp] theorem State.onDac_mode : (s.onDac d f).mode = s.mode := rfl
@[simp] theorem State.onDac_chore : (s.onDac d f).chore = s.chore := rfl
@[simp] theorem State.onDac_cap : (s.onDac d f).cap = s.cap := rfl
@[simp] theorem State.onDac_port : (s.onDac d f).port = s.port := rfl
@[simp] theorem State.onDac_det : (s.onDac d f).det = s.det := rfl
@[simp] theorem State.onDac_mem : (s.onDac d f).mem = s.mem := rfl
@[simp] theorem State.onDac_host : (s.onDac d f).host = s.host := rfl
@[simp] theorem State.onDac_tack : (s.onDac d f).tack = s.tack := rfl
@[simp] theorem State.onDac_fuse : (s.onDac d f).fuse = s.fuse := rfl
@[simp] theorem State.onDac_nvm : (s.onDac d f).nvm = s.nvm := rfl
@[simp] theorem State.onDac_bkp : (s.onDac d f).bkp = s.bkp := rfl
@[simp] theorem State.onDac_pwr : (s.onDac d f).pwr = s.pwr := rfl
@[simp] theorem State.onDac_clk : (s.onDac d f).clk = s.clk := rfl
@[simp] theorem State.onDac_ts : (s.onDac d f).ts = s.ts := rfl
theorem State.onDac_hk : (s.onDac d f).hk = { s.hk with dac := vmod s.hk.dac d f } := rfl
@[simp] theorem State.onDac_flt : (s.onDac d f).flt = s.flt := rfl
@[simp] theorem State.onDac_wdt : (s.onDac d f).wdt = s.wdt := rfl
@[simp] theorem State.onDac_dbg : (s.onDac d f).dbg = s.dbg := rfl
end

section
variable (f : Ctx → Ctx)

@[simp] theorem State.onCtx_pending : (s.onCtx x f).pending = s.pending := rfl
@[simp] theorem State.onCtx_tb : (s.onCtx x f).tb = s.tb := rfl
@[simp] theorem State.onCtx_tbRun : (s.onCtx x f).tbRun = s.tbRun := rfl
@[simp] theorem State.onCtx_timeSource : (s.onCtx x f).timeSource = s.timeSource := rfl
@[simp] theorem State.onCtx_sensor : (s.onCtx x f).sensor = s.sensor := rfl
@[simp] theorem State.onCtx_groom : (s.onCtx x f).groom = s.groom := rfl
theorem State.onCtx_ctx : (s.onCtx x f).ctx = vmod s.ctx x f := rfl
@[simp] theorem State.onCtx_tick : (s.onCtx x f).tick = s.tick := rfl
@[simp] theorem State.onCtx_enc : (s.onCtx x f).enc = s.enc := rfl
@[simp] theorem State.onCtx_sync : (s.onCtx x f).sync = s.sync := rfl
@[simp] theorem State.onCtx_mode : (s.onCtx x f).mode = s.mode := rfl
@[simp] theorem State.onCtx_chore : (s.onCtx x f).chore = s.chore := rfl
@[simp] theorem State.onCtx_cap : (s.onCtx x f).cap = s.cap := rfl
@[simp] theorem State.onCtx_port : (s.onCtx x f).port = s.port := rfl
@[simp] theorem State.onCtx_det : (s.onCtx x f).det = s.det := rfl
@[simp] theorem State.onCtx_mem : (s.onCtx x f).mem = s.mem := rfl
@[simp] theorem State.onCtx_host : (s.onCtx x f).host = s.host := rfl
@[simp] theorem State.onCtx_tack : (s.onCtx x f).tack = s.tack := rfl
@[simp] theorem State.onCtx_fuse : (s.onCtx x f).fuse = s.fuse := rfl
@[simp] theorem State.onCtx_nvm : (s.onCtx x f).nvm = s.nvm := rfl
@[simp] theorem State.onCtx_bkp : (s.onCtx x f).bkp = s.bkp := rfl
@[simp] theorem State.onCtx_pwr : (s.onCtx x f).pwr = s.pwr := rfl
@[simp] theorem State.onCtx_clk : (s.onCtx x f).clk = s.clk := rfl
@[simp] theorem State.onCtx_ts : (s.onCtx x f).ts = s.ts := rfl
@[simp] theorem State.onCtx_hk : (s.onCtx x f).hk = s.hk := rfl
@[simp] theorem State.onCtx_flt : (s.onCtx x f).flt = s.flt := rfl
@[simp] theorem State.onCtx_wdt : (s.onCtx x f).wdt = s.wdt := rfl
@[simp] theorem State.onCtx_dbg : (s.onCtx x f).dbg = s.dbg := rfl
end

section
variable (f : SyncLink → SyncLink)

@[simp] theorem State.onSync_pending : (s.onSync f).pending = s.pending := rfl
@[simp] theorem State.onSync_tb : (s.onSync f).tb = s.tb := rfl
@[simp] theorem State.onSync_tbRun : (s.onSync f).tbRun = s.tbRun := rfl
@[simp] theorem State.onSync_timeSource : (s.onSync f).timeSource = s.timeSource := rfl
@[simp] theorem State.onSync_sensor : (s.onSync f).sensor = s.sensor := rfl
@[simp] theorem State.onSync_groom : (s.onSync f).groom = s.groom := rfl
@[simp] theorem State.onSync_ctx : (s.onSync f).ctx = s.ctx := rfl
@[simp] theorem State.onSync_tick : (s.onSync f).tick = s.tick := rfl
@[simp] theorem State.onSync_enc : (s.onSync f).enc = s.enc := rfl
theorem State.onSync_sync : (s.onSync f).sync = f s.sync := rfl
@[simp] theorem State.onSync_mode : (s.onSync f).mode = s.mode := rfl
@[simp] theorem State.onSync_chore : (s.onSync f).chore = s.chore := rfl
@[simp] theorem State.onSync_cap : (s.onSync f).cap = s.cap := rfl
@[simp] theorem State.onSync_port : (s.onSync f).port = s.port := rfl
@[simp] theorem State.onSync_det : (s.onSync f).det = s.det := rfl
@[simp] theorem State.onSync_mem : (s.onSync f).mem = s.mem := rfl
@[simp] theorem State.onSync_host : (s.onSync f).host = s.host := rfl
@[simp] theorem State.onSync_tack : (s.onSync f).tack = s.tack := rfl
@[simp] theorem State.onSync_fuse : (s.onSync f).fuse = s.fuse := rfl
@[simp] theorem State.onSync_nvm : (s.onSync f).nvm = s.nvm := rfl
@[simp] theorem State.onSync_bkp : (s.onSync f).bkp = s.bkp := rfl
@[simp] theorem State.onSync_pwr : (s.onSync f).pwr = s.pwr := rfl
@[simp] theorem State.onSync_clk : (s.onSync f).clk = s.clk := rfl
@[simp] theorem State.onSync_ts : (s.onSync f).ts = s.ts := rfl
@[simp] theorem State.onSync_hk : (s.onSync f).hk = s.hk := rfl
@[simp] theorem State.onSync_flt : (s.onSync f).flt = s.flt := rfl
@[simp] theorem State.onSync_wdt : (s.onSync f).wdt = s.wdt := rfl
@[simp] theorem State.onSync_dbg : (s.onSync f).dbg = s.dbg := rfl
end

section
variable (f : Option Pending)

@[simp] theorem State.setPending_pending : (s.setPending f).pending = s.pending := rfl
@[simp] theorem State.setPending_tb : (s.setPending f).tb = s.tb := rfl
@[simp] theorem State.setPending_tbRun : (s.setPending f).tbRun = s.tbRun := rfl
@[simp] theorem State.setPending_timeSource : (s.setPending f).timeSource = s.timeSource := rfl
@[simp] theorem State.setPending_sensor : (s.setPending f).sensor = s.sensor := rfl
@[simp] theorem State.setPending_groom : (s.setPending f).groom = s.groom := rfl
@[simp] theorem State.setPending_ctx : (s.setPending f).ctx = s.ctx := rfl
@[simp] theorem State.setPending_tick : (s.setPending f).tick = s.tick := rfl
@[simp] theorem State.setPending_enc : (s.setPending f).enc = s.enc := rfl
@[simp] theorem State.setPending_sync : (s.setPending f).sync = s.sync := rfl
theorem State.setPending_mode : (s.setPending f).mode = { s.mode with pending := f } := rfl
@[simp] theorem State.setPending_chore : (s.setPending f).chore = s.chore := rfl
@[simp] theorem State.setPending_cap : (s.setPending f).cap = s.cap := rfl
@[simp] theorem State.setPending_port : (s.setPending f).port = s.port := rfl
@[simp] theorem State.setPending_det : (s.setPending f).det = s.det := rfl
@[simp] theorem State.setPending_mem : (s.setPending f).mem = s.mem := rfl
@[simp] theorem State.setPending_host : (s.setPending f).host = s.host := rfl
@[simp] theorem State.setPending_tack : (s.setPending f).tack = s.tack := rfl
@[simp] theorem State.setPending_fuse : (s.setPending f).fuse = s.fuse := rfl
@[simp] theorem State.setPending_nvm : (s.setPending f).nvm = s.nvm := rfl
@[simp] theorem State.setPending_bkp : (s.setPending f).bkp = s.bkp := rfl
@[simp] theorem State.setPending_pwr : (s.setPending f).pwr = s.pwr := rfl
@[simp] theorem State.setPending_clk : (s.setPending f).clk = s.clk := rfl
@[simp] theorem State.setPending_ts : (s.setPending f).ts = s.ts := rfl
@[simp] theorem State.setPending_hk : (s.setPending f).hk = s.hk := rfl
@[simp] theorem State.setPending_flt : (s.setPending f).flt = s.flt := rfl
@[simp] theorem State.setPending_wdt : (s.setPending f).wdt = s.wdt := rfl
@[simp] theorem State.setPending_dbg : (s.setPending f).dbg = s.dbg := rfl
end

section
variable (f : Backup → Backup)

@[simp] theorem State.onBkp_pending : (s.onBkp f).pending = s.pending := rfl
@[simp] theorem State.onBkp_tb : (s.onBkp f).tb = s.tb := rfl
@[simp] theorem State.onBkp_tbRun : (s.onBkp f).tbRun = s.tbRun := rfl
@[simp] theorem State.onBkp_timeSource : (s.onBkp f).timeSource = s.timeSource := rfl
@[simp] theorem State.onBkp_sensor : (s.onBkp f).sensor = s.sensor := rfl
@[simp] theorem State.onBkp_groom : (s.onBkp f).groom = s.groom := rfl
@[simp] theorem State.onBkp_ctx : (s.onBkp f).ctx = s.ctx := rfl
@[simp] theorem State.onBkp_tick : (s.onBkp f).tick = s.tick := rfl
@[simp] theorem State.onBkp_enc : (s.onBkp f).enc = s.enc := rfl
@[simp] theorem State.onBkp_sync : (s.onBkp f).sync = s.sync := rfl
@[simp] theorem State.onBkp_mode : (s.onBkp f).mode = s.mode := rfl
@[simp] theorem State.onBkp_chore : (s.onBkp f).chore = s.chore := rfl
@[simp] theorem State.onBkp_cap : (s.onBkp f).cap = s.cap := rfl
@[simp] theorem State.onBkp_port : (s.onBkp f).port = s.port := rfl
@[simp] theorem State.onBkp_det : (s.onBkp f).det = s.det := rfl
@[simp] theorem State.onBkp_mem : (s.onBkp f).mem = s.mem := rfl
@[simp] theorem State.onBkp_host : (s.onBkp f).host = s.host := rfl
@[simp] theorem State.onBkp_tack : (s.onBkp f).tack = s.tack := rfl
@[simp] theorem State.onBkp_fuse : (s.onBkp f).fuse = s.fuse := rfl
@[simp] theorem State.onBkp_nvm : (s.onBkp f).nvm = s.nvm := rfl
theorem State.onBkp_bkp : (s.onBkp f).bkp = f s.bkp := rfl
@[simp] theorem State.onBkp_pwr : (s.onBkp f).pwr = s.pwr := rfl
@[simp] theorem State.onBkp_clk : (s.onBkp f).clk = s.clk := rfl
@[simp] theorem State.onBkp_ts : (s.onBkp f).ts = s.ts := rfl
@[simp] theorem State.onBkp_hk : (s.onBkp f).hk = s.hk := rfl
@[simp] theorem State.onBkp_flt : (s.onBkp f).flt = s.flt := rfl
@[simp] theorem State.onBkp_wdt : (s.onBkp f).wdt = s.wdt := rfl
@[simp] theorem State.onBkp_dbg : (s.onBkp f).dbg = s.dbg := rfl
end

@[simp] theorem State.atRtc_pending (r : Nat) : (s.atRtc r).pending = s.pending := rfl
@[simp] theorem State.atRtc_tb (r : Nat) : (s.atRtc r).tb = s.tb := rfl
@[simp] theorem State.atRtc_tbRun (r : Nat) : (s.atRtc r).tbRun = s.tbRun := rfl
@[simp] theorem State.atRtc_timeSource (r : Nat) : (s.atRtc r).timeSource = s.timeSource := rfl
@[simp] theorem State.atRtc_sensor (r : Nat) : (s.atRtc r).sensor = s.sensor := rfl
@[simp] theorem State.atRtc_groom (r : Nat) : (s.atRtc r).groom = s.groom := rfl
@[simp] theorem State.atRtc_ctx (r : Nat) : (s.atRtc r).ctx = s.ctx := rfl
@[simp] theorem State.atRtc_tick (r : Nat) : (s.atRtc r).tick = s.tick := rfl
@[simp] theorem State.atRtc_enc (r : Nat) : (s.atRtc r).enc = s.enc := rfl
@[simp] theorem State.atRtc_sync (r : Nat) : (s.atRtc r).sync = s.sync := rfl
@[simp] theorem State.atRtc_mode (r : Nat) : (s.atRtc r).mode = s.mode := rfl
@[simp] theorem State.atRtc_chore (r : Nat) : (s.atRtc r).chore = s.chore := rfl
@[simp] theorem State.atRtc_cap (r : Nat) : (s.atRtc r).cap = s.cap := rfl
@[simp] theorem State.atRtc_port (r : Nat) : (s.atRtc r).port = s.port := rfl
@[simp] theorem State.atRtc_det (r : Nat) : (s.atRtc r).det = s.det := rfl
@[simp] theorem State.atRtc_mem (r : Nat) : (s.atRtc r).mem = s.mem := rfl
@[simp] theorem State.atRtc_host (r : Nat) : (s.atRtc r).host = s.host := rfl
@[simp] theorem State.atRtc_fuse (r : Nat) : (s.atRtc r).fuse = s.fuse := rfl
@[simp] theorem State.atRtc_nvm (r : Nat) : (s.atRtc r).nvm = s.nvm := rfl
@[simp] theorem State.atRtc_pwr (r : Nat) : (s.atRtc r).pwr = s.pwr := rfl
@[simp] theorem State.atRtc_clk (r : Nat) : (s.atRtc r).clk = s.clk := rfl
@[simp] theorem State.atRtc_ts (r : Nat) : (s.atRtc r).ts = s.ts := rfl
@[simp] theorem State.atRtc_hk (r : Nat) : (s.atRtc r).hk = s.hk := rfl
@[simp] theorem State.atRtc_flt (r : Nat) : (s.atRtc r).flt = s.flt := rfl
@[simp] theorem State.atRtc_wdt (r : Nat) : (s.atRtc r).wdt = s.wdt := rfl
@[simp] theorem State.atRtc_dbg (r : Nat) : (s.atRtc r).dbg = s.dbg := rfl
@[simp] theorem State.atTb_pending (n : Nat) : (s.atTb n).pending = s.pending := by unfold State.atTb; split <;> (try split) <;> rfl
@[simp] theorem State.atTb_tbRun (n : Nat) : (s.atTb n).tbRun = s.tbRun := by unfold State.atTb; split <;> (try split) <;> rfl
@[simp] theorem State.atTb_timeSource (n : Nat) : (s.atTb n).timeSource = s.timeSource := by unfold State.atTb; split <;> (try split) <;> rfl
@[simp] theorem State.atTb_sensor (n : Nat) : (s.atTb n).sensor = s.sensor := by unfold State.atTb; split <;> (try split) <;> rfl
@[simp] theorem State.atTb_groom (n : Nat) : (s.atTb n).groom = s.groom := by unfold State.atTb; split <;> (try split) <;> rfl
@[simp] theorem State.atTb_ctx (n : Nat) : (s.atTb n).ctx = s.ctx := by unfold State.atTb; split <;> (try split) <;> rfl
@[simp] theorem State.atTb_tick (n : Nat) : (s.atTb n).tick = s.tick := by unfold State.atTb; split <;> (try split) <;> rfl
@[simp] theorem State.atTb_enc (n : Nat) : (s.atTb n).enc = s.enc := by unfold State.atTb; split <;> (try split) <;> rfl
@[simp] theorem State.atTb_sync (n : Nat) : (s.atTb n).sync = s.sync := by unfold State.atTb; split <;> (try split) <;> rfl
@[simp] theorem State.atTb_mode (n : Nat) : (s.atTb n).mode = s.mode := by unfold State.atTb; split <;> (try split) <;> rfl
@[simp] theorem State.atTb_chore (n : Nat) : (s.atTb n).chore = s.chore := by unfold State.atTb; split <;> (try split) <;> rfl
@[simp] theorem State.atTb_cap (n : Nat) : (s.atTb n).cap = s.cap := by unfold State.atTb; split <;> (try split) <;> rfl
@[simp] theorem State.atTb_port (n : Nat) : (s.atTb n).port = s.port := by unfold State.atTb; split <;> (try split) <;> rfl
@[simp] theorem State.atTb_det (n : Nat) : (s.atTb n).det = s.det := by unfold State.atTb; split <;> (try split) <;> rfl
@[simp] theorem State.atTb_mem (n : Nat) : (s.atTb n).mem = s.mem := by unfold State.atTb; split <;> (try split) <;> rfl
@[simp] theorem State.atTb_host (n : Nat) : (s.atTb n).host = s.host := by unfold State.atTb; split <;> (try split) <;> rfl
@[simp] theorem State.atTb_tack (n : Nat) : (s.atTb n).tack = s.tack := by unfold State.atTb; split <;> (try split) <;> rfl
@[simp] theorem State.atTb_fuse (n : Nat) : (s.atTb n).fuse = s.fuse := by unfold State.atTb; split <;> (try split) <;> rfl
@[simp] theorem State.atTb_nvm (n : Nat) : (s.atTb n).nvm = s.nvm := by unfold State.atTb; split <;> (try split) <;> rfl
@[simp] theorem State.atTb_bkp (n : Nat) : (s.atTb n).bkp = s.bkp := by unfold State.atTb; split <;> (try split) <;> rfl
@[simp] theorem State.atTb_pwr (n : Nat) : (s.atTb n).pwr = s.pwr := by unfold State.atTb; split <;> (try split) <;> rfl
@[simp] theorem State.atTb_clk (n : Nat) : (s.atTb n).clk = s.clk := by unfold State.atTb; split <;> (try split) <;> rfl
@[simp] theorem State.atTb_ts (n : Nat) : (s.atTb n).ts = s.ts := by unfold State.atTb; split <;> (try split) <;> rfl
@[simp] theorem State.atTb_hk (n : Nat) : (s.atTb n).hk = s.hk := by unfold State.atTb; split <;> (try split) <;> rfl
@[simp] theorem State.atTb_flt (n : Nat) : (s.atTb n).flt = s.flt := by unfold State.atTb; split <;> (try split) <;> rfl
@[simp] theorem State.atTb_wdt (n : Nat) : (s.atTb n).wdt = s.wdt := by unfold State.atTb; split <;> (try split) <;> rfl
@[simp] theorem State.atTb_dbg (n : Nat) : (s.atTb n).dbg = s.dbg := by unfold State.atTb; split <;> (try split) <;> rfl

/-- The timebase never goes back (R112). -/
theorem State.atTb_tb_le (n : Nat) : s.tb ≤ (s.atTb n).tb := by
  unfold State.atTb
  split
  · exact Nat.le_refl _
  · split
    · exact Nat.le_max_left _ _
    · exact Nat.le_add_right _ _

/-- A running timebase stands at the instant of a timed event, or after it, while PLL-A is locked (R112). -/
theorem State.atTb_tb (n : Nat) (h : s.tbRun = true) (hl : vget s.clk.lock 0 = true) : (s.atTb n).tb = Nat.max s.tb n := by
  simp [State.atTb, h, hl]

/-- While PLL-A is unlocked the timebase steps by whole tens from where it stands (R112). -/
theorem State.atTb_tb_unlocked (n : Nat) (h : s.tbRun = true) (hl : vget s.clk.lock 0 = false) : (s.atTb n).tb = s.tb + (n - s.tb) / 10 * 10 := by
  simp [State.atTb, h, hl]

/-- A timebase that is stopped stays (R112). -/
theorem State.atTb_of_stopped (n : Nat) (h : s.tbRun = false) : s.atTb n = s := by simp [State.atTb, h]

end

end Sys2Proof.Machine
end

