-- ==== Sys2Proof/Tests/Slice0.lean ====
section
/-! SUPPORT. Tests of the model: ill-formed terms that the check refuses, the words of the manual's kernel fragment (R191), single steps, and for
each statement a concrete state and operands that meet its hypotheses. Expected results come from the rules named. -/

namespace Sys2Proof.Tests

open Sys2Proof Sys2Proof.Machine

/-- The part after a power-up (R437): PHASE READY, mode READY, rails good, the timebase running. -/
def ready : State :=
  let z := State.reset
  { z with
    tb := 1000, tbRun := true, mode := { z.mode with mode := .ready }, host := { z.host with phase := 5 },
    tack := { z.tack with state := .operational }, clk := { z.clk with refclkOk := true, lock := #v[true, true, false, false, false, false], ticksAllowed := true },
    pwr := { z.pwr with rails := Vector.replicate 12 true, porHeld := false } }

/-- A line job on segment 0 of line 300. -/
def job : LineJob := { line := 300, seg := 0, kslot := 0, asid := 0, ctx := 0, fields := 0, left := 5 }

/-- Bay 0 changed. -/
def withBay (y : Bay) : State := { ready with det := { ready.det with bays := vset ready.det.bays 0 y } }

/-- Bay 0 runs the line job. -/
def busy : State := withBay { Bay.reset with work := .line job }

/-- A header of a command under a session. -/
def head (session : Word) : CmdHeader := { tag := 1, flags := 0, session := session, status := 0, elapsed := 0, reserved := 0 }

/-- A session of the maker, in slot 3. -/
def makerSession : Session := { id := 7, role := 3, index := 0, nonce := 0, since := 0, held := false }

def served : State := { ready with tack := { ready.tack with sessions := vset ready.tack.sessions 3 (some makerSession) } }

theorem smoke_odd_pair : WellFormed (.vadd 0 1 0 (.v 2) 0 true) = false := by decide
theorem smoke_odd_source : WellFormed (.vadd 0 0 1 (.v 2) 0 true) = false := by decide
theorem smoke_odd_second_source : WellFormed (.vadd 0 0 2 (.v 3) 0 true) = false := by decide
theorem smoke_odd_accumulator : WellFormed (.vmacw 0 3 0 (.v 1) 0) = false := by decide
theorem smoke_odd_narrow_source : WellFormed (.vnarrow 0 0 1 0) = false := by decide
theorem smoke_reserved_csr : WellFormed (.mfc 0 1 0x0E) = false := by decide
theorem smoke_read_only_csr : WellFormed (.mtc 0 1 0x0A) = false := by decide
theorem smoke_legal : WellFormed (.vadd 0 0 2 (.v 4) 0 true) = true := by decide

/-- The kernel fragment of R191: VLI, ADDK, LFR, VABSDU, VCMP.GTU, BPANY and HALT. -/
theorem test_decode_vli : myvikDecode 0x91F00190#32 = some (.vli 31 400) := by decide
theorem test_decode_addk : myvikDecode 0x04200008#32 = some (.addk 1 0 8) := by decide
theorem test_decode_lfr : myvikDecode 0x60211000#32 = some (.lfr 2 1 1 0) := by decide
theorem test_decode_vabsdu : myvikDecode 0x8030880A#32 = some (.vabsdu 3 1 (.v 2) 0 false) := by decide
theorem test_decode_vcmp : myvikDecode 0x8411FC08#32 = some (.vcmpGtu 1 3 (.v 31) 0 false) := by decide
theorem test_decode_bpany : myvikDecode 0x30400002#32 = some (.bpany 1 2) := by decide
theorem test_decode_halt : myvikDecode 0x66000000#32 = some .halt := by decide
/-- VABSDU with W = 1 on odd registers, the all-zero and the all-ones word are illegal (R168, R191). -/
theorem test_decode_illegal : [0x8030882A#32, 0#32, 0xFFFFFFFF#32].map myvikDecode = [none, none, none] := by decide
/-- ADD s1, s2, s3: opcode 0x01, sd, sa, sb, eight zeros, fn 0x00 (R167, R171). -/
theorem test_decode_add : myvikDecode 0b0000001_0001_0010_0011_00000000_00000#32 = some (.add 1 2 3) := by decide
/-- LD_HU s1, [s2 + 2·3]: opcode 0x20, s, sa, sz 01, u 1, imm 3 (R167, R174). -/
theorem test_decode_ldhu : myvikDecode 0b0100000_0001_0010_01_1_00000000000011#32 = some (.ldHu 1 2 3) := by decide

theorem wit_executes : busy.executes 0 := by unfold State.executes; decide
theorem wit_pairs : evens true [(2 : VReg), 4] ∧ evenSrc true (.v 6) ∧ evens false [(1 : VReg), 3] := by
  unfold evens evenSrc; decide
/-- The conditions of `State.admits` under session 7 of slot 3, as a check. -/
def admitsMaker (s : State) (modes : Mode → Bool) : Bool :=
  (s.host.phase = 5 && !s.dbg.cpHalted && !bit s.host.ring 3 && hostWf s.host.bytes)
    && s.sessionOf 3 7 = some (some makerSession) && !s.busyMaint 3 (some makerSession) && modes s.mode.mode && !s.logFull

/-- A state that passes the check admits a command under the maker's session, whatever role it needs. -/
theorem admits_of_check {s : State} {modes : Mode → Bool} (hb : admitsMaker s modes = true) (r : Nat) (hr : r ≤ 4) (e a : Bool) :
    s.admits 3 (head 7) r modes e a (some makerSession) := by
  simp only [admitsMaker, Bool.and_eq_true, Bool.not_eq_true', decide_eq_true_eq] at hb
  obtain ⟨⟨⟨⟨⟨⟨⟨h1, h2⟩, h3⟩, h4⟩, h5⟩, h6⟩, h7⟩, h8⟩ := hb
  refine ⟨⟨h1, h2, h3, h4⟩, by decide, h5, Or.inr h6, Or.inr ⟨makerSession, rfl, ?_⟩, h7, fun _ => h8⟩
  have : makerSession.role.toNat = 3 := by decide
  omega

/-- The part in a mode, under the maker's session; MAINT is that session's. -/
def servedIn (m : Mode) : State := { served with mode := { served.mode with mode := m, owner := if m = .maint then some 3 else none } }

theorem wit_admits : ∀ m ∈ [Mode.standby, .ready, .line, .field, .split, .frame, .maint],
    admitsMaker (servedIn m) anyMode = true ∧ admitsMaker (servedIn m) (modeIn [m]) = true := by decide

/-- Bay 0 runs the line job with DSEG 0x10, s1 = 0x20_0000 (the general hayloft), s2 = 64, s3 = 1 and lanes 0 and 31 in p1. -/
def regs0 : JobRegs :=
  { JobRegs.zero with dseg := 0x10, s := ((JobRegs.zero.s.set 1 0x200000#32).set 2 64#32).set 3 1#32, p := JobRegs.zero.p.set 1 0x80000001#32 }

def hay : State := withBay { Bay.reset with work := .line job, regs := regs0 }

theorem wit_loads : hay.executes 0 ∧ hay.reaches 0 .load [scalarVa (hay.regsOf 0) 1 0 4] [0x1000200000] []
    ∧ hay.mem.poisoned (0x1000200000 / 8) = false ∧ hay.watchAt 0 [(scalarVa (hay.regsOf 0) 1 0 4, 4, false)] = none := by
  unfold State.executes State.reaches; decide

theorem wit_vector_loads : ((hay.regsOf 0).actives 1) = [0, 31]
    ∧ hay.reaches 0 .load (((hay.regsOf 0).actives 1).map (blockVa (hay.regsOf 0) 1 0 2)) [0x1000200000, 0x100020003E] []
    ∧ hay.reaches 0 .load (((hay.regsOf 0).actives 1).map (strideVa (hay.regsOf 0) 1 2)) [0x1000200000, 0x10002007C0] []
    ∧ hay.reaches 0 .load (((hay.regsOf 0).actives 1).map (blockVa (hay.regsOf 0) 1 0 1)) [0x1000200000, 0x100020001F] [] := by
  unfold State.reaches; decide

theorem wit_stores : hay.mem.wf = true ∧ hay.reaches 0 .store [scalarVa (hay.regsOf 0) 1 0 4] [0x1000200000] []
    ∧ hay.reaches 0 .store (((hay.regsOf 0).actives 1).map (blockVa (hay.regsOf 0) 1 0 2)) [0x1000200000, 0x100020003E] []
    ∧ hay.watchAt 0 [(scalarVa (hay.regsOf 0) 1 0 4, 4, true)] = none := by
  unfold State.reaches; decide

/-- An access to the hole above HBM fails. -/
theorem wit_failed_access :
    let z := withBay { Bay.reset with work := .line job, regs := { regs0 with dseg := 0x05 } }
    z.executes 0 ∧ z.accessAll ((z.getBay 0).requester 0) .load (z.getBay 0).tlb [scalarVa (z.regsOf 0) 1 0 4]
      = .error (.of .bus 0x0500200000) := by
  unfold State.executes; decide

/-- The ring holds the job's line with one field; age 1 is a line it does not hold, field 1 one it does not carry. -/
def fed : State := { busy with det := { busy.det with ring := [{ line := 300, fields := 0, values := [[(16384, 7)]] }] } }

theorem wit_line_feed : fed.executes 0
    ∧ fed.det.ring.find? (fun x => x.line + 0 = job.line) = some { line := 300, fields := 0, values := [[(16384, 7)]] }
    ∧ fed.det.ring.find? (fun x => x.line + 1 = job.line) = none := by
  unfold State.executes; decide

/-- Bay 0 runs the deep job of slot 0, with slot 1 READY or EMPTY. -/
def deepBay (other : SlotState) : State :=
  let d : DeepSlot := { state := .running, kslot := 0, asid := 1, saves := 0, fills := 1, fresh := false }
  withBay { Bay.reset with work := .deep 0, slots := #v[d, { d with state := other }, DeepSlot.reset, DeepSlot.reset] }

theorem wit_job_control : (deepBay .ready).executes 0 ∧ (deepBay .empty).executes 0
    ∧ (((deepBay .ready).getBay 0).getSlot 1).runnable = true ∧ (∀ i : Fin 4, (((deepBay .empty).getBay 0).getSlot i).runnable = false)
    ∧ (busy.getBay 0).queue = [] ∧ (busy.getBay 0).pick = none
    ∧ (vget busy.det.carts 0).owner = (busy.getBay 0).asid ∧ (vget busy.det.carts 0).queue.length < 16
    ∧ (vget (deepBay .empty).det.carts 0).owner ≠ ((deepBay .empty).getBay 0).asid
    ∧ hay.reaches 0 .load ([0, 8, 16, 24].map fun k => (0x1000200000 : BitVec 40) + BitVec.ofNat 40 k)
        [0x1000200000, 0x1000200008, 0x1000200010, 0x1000200018] [] := by
  unfold State.executes State.reaches; decide

/-- A line job waits behind the running one. -/
theorem wit_halt_queued : (withBay { Bay.reset with work := .line job, queue := [{ job with line := 301 }] }).executes 0 := by
  unfold State.executes; decide

theorem wit_illegal : (Instr.mtc 0 1 0x0A).toMyvik = some (0, .mtc 1 0x0A) ∧ (Myvik.mtc 1 0x0A).legal = false
    ∧ myvikDecode 0#32 = none ∧ busy.det.fltHead + 1 ≠ busy.det.fltTail
    ∧ field 0x2001C000#32 31 25 = 0x10 ∧ 0xA ≤ field 0x2001C000#32 16 13 ∧ field 0x8400000B#32 31 25 = 0x42 ∧ field 0x8400000B#32 4 0 = 0xB := by
  decide

/-- The fault ring is full. -/
theorem wit_illegal_full :
    let z := { busy with det := { busy.det with fltHead := 0xFF, fltTail := 0 } }
    z.det.fltHead + 1 = z.det.fltTail ∧ z.executes 0 := by
  unfold State.executes; decide

theorem wit_no_issue : ready.canIssue 0 = false := by decide

/-- Breakpoint 3 of bay 0 at address 0. -/
theorem wit_breakpoint :
    let z := { busy with dbg := { busy.dbg with brk := vset busy.dbg.brk 3 0xC000000000000000#64 } }
    z.canIssue 0 = true ∧ (z.getBay 0).skipBrk = false ∧ z.breakAt 0 (z.regsOf 0).pc = some 3 := by
  decide

theorem wit_address_space_zero : (busy.getBay 0).asid = 0 ∧ busy.hbmDown = false ∧ 0 < busy.jobArea ∧ 0 < busy.loftSplit
    ∧ (busy.getBay 0).onDeep = false := by
  decide

/-- What holds of the next state. -/
def next (o : Host.Outcome State Fault Refusal) (p : State → Bool) : Bool :=
  match o with
  | .next t => p t
  | _ => false

/-- ADD of two registers: 0xFFFF_FFFF + 1 wraps to 0, s1 gets it and the next instruction follows (R171). -/
theorem test_add_wraps :
    let z := withBay { Bay.reset with work := .line job, regs := { regs0 with s := (regs0.s.set 4 0xFFFFFFFF#32).set 1 5#32 } }
    next (execAdd 0 1 4 3 z) (fun t => (t.regsOf 0).getS 1 = 0 ∧ (t.regsOf 0).pc = 4) = true := by
  decide

/-- DIV of 0x8000_0000 by −1 gives 0x8000_0000 and sets OV (R190). -/
theorem test_div_corner :
    let z := withBay { Bay.reset with work := .line job, regs := { regs0 with s := (regs0.s.set 4 0x80000000#32).set 5 0xFFFFFFFF#32 } }
    next (execDiv 0 1 4 5 z) (fun t => (t.regsOf 0).getS 1 = 0x80000000#32 ∧ (t.regsOf 0).sflags = 1) = true := by
  decide

theorem wit_answers : hostWf ready.host.bytes = true ∧ (List.replicate 224 (1 : Byte)).length ≤ 224 ∧ vget ready.host.audits 3 = none :=
  ⟨by decide, Nat.le_of_eq List.length_replicate, by decide⟩

/-- The log and audit reads at the edges of their ranges, NOP with no data. -/
theorem wit_system : admitsMaker (servedIn .standby) (modeIn [.standby]) = true ∧ ([] : List Byte).length ≤ 224
    ∧ (1 : Byte).toNat ≤ 64 ∧ (64 : Byte).toNat ≤ 64 ∧ (960 : BitVec 16).toNat + (64 : Byte).toNat ≤ 1024 := by decide

/-- A transfer under way in slot 3: one byte of two, or complete. -/
def carrying (k : ObjKind) (bytes : List Byte) (total : Nat) : State :=
  let z := servedIn .maint
  { z with host := { z.host with transfers := vset z.host.transfers 3 (some { kind := k, total := total, crc := crc32c bytes, bytes := bytes }) } }

theorem wit_object_begin : let z := servedIn .maint
    admitsMaker z (modeIn [.maint]) = true ∧ vget z.host.transfers 3 = none
    ∧ calKind 2 15 0 = some (.stallMap 15) ∧ totalOk (.stallMap 15) 4194304 = true ∧ z.objBusy (.stallMap 15) = false
    ∧ totalOk (.kernel 15 0x1000200000 0) 4 = true ∧ z.objBusy (.kernel 15 0x1000200000 0) = false
    ∧ totalOk (.strobe 7) 6144 = true ∧ z.objBusy (.strobe 7) = false
    ∧ finOf 2 (1 : Byte).toNat ≠ z.host.bank ∧ totalOk (.firmware 1) 2097152 = true ∧ z.objBusy (.firmware 1) = false := by decide

theorem wit_object_chunk : let z := carrying (.stallMap 15) [0] 2
    admitsMaker z anyMode = true ∧ [(7 : Byte)] ≠ [] ∧ (1 : Word).toNat = [(0 : Byte)].length ∧ 1 + [(7 : Byte)].length ≤ 2 := by decide

theorem wit_object_end : let z := carrying (.stallMap 15) [7] 1
    admitsMaker z anyMode = true ∧ z.objBusy (.stallMap 15) = false ∧ (parseMap [7]).isSome = true := by
  refine ⟨by decide, by decide, ?_⟩
  simp [parseMap]

/-- An image of one byte breaks the layout; the shortest one that keeps it holds its header alone. -/
theorem wit_firmware_end : let z := carrying (.firmware 1) [7] 1
    admitsMaker z (modeIn [.maint]) = true ∧ z.objBusy (.firmware 1) = false ∧ imageLaid [7] = false
    ∧ imageLaid (List.replicate 256 0) = true ∧ (List.replicate 256 (0 : Byte)).length = 256 := by decide +kernel

/-- MODE_SET to the present mode; from STANDBY to READY once PLL-A has locked; to MAINT; into LINE from READY, its first line 256 ahead. -/
def locked (m : Mode) : State := { servedIn m with clk := { (servedIn m).clk with lockedOnce := true } }

theorem wit_mode_set :
    (locked .ready).moveNamed 2 0 0 = some (.ready, .now) ∧ (locked .ready).moveParamBad .now .ready 0 false false 0 = false
    ∧ (locked .standby).moveNamed 2 0 0 = some (.ready, .timed) ∧ (locked .standby).moveParamBad .timed .ready 0 false false 0 = false
    ∧ (locked .standby).moveRole false 3 (some makerSession) = true ∧ (locked .standby).railsBad = false ∧ (locked .standby).lockedFollower = false
    ∧ (locked .standby).mode.pending = none ∧ (locked .standby).sensor.biased = false
    ∧ (locked .ready).moveNamed 3 0 0 = some (.line, .enter) ∧ (locked .ready).moveParamBad .enter .line 0 false false 0 = false
    ∧ (locked .ready).shadowHeld (cMapSet ((locked .ready).comingHalf 0)) = false ∧ (locked .ready).moveRole false 3 (some makerSession) = true
    ∧ (locked .line).moveNamed 2 0 0 = some (.ready, .leave) ∧ (locked .line).moveParamBad .leave .ready 0 false true 0 = false
    ∧ (locked .standby).moveNamed 7 0 0 = some (.maint, .timed) ∧ (locked .standby).moveRole true 3 (some makerSession) = true
    ∧ admitsMaker (locked .ready) (fun _ => true) = true := by decide

theorem wit_capture : admitsMaker (servedIn .ready) (modeIn [.ready, .maint]) = true ∧ (servedIn .ready).cap = none
    ∧ 98688 * (65536 : Word).toNat ≤ 0x400000000 ∧ (0 : BitVec 40).toNat % 64 = 0 := by decide

/-- The context commands on context 15: all registers selected, and none; a stored half loaded whole. -/
theorem wit_context : let z := servedIn .ready
    let x := vget z.ctx (finOf 16 (15 : Byte).toNat)
    x.sched = none ∧ x.lockUntil = none ∧ (0x0FFF : BitVec 16).toNat < 4096
    ∧ ctxAloneBad (Vector.ofFn fun i => if bit (0x0FFF : BitVec 16) i.val then vget CtxHalf.reset i &&& vget ctxWritable i else vget x.shadow i) = false
    ∧ ctxAloneBad (Vector.ofFn fun i => vget CtxHalf.reset i &&& vget ctxWritable i) = false
    ∧ z.scheduleBad 15 0 = false ∧ z.shadowHeld (cMapSet x.shadow) = false := by decide

/-- A lock of context 15, and scheduled swaps with and without a waiting slot. -/
theorem wit_context_held : let z := servedIn .ready
    let l := { z with ctx := vset z.ctx 15 { vget z.ctx 15 with lockUntil := some 9 } }
    let c := { z with ctx := vset z.ctx 15 { vget z.ctx 15 with sched := some (400, none) } }
    let w := { z with ctx := vset z.ctx 15 { vget z.ctx 15 with sched := some (400, some 5) } }
    (vget l.ctx 15).lockUntil = some 9 ∧ admitsMaker l anyMode = true ∧ (vget c.ctx 15).sched = some (400, none)
    ∧ (vget w.ctx 15).sched = some (400, some 5) ∧ (vget w.ctx 15).lockUntil = none ∧ admitsMaker c anyMode = true ∧ admitsMaker w anyMode = true := by decide

/-- A stored context, whose item was written in this interval or not, and a command that waits for a lock. -/
theorem wit_context_store : let z := servedIn .ready
    let w := { z with nvm := { z.nvm with stored := vset z.nvm.stored 63 (some CtxHalf.reset), recent := [.storedCtx 63] },
                      host := { z.host with waits := vset z.host.waits 5 (some (.ctxLocked 15 (.write 1 CtxHalf.reset))) } }
    vget w.nvm.stored (finOf 64 (63 : Byte).toNat) = some CtxHalf.reset ∧ w.nvm.recent.contains (.storedCtx 63) = true
    ∧ z.nvm.recent.contains (.storedCtx 63) = false
    ∧ vget w.host.waits 5 = some (.ctxLocked 15 (.write 1 CtxHalf.reset)) ∧ w.dbg.cpHalted = false ∧ admitsMaker w anyMode = true := by decide

/-- The tick, encoder and string commands at the ends of their ranges. -/
theorem wit_tick_commands : let z := servedIn .standby
    admitsMaker z (modeIn [.standby, .ready]) = true ∧ z.minLp ≤ (2500 : Word).toNat ∧ (0x1000 : Word).toNat = 0x1000
    ∧ z.sync.state ≠ .locked ∧ (524287 : Word).toNat < 2 ^ 19 ∧ -4096 ≤ (0xF000 : BitVec 16).toInt ∧ (0x0FFF : BitVec 16).toInt < 4096
    ∧ 500 ≤ (500 : BitVec 16).toNat ∧ z.isFollower = false := by decide

/-- A leader that may form its string, in STANDBY and in READY with its ticks stopped, and one that is forming it. -/
theorem wit_string_form : let l (m : Mode) : State := { servedIn m with sync := { (servedIn m).sync with cfg := 0x01F44000#32 } }
    let f := { servedIn .standby with sync := { (servedIn .standby).sync with forming := true } }
    (∀ m ∈ [Mode.standby, .ready], (l m).role = 1 ∧ (l m).sync.forming = false ∧ (l m).ticksStopped = true ∧ admitsMaker (l m) (modeIn [.standby, .ready]) = true)
    ∧ f.sync.forming = true ∧ admitsMaker f (modeIn [.standby, .ready]) = true := by decide

/-- The bays and kernels commands at the ends of their ranges. -/
theorem wit_bay_commands : let z := servedIn .standby
    let d := { z with det := { z.det with
      bays := vset z.det.bays 63 { Bay.reset with slots := vset Bay.reset.slots 3 { DeepSlot.reset with state := .faulted } },
      carts := vset z.det.carts 31 { Cart.reset with state := .stopped }, fltHead := 2 } }
    admitsMaker d anyMode = true ∧ admitsMaker d (modeIn [.standby, .ready, .maint]) = true ∧ z.det.tlbBusy = none ∧ z.hbmDown = false
    ∧ z.mem.edgePoison 0x1000200000 4096 = none ∧ (∀ i, i < 8 → z.mem.poisoned ((0x1000200000 + i) / 8) = false)
    ∧ z.hasBay 127 = true ∧ ((z.getBay 127).getSlot 3).state = .empty
    ∧ ((d.getBay 63).getSlot 3).state = .faulted ∧ (d.getBay 63).work ≠ .restoring 3
    ∧ (d.getCart 31).state = .stopped ∧ (z.getCart 31).state = .idle ∧ d.det.fltHead - d.det.fltTail = 2 := by decide

/-- The ports and streams commands: a stopped and a running port, one that another slot waits for, a disabled and an enabled stream. -/
theorem wit_port_commands : let z := servedIn .ready
    let r := { z with port := { z.port with port := vset z.port.port 3 { Port.reset with state := .running },
                                            stream := vset z.port.stream 15 { DataStream.reset with cfg := 0x80000000#32 } } }
    let w (x : Wait) : State := { z with port := { z.port with port := vset z.port.port 3 { Port.reset with state := .starting } },
                                         host := { z.host with waits := vset z.host.waits 5 (some x) } }
    z.hasPort 3 = true ∧ (z.getPort 3).state = .stopped ∧ z.portInReset 3 = false ∧ (z.getStream 15).en = false ∧ z.mayEnable 15 = true
    ∧ (∀ k, vget z.host.waits k ≠ some (.portStart 3) ∧ vget r.host.waits k ≠ some (.portStop 3))
    ∧ (r.getPort 3).state = .running ∧ (r.getStream 15).en = true ∧ r.mayEnable 15 = true ∧ admitsMaker r anyMode = true
    ∧ ((w (.portStart 3)).getPort 3).state ≠ .running ∧ vget (w (.portStart 3)).host.waits 5 = some (.portStart 3)
    ∧ vget (w (.portStop 3)).host.waits 5 = some (.portStop 3) ∧ admitsMaker (w (.portStop 3)) anyMode = true
    ∧ admitsMaker r (modeIn [.ready, .line, .field, .split, .frame]) = true ∧ z.isSmall = false := by decide
/-- Public keys of the maker under which a message is signed: AUTH_RESPONSE to nonce 2 in slot 3, and TIME_SET to RTC 1 under nonce 0. -/
def makerKey : BitVec 776 := 0x04EFA70F4457A852E919D286AC9381151B714A2067A45D1EF85B71529050F14641D0496E3B416D13B8281B5A1213CED9C6FE169CD7EDF3A3F01C035335D23A95BC3AA9AFCD6D1A8FCC82C778C3513E3C0A0F011A9658FED528676E30A3085F5B08
def timeKey : BitVec 776 := 0x0469BFE84C3BEEF3CE9D35182541AA7852F4710E3520890BBE43D77122CBB9599E7C2F4B6353FCA3BBD9E7D812D8F49027673A2EE7F86009F74C4B558B101AC865A7BAE80B75320CF19D3DC879177DFAD19D76C24C3E2563C303028CC1D1A62672

/-- The part with the maker's key `k` and a challenge to the maker in slot 3. -/
def challenged (k : BitVec 776) : State := let z := servedIn .ready
  { z with nvm := { z.nvm with mpk := k },
           tack := { z.tack with challenges := vset z.tack.challenges 3 (some { nonce := 2, role := 3, index := 0, since := 0 }) } }

/-- AUTH_CHALLENGE at the ends of its indices; a challenge that is valid, a key that is not locked out and one that is, with few and with four failures. -/
theorem wit_security : let z := { servedIn .ready with tack := { (servedIn .ready).tack with sessions := Vector.replicate 16 none } }
    let c := challenged makerKey
    let lock (f : Nat) (l : Bool) : State := { c with tack := { c.tack with
      locks := vset c.tack.locks 3 (vset (vget c.tack.locks 3) 0 { lock := { fails := f, lockouts := 6, remaining := 3600, locked := l }, since := 0 }) } }
    z.tack.state = .operational ∧ z.tack.paused = false ∧ vget z.tack.sessions 3 = none ∧ (7 : Byte).toNat < 8 ∧ (3 : Byte).toNat < 4
    ∧ (head 0).session = 0 ∧ c.challengeOf 3 = some { nonce := 2, role := 3, index := 0, since := 0 } ∧ z.challengeOf 3 = none
    ∧ c.lockedOut 3 0 = false ∧ (lock 0 true).lockedOut 3 0 = true ∧ 4 ≤ ((lock 4 false).lockRec 3 0).fails ∧ (lock 4 false).lockedOut 3 0 = false
    ∧ (c.lockRec 3 0).fails < 4 ∧ admitsMaker c anyMode = true
    ∧ bit (0x7FFFFFFFFFFFFFFF : BitVec 64) 63 = false ∧ z.bkp.trusted = false ∧ z.tableUp = true ∧ z.dkakKey.isSome = true
    ∧ admitsMaker c (modeIn [.standby, .ready, .maint]) = true := by decide +kernel

/-- A pause, in which the commands wait. -/
theorem wit_security_paused : let c := challenged makerKey
    let z := { c with tack := { c.tack with paused := true } }
    z.tack.paused = true ∧ admitsMaker z (modeIn [.standby, .ready, .maint]) = true := by decide

/-- The response to the challenge under the maker's key is good, one of zeros is not. -/
theorem wit_signature : let c := challenged makerKey
    let ch : Challenge := { nonce := 2, role := 3, index := 0, since := 0 }
    c.keyOf 3 0 = some makerKey ∧ ecdsaVerify makerKey (c.authMsg 3 ch)
        0xA005B281DC167BECF9BB1B2735EB7D7515F0FDB8706B6A6EBD4856FD75992498A471F3092953EBC86FAB7C59D387A31FA005B281DC167BECF9BB1B2735EB7D7515F0FDB8706B6A6EBD4856FD75992498A471F3092953EBC86FAB7C59D387A31F = true
    ∧ ecdsaVerify makerKey (c.authMsg 3 ch) 0 = false := by decide +kernel

theorem wit_time_signature : let z := challenged timeKey
    z.keyOf makerSession.role makerSession.index.toNat = some timeKey ∧ ecdsaVerify timeKey (z.timeMsg 1 makerSession)
        0xFCCCF7EE39CF81C7E1E6B541F3EAE6E4799B85A9E83FCABF7EB7732C504ADD8BC4093B99F311EADC09495C6FE5687C88FCCCF7EE39CF81C7E1E6B541F3EAE6E4799B85A9E83FCABF7EB7732C504ADD8BC4093B99F311EADC09495C6FE5687C88 = true
    ∧ ecdsaVerify timeKey (z.timeMsg 1 makerSession) 0 = false := by decide +kernel

/-- ENROL's key is a point; an object of SEAL_EXPORT_SET that opens under DKAK 1, and one with a wrong tag. -/
theorem wit_seal_export : let g : BitVec 776 := pointBits p384G
    let wrapped := gcmSeal (ecdhKey 1 g ([0x52, 0x4B, 0x5A, 0x2D, 0x53, 0x45, 0x4B] ++ bytesBe 8 0)) (List.replicate 12 0) [] (List.replicate 31 0 ++ [9])
    let o := bytesBe 97 g.toNat ++ List.replicate 12 0 ++ wrapped.1 ++ wrapped.2
    let k := { servedIn .ready with nvm := { (servedIn .ready).nvm with dkak := (servedIn .ready).nvm.dkak.map fun (w : Wrapped 384) => { w with value := 1 } } }
    validPoint g = true ∧ o.length = 157 ∧ validPoint (BitVec.ofNat 776 (natBe (o.take 97))) = true ∧ k.dkakKey = some 1
    ∧ unwrapSek 1 k.serial o = some 9 ∧ unwrapSek 1 k.serial (o.take 141 ++ List.replicate 16 0) = none ∧ k.serial = 0 := by decide +kernel

/-- SHA-384 of "abc" (FIPS 180-4); the public key of private key 1 is the base point (FIPS 186-5). -/
theorem test_sha384 : sha384 [0x61, 0x62, 0x63]
    = bytesBe 48 0xCB00753F45A35E8BB5A03D699AC65007272C32AB0EDED1631A8B605A43FF5BED8086072BA1E7CC2358BAECA134C825A7 := by decide +kernel
theorem test_public_key : publicKey 1 = pointBits p384G := by decide +kernel

/-- DEBUG_UNLOCK in MAINT. -/
theorem wit_debug_unlock : let z := servedIn .maint
    admitsMaker z (modeIn [.maint]) = true ∧ z.debugPolicy ≠ 2 := by decide

/-- A part in MAINT with nothing sealed in its shadow, where words up to 0x17 and the protection word may be programmed; one whose bank 0 is
older than T; VPP_OTP out of its range; a pulse in progress; a bit that both cells hold. -/
theorem wit_fuse_commands : let z := servedIn .maint
    let i := { z with fuse := { z.fuse with shadow := vset z.fuse.shadow 0x18 8 } }
    let old := { z with fuse := { z.fuse with shadow := vset z.fuse.shadow 0x1C 1 } }
    let p := { z with fuse := { z.fuse with
      pulse := some { user := .command 5, word := 0, bit := 0, cell := false, retry := false, failed := false },
      cell0 := vset z.fuse.cell0 0x18 0xFFFFFFFF, cell1 := vset z.fuse.cell1 0x18 0xFFFFFFFF } }
    z.checkBank 0 = .good ∧ old.checkBank 0 = .rollback ∧ z.checkBank 1 = .failed ∧ z.tack.state = .operational ∧ z.tack.paused = false
    ∧ z.fuseAllowed 0x18 4 = true ∧ z.fuse.pulse = none ∧ (z.vppAt none).canPulse = true ∧ (z.vppAt (some 1000)).canPulse = false
    ∧ p.fuse.pulse ≠ none ∧ (0x20 ≤ (0x20 : Byte).toNat ∧ (0x1F : Byte).toNat < 0x20)
    ∧ bit (vget z.fuse.cell0 (0x18 : Byte).toFin) 4 = false
    ∧ ¬ (bit (vget p.fuse.cell0 (0x18 : Byte).toFin) 4 = false ∨ bit (vget p.fuse.cell1 (0x18 : Byte).toFin) 4 = false)
    ∧ bit (vget i.fuse.shadow 0x18) 3 = true ∧ bit (vget i.fuse.cell1 (0x5F : Byte).toFin) 31 = false
    ∧ BitVec.ofNat 8 (0x40 + (1023 : BitVec 16).toNat / 32) = 0x5F ∧ admitsMaker i (modeIn [.maint]) = true ∧ admitsMaker p (modeIn [.maint]) = true := by
  decide +kernel

/-- A pause, in which FW_ACTIVATE waits. -/
theorem wit_fuse_paused : let z := servedIn .maint
    let q := { z with tack := { z.tack with paused := true } }
    q.tack.paused = true ∧ q.tack.state = .operational ∧ admitsMaker q (modeIn [.maint]) = true := by decide

theorem wit_fuse_pulse : let z := servedIn .maint
    let p : Pulse := { user := .command 3, word := 0x5F, bit := 31, cell := true, retry := false, failed := false }
    ({ z with fuse := { z.fuse with pulse := some p } }).fuse.pulse = some p ∧ p.user ≠ .orphan := by decide

/-- BLOCK, UNIT and REG of RELOAD and CNT of timer 15 and of DAC_CTRL 3. -/
theorem wit_peripherals : periphAt 1 15 4 = some (0xC0000 + 0x40 * 15 + 4) ∧ periphAt 1 15 8 = some (0xC0000 + 0x40 * 15 + 8)
    ∧ periphAt 4 3 0 = some (0xE0800 + 4 * 3) ∧ (255 : BitVec 16).toNat < 256 ∧ admitsMaker (servedIn .ready) anyMode = true := by decide

/-- Timer 15 running with a one-shot overflow next, four captures held and its event selected; timer 0 with none. -/
theorem wit_timers : let x : Timer := { Timer.reset with run := true, ctrl := 0x02040800#32 ||| 0x08000000#32, cnt := 5, reload := 5, cap := [1, 2, 3, 4] }
    let z := { ready with ts := { ready.ts with tmr := vset ready.ts.tmr 15 x } }
    z.tmrClock = true ∧ field x.ctrl 26 25 = 1 ∧ field x.ctrl 24 18 ≠ 0 ∧ field x.ctrl 17 11 ≠ 0 ∧ x.cap.length = 4
    ∧ (vget z.ts.tmr 15).run = true ∧ bit x.ctrl 28 = false ∧ (vget z.ts.tmr 0).cap.length < 4 := by decide

/-- A running engine that shifts out and in one bit, with a word in its TX FIFO and none in its RX FIFO, and one whose FIFO is empty. -/
theorem wit_strobes : let x : Engine := { Engine.reset with run := true, lut := [(0, 0x00C000#24)], tx := [7], rxHave := 31, txLeft := 0 }
    let z := { ready with ts := { ready.ts with eng := vset ready.ts.eng 7 x } }
    z.stbClock = true ∧ (∀ i : Fin 6, bit (0 : BitVec 6) i.val = z.stbInput x 0 i) ∧ x.lut.lookup (x.state.toNat * 64 + 0) = some 0x00C000#24
    ∧ bit 0x00C000#24 14 = true ∧ bit 0x00C000#24 15 = true ∧ x.rxHave + 2 ^ (BitVec.extractLsb' 16 2 0x00C000#24).toNat = 32
    ∧ (vget z.ts.eng 0).tx.length < 32 ∧ (vget z.ts.eng 7).rx.length < 32 ∧ x.tx = [7] := by decide

theorem wit_strobe_full : let x : Engine := { Engine.reset with tx := List.replicate 32 0, rx := List.replicate 32 0 }
    x.tx.length = 32 ∧ x.rx.length = 32 ∧ x.rx = 0 :: List.replicate 31 0 := by decide

/-- Converters: between passes, in one, with a trigger held, and with results due and not yet due; their slots taken and free. -/
theorem wit_converters : let x : Conv := { Conv.reset with ctrl := 0x01010001#32, nextReg := some 15, pending := true, passTb := some 0 }
    let i : Conv := { x with pending := false, nextInj := some 3, sampled := [(.inj 3, 1, 9, 0)], deferred := 4 }
    let r : Conv := { x with pending := false, sampled := [(.reg 15, 1, 9, 1)] }
    let v := { ready with tb := 2000 }
    bit x.ctrl 16 = true ∧ field x.ctrl 30 24 ≠ 0 ∧ x.nextReg ≠ none ∧ (vget ready.hk.conv 0).nextReg = none ∧ (vget ready.hk.conv 0).passTb = none
    ∧ 1000 * field x.ctrl 15 0 ≤ 1000 - 0 ∧ ready.tbRun = true ∧ ready.hk.chkSlot = none ∧ ({ ready.hk with chkSlot := some 1 } : House).chkSlot = some 1
    ∧ (vget ready.hk.conv 1).freeSlot ≤ ready.tb / 1000 ∧ i.injSlot ≤ ready.tb / 1000 ∧ 1 < ({ x with freeSlot := 2 } : Conv).freeSlot
    ∧ i.sampled = [(.inj 3, 1, 9, 0)] ∧ r.sampled = [(.reg 15, 1, 9, 1)] ∧ 1000 * 0 + 2000 ≤ v.tb ∧ v.tb < 1000 * 1 + 2000
    ∧ field (1 : Word) 5 4 = 0 ∧ field (1 : Word) 3 0 ≠ 8 ∧ ready.host.phase ≠ 0 ∧ admitsMaker (servedIn .ready) anyMode = true := by decide

/-- DACs before their first write, on, and in a hold; a transfer under way, and the results that it can have. -/
theorem wit_dacs : let x : Dac := { active := true, hold := false, slew := false, range := false, code := 1, holdTb := 0 }
    let z := { servedIn .ready with hk := { (servedIn .ready).hk with i2cSlot := some (3, 0x50, 1, 2, [7]) },
                                    host := { (servedIn .ready).host with waits := vset (servedIn .ready).host.waits 3 (some .i2c) } }
    (vget ready.hk.dac 3).active = false ∧ bit (0x1FFF : Word) 12 ≠ x.range ∧ bit (0x0FFF : Word) 12 = x.range ∧ ready.host.phase ≠ 0
    ∧ BitVec.extractLsb' 0 12 (0x0FFF : Word) ≠ x.code ∧ ({ x with hold := true } : Dac).hold = true ∧ x.holdTb + 20000 ≤ 20000
    ∧ z.hk.i2cSlot = some (3, 0x50, 1, 2, [7]) ∧ vget z.host.waits 3 = some .i2c ∧ z.dbg.cpHalted = false
    ∧ ([5, 6] : List Byte).length = (2 : Byte).toNat ∧ (0 : Byte).toNat < (1 : Byte).toNat ∧ (3 : Byte).toNat ≤ (1 : Byte).toNat + (2 : Byte).toNat
    ∧ (servedIn .ready).hk.i2cSlot = none ∧ (4095 : BitVec 16).toNat < 4096 := by decide
/-- The first and last byte of slot 15, and the whole of sub-window 0; the slot is the host's, then the device's; the CRC option on. -/
theorem wit_host_window : let d := { ready with host := { ready.host with ring := 0x8000, crcEn := true } }
    ready.host.crcEn = false ∧ 3 ≤ ready.host.phase.toNat ∧ hostWf ready.host.bytes = true ∧ bit ready.host.ring 15 = false
    ∧ bit d.host.ring 15 = true ∧ d.host.crcEn = true ∧ (List.replicate 1 (0 : Byte)) ≠ [] ∧ ready.host.phase = 5 := by decide


/-- The ends of the window's parts, and a check sequence that is wrong. -/
theorem wit_window_ends : slotAddr 15 + 0xFF + 1 ≤ slotAddr 15 + 0x100 ∧ 0 + 4096 ≤ 0 + 0x1000
    ∧ (0 : BitVec 16) ≠ crcMsb 0x1021#16 0xFFFF#16 ([0x02] ++ bytesBe 3 0 ++ [1]) := by
  refine ⟨by decide, by omega, by decide +kernel⟩

/-- The target: addresses it answers by its own, by SADDR and by a mask, reserved ones it never answers, before and in READY. -/
theorem wit_target : let own : BitVec 7 := 0x54#7 ||| ready.hk.addrPins.setWidth 7
    own = 0x54 ∧ bit ready.hk.i2cCfg 21 = true ∧ bit ready.flt.pfrBusy 11 = false ∧ ready.host.phase = 5
    ∧ (0x55#7 ≠ own) ∧ ¬ (0x08 ≤ (0x07#7).toNat) ∧ ¬ ((0x78#7).toNat < 0x78)
    ∧ (∀ i : Fin 7, (0x01#7).getLsbD i.val = false → (0x55#7).getLsbD i.val = own.getLsbD i.val)
    ∧ (State.reset.host.phase ≠ 5 ∧ State.reset.host.phase ≠ 6) := by decide

/-- One doorbell, and one while debug holds the control processor. -/
theorem wit_doorbell : let d := { ready with dbg := { ready.dbg with cpHalted := true } }
    3 ≤ ready.host.phase.toNat ∧ ready.dbg.cpHalted = false ∧ bit ready.host.ring 15 = false ∧ (0x8000 : BitVec 16) = BitVec.ofNat 16 (2 ^ 15)
    ∧ d.dbg.cpHalted = true := by decide

/-- The addresses below and above register space; a context that is free and one that is locked; a reserved SRC. -/
theorem wit_register_write : let l := { ready with ctx := vset ready.ctx 15 { vget ready.ctx 15 with lockUntil := some 9 } }
    (0x1FFFFFFFFF : BitVec 40).toNat < 0x2000000000 ∧ 0x2010000000 ≤ (0x2010000000 : BitVec 40).toNat
    ∧ (vget ready.ctx 15).sched = none ∧ (vget ready.ctx 15).lockUntil = none ∧ (vget l.ctx 15).lockUntil ≠ none
    ∧ 6 ≤ field (6 : Word) 2 0 ∧ ready.host.phase ≠ 0 := by decide

/-- The watchdog with its window closed, open, and open with the first key given; in MAINT with and without WDT_LOCK. -/
theorem wit_watchdog : let o := { ready with wdt := { ready.wdt with isOpen := true } }
    let a := { ready with wdt := { ready.wdt with isOpen := true, armed := true } }
    let l := { ready with fuse := { ready.fuse with shadow := vset ready.fuse.shadow 0x18 4 } }
    ready.wdt.disabled = false ∧ ready.wdt.isOpen = false ∧ o.wdt.armed = false ∧ a.wdt.armed = true ∧ (servedIn .maint).mode.mode = .maint
    ∧ bit (vget ready.fuse.shadow 0x18) 2 = false ∧ bit (vget l.fuse.shadow 0x18) 2 = true ∧ l.host.phase ≠ 0 := by decide

theorem wit_restart : ready.dbg.haltOnRestart = false ∧ ready.mode.mode ≠ .maint ∧ ready.mode.pending = none
    ∧ ({ ready.dbg with haltOnRestart := true } : Debug).haltOnRestart = true ∧ (servedIn .maint).mode.mode = .maint := by decide

/-- Function resets: free ones on a large part; a small one lacks port 3; a busy one ends. -/
theorem wit_function_resets : let b := { ready with flt := { ready.flt with pfrBusy := 0x1FFF } }
    let m := { ready with fuse := { ready.fuse with shadow := vset (vset ready.fuse.shadow 0 0x00000202#32) 0x17 1 } }
    (∀ n : Fin 13, bit ready.flt.pfrBusy n.val = false ∧ bit b.flt.pfrBusy n.val = true) ∧ ready.host.phase = 5 ∧ ready.isSmall = false
    ∧ m.isSmall = true ∧ bit m.flt.pfrBusy 4 = false ∧ b.groom.resetDue = false ∧ ready.hk.i2cSlot = none := by decide

/-- A follower that is LOCKED. -/
def follower : State := { ready with sync := { ready.sync with cfg := 0x05DC8000#32, state := .locked, upLock := true }, clk := { ready.clk with recovered := true } }

theorem wit_follower : field follower.sync.cfg 15 14 = 2 ∧ follower.sync.state = .locked ∧ follower.role = 2 := by decide

/-- A session whose 600 s are over by RTC 600 · 32,768 and one that is held or still within them; a challenge of 30 s; a lock that runs 3,600 s. -/
theorem wit_security_events : let p := { served with bkp := { served.bkp with powered := true, vaonGood := true }, tack := { served.tack with paused := true } }
    let l : LiveLock := { lock := { LockRec.clear with locked := true, remaining := 3600 }, since := 0 }
    let k := { p with tack := { p.tack with locks := vset p.tack.locks 3 (vset (vget p.tack.locks 3) 7 l) } }
    let c := { p with tack := { p.tack with challenges := vset p.tack.challenges 3 (some { nonce := 1, role := 1, index := 0, since := 0 }) } }
    vget served.tack.sessions 3 = some makerSession ∧ makerSession.held = false ∧ ({ makerSession with held := true } : Session).held = true
    ∧ served.mainPower = true ∧ served.tack.periods = 0 ∧ served.bkp.rtc = 0
    ∧ makerSession.since + 32768 * 600 ≤ 0 + (600 * 32768 - 0) ∧ 0 + (600 * 32768 - 1 - 0) < makerSession.since + 32768 * 600
    ∧ vget c.tack.challenges 3 = some { nonce := 1, role := 1, index := 0, since := 0 }
    ∧ vget (vget k.tack.locks 3) 7 = l ∧ l.lock.locked = true ∧ l.since + 32768 * l.lock.remaining ≤ 3600 * 32768 ∧ l.since + 60 * 32768 ≤ 60 * 32768
    ∧ 60 * 32768 < l.since + 32768 * l.lock.remaining
    ∧ p.tack.state = .operational ∧ p.bkp.powered = true ∧ p.tack.paused = true ∧ p.tack.waiting = [] ∧ p.bkp.vaonGood = true
    ∧ (p.bkp.events.filter fun e => 0 < e + 60 * 32768).length < 15 ∧ State.reset.tack.state = .selftest ∧ ready.host.phase ≠ 0 := by decide

/-- The sixteenth event within 60 s: fifteen lie before it. -/
theorem wit_security_sixteenth : 15 ≤ ((List.replicate 15 1).filter fun e : Nat => 2 < e + 60 * 32768).length := by decide

/-- The states on the way of a power-up: no rail, the hold, and each PHASE. -/
def inPhase (n : BitVec 4) : State :=
  { ready with host := { ready.host with phase := n }, tack := { ready.tack with state := if n = 2 then .selftest else .operational } }

theorem wit_power : let h := { State.reset with pwr := { State.reset.pwr with rails := Vector.replicate 12 true } }
    let r := { State.reset with pwr := { State.reset.pwr with rails := Vector.replicate 12 true, porHeld := false, resetLow := true } }
    vget State.reset.pwr.rails 0 = false ∧ (∀ i, vget h.pwr.rails i = true) ∧ h.pwr.resetLow = false ∧ h.host.phase = 0 ∧ h.pwr.dead = false
    ∧ r.pwr.resetLow = true ∧ r.pwr.porHeld = false ∧ (∀ i, vget r.pwr.rails i = true)
    ∧ (inPhase 2).hukMissing = false ∧ (inPhase 2).fuse.pulse = none ∧ (inPhase 2).dbg.cpHalted = false
    ∧ (inPhase 3).bkp.tampPending = false ∧ (inPhase 3).wdt.disabled = false
    ∧ (inPhase 3).bootBank = some (0, 0) ∧ (inPhase 6).bootBank = some (0, 0) ∧ (inPhase 1).host.phase = 1 ∧ (inPhase 6).mode.mode ≠ .boot
    ∧ State.reset.bkp.shipArmed = false ∧ State.reset.bkp.switchOpen = false ∧ State.reset.bkp.powered = false := by decide

/-- A sealed part without HUK and without a source of the pulse; one on the bypass clock whose canary is good. -/
theorem wit_no_huk : let z := inPhase 2
    let m := { z with fuse := { z.fuse with shadow := vset z.fuse.shadow 0x17 1, cell0 := Vector.replicate 256 0, cell1 := Vector.replicate 256 0, vppMv := some 1000 } }
    let b := { z with clk := { z.clk with refclkOk := false }, bkp := { z.bkp with canary := canaryPattern } }
    m.hukMissing = true ∧ m.canPulse = false ∧ b.clk.refclkOk = false ∧ b.clk.recovered = false ∧ b.bkp.canary = canaryPattern := by decide +kernel

/-- A part whose banks both fail. -/
theorem wit_no_bank : let z := inPhase 3
    ({ z with nvm := { z.nvm with banks := let b : Bank := { factory := none, image := [], invalid := true }
      #v[b, b] } }).bootBank = none := by decide

/-- The protection block of a part that is not sealed passes; that of the part as it leaves manufacture has its check word programmed (R316). -/
theorem test_block_ok : State.reset.fuse.word 0x17 = 0xABE6D8A0#32
    ∧ ({ State.reset.fuse with cell0 := Vector.replicate 256 0, cell1 := Vector.replicate 256 0 } : Fuses).blockOk = true := by decide

/-- The charger: no source, AUX in each of the states, NTC in use; the domain unpowered, powered and with its switches open. -/
theorem wit_backup : let b : Backup := { Backup.por with powered := true, vaonGood := true, rtcValid := true, chgSource := 2, chargeQ := 1, chgCfg := 0x00009884#32 }
    let z := { ready with bkp := b, mode := { ready.mode with reconcile := true } }
    let open_ : Backup := { b with switchOpen := true, powered := false }
    z.bkp.powered = true ∧ bit b.chgCfg 15 = true ∧ State.reset.bkp.powered = false ∧ State.reset.bkp.switchOpen = false ∧ State.reset.bkp.chgSource = 0
    ∧ field z.sync.cfg 15 14 ≠ 2 ∧ z.tbRun = true ∧ vget z.clk.lock 0 = true ∧ z.mainSource = false ∧ z.mode.reconcile = true
    ∧ open_.switchOpen = true ∧ z.tack.state ≠ .selftest ∧ (∀ p, (vget z.port.port p).state ≠ .running)
    ∧ 1000 < 1 * 1000000000 ∧ ({ b with chgState := .cc } : Backup).chgState = .cc ∧ ({ b with chgState := .done } : Backup).chgState = .done
    ∧ 0 < b.chargeQ ∧ State.reset.tack.state = .selftest ∧ b.chgSince + 32768 * 3600 * (5 * (1 + field b.chgCfg 8 7)) ≤ 32768 * 3600 * 20
    ∧ 0 < b.chgSince + 32768 * 3600 * 1 := by decide
/-- The part with a clock tree in some state. -/
def clocked (f : Clocks → Clocks) : State := { ready with clk := f ready.clk }

/-- PLLs: locked ones; trying ones with an empty band table, with a band that holds the target, and with one that does not; a string's role at the clock;
phase steps left; a profile that is legal, one that is not, and one that runs. -/
theorem wit_plls : let t := clocked fun c => { c with lock := Vector.replicate 6 false, trying := Vector.replicate 6 true }
    let bad := clocked fun c => { c with lock := Vector.replicate 6 false, trying := Vector.replicate 6 true, band := vset c.band 0 (vset (vget c.band 0) 0 0x80320065#32) }
    let good := clocked fun c => { c with lock := Vector.replicate 6 false, trying := Vector.replicate 6 true, band := vset c.band 0 (vset (vget c.band 0) 63 0x83E80FA0#32) }
    let p := clocked fun c => { c with phaseLeft := 1 }
    vget ready.clk.lock 0 = true ∧ vget ready.clk.lock 1 = true ∧ t.mayLock 0 = true ∧ t.mayLock 1 = true ∧ t.mayLock 5 = true
    ∧ t.bandFor 0 = some true ∧ t.bandFor 1 = some true ∧ t.bandFor 5 = some true ∧ bad.bandFor 0 = none ∧ good.bandFor 0 = some false
    ∧ field ready.sync.cfg 15 14 ≠ 2 ∧ ready.clk.phaseLeft = 0 ∧ p.clk.phaseLeft ≠ 0 ∧ ready.clk.recovered = false ∧ follower.clk.recovered = true := by decide

theorem wit_pll_response : let q := clocked fun c => { c with lock := Vector.replicate 6 true }
    let z := { servedIn .line with clk := q.clk }
    vget q.clk.lock 5 = true ∧ z.mode.mode.streaming = true ∧ z.mode.pending = none := by decide

theorem wit_profile : let v : Vector Word 16 := Vector.replicate 16 0x28000001#32
    let g := clocked fun c => { c with prof := v, band := vset c.band 1 (vset (vget c.band 1) 0 0x83E83A98#32) }
    let r := clocked fun c => { c with prof := v, profile := some 15, profLast := 15 }
    bit (0x1F : Word) 4 = true ∧ g.clk.profileOk 15 = true ∧ ready.clk.profileOk 15 = false ∧ r.clk.profile = some 15 := by decide

/-- The part with a tick source. -/
def sourced (cfg : Word) (f : TickSource → TickSource) : State :=
  { ready with tick := f { ready.tick with cfg := cfg, allowed := some 0 }, sensor := { ready.sensor with biased := true } }

/-- Encoders: a double change, single changes on a channel that is the source and on one that is not, DECODE ×4, a capture mode, edges 2 ms old; a change
held shorter than FILT_NS; one on the bypass clock 5 ns after the last. -/
theorem wit_encoders : let e := sourced 1 fun k => { k with edges := [{ pos := 0, t := 0, up := true }] }
    let z := { e with tb := 2000000 }
    let c := { ready with enc := vset ready.enc 0 { vget ready.enc 0 with cfg := 0x0000010F#32 } }
    let n := { clocked (fun c => { c with lock := Vector.replicate 6 false }) with enc := vset ready.enc 0 { vget ready.enc 0 with changed := 995 } }
    (true ≠ (vget ready.enc 0).a ∧ true ≠ (vget ready.enc 0).b) ∧ field (vget ready.enc 0).cfg 5 4 = 0 ∧ field (vget ready.enc 0).cfg 3 0 ≤ 15
    ∧ 14 < field (vget c.enc 0).cfg 3 0 ∧ ready.host.phase ≠ 0 ∧ n.tbRun = true ∧ vget n.clk.lock 0 = false ∧ 1000 < (vget n.enc 0).changed + 10
    ∧ ¬ ((field ready.tick.cfg 2 0 = 1 ∧ (0 : EncIx) = 0) ∨ (field ready.tick.cfg 2 0 = 2 ∧ (0 : EncIx) = 1)) ∧ field z.tick.cfg 2 0 = 1
    ∧ field (vget c.enc 0).cfg 9 8 = 1 ∧ z.tick.edges = [{ pos := 0, t := 0, up := true }] ∧ 0 + 2000000 ≤ z.tb := by decide

/-- Ticks: not yet allowed; the internal period within HZ and beyond it, after a tick that fired, without DEFER; a trigger edge; a tick due whose PRE_LT has not fired. -/
theorem wit_ticks : let n := { clocked (fun c => { c with ticksAllowed := false }) with sensor := { ready.sensor with biased := true } }
    let i := { sourced 4 (fun k => { k with per := 1250#32 }) with tb := 10 }
    let now := { i with tb := 1250 }
    let late := { now with tb := 2450, tick := { now.tick with perLast := some 1200 }, sensor := { now.sensor with anyTick := true, lastTb := 1200 } }
    let g := sourced 3 id
    let p := sourced 0 fun k => { k with due := [{ inst := 1500, req := 1500, dir := false, line := none, pos := none, slip := false }] }
    (vget n.clk.lock 0 = true ∧ n.tbRun = true ∧ n.clk.ticksAllowed = false ∧ n.sensor.biased = true ∧ n.mode.mode = .ready)
    ∧ (field i.tick.cfg 2 0 = 4 ∧ i.ticksAsked = true ∧ i.periodRequest = some { inst := 1250, dir := false, boundary := none }
      ∧ 1250 ≤ now.tb + now.horizon ∧ now.periodRequest = i.periodRequest ∧ i.tick.due = [] ∧ bit i.tick.cfg 4 = false)
    ∧ (late.sensor.anyTick = true ∧ late.ticksAsked = true ∧ late.periodRequest = some { inst := 2450, dir := false, boundary := none })
    ∧ (field g.tick.cfg 2 0 = 3 ∧ g.ticksAsked = true ∧ true ≠ bit g.tick.cfg 5 ∧ g.sensor.anyTick = false ∧ field g.sync.cfg 15 14 = 0 ∧ g.sync.switch = none)
    ∧ ((∀ d ∈ p.tick.due, d.pre = false) ∧ field p.tick.cfg 2 0 ≠ 3 ∧ 1500 - p.ts.preNs.toNat ≤ 1500) := by decide

theorem wit_period_ahead : let i := { sourced 4 (fun k => { k with per := 0x10000#32 }) with tb := 0 }
    i.periodRequest = some { inst := 0x10000, dir := false, boundary := none } ∧ i.tb + i.horizon < 0x10000 ∧ i.ticksAsked = true := by decide

/-- A follower that is LOCKED and whose ticks may fire. -/
def locked4 : State := { follower with sensor := { follower.sensor with biased := true }, sync := { follower.sync with lastLine := some 299 } }

/-- TICK of line 300 under position 15 and direction; it comes in time, and its check holds; a wrong check; reserved bits set; a follower that is lost. -/
theorem wit_sync_tick : let p := bytesLe 8 2000 ++ bytesLe 6 300 ++ [31]
    let r := bytesLe 8 2000 ++ bytesLe 6 300 ++ [32]
    let lost := { locked4 with sync := { locked4.sync with state := .lost } }
    syncPayload 0x01 15 (syncFrame 0x01 p) = some p ∧ (p.getD 14 0).toNat < 32 ∧ locked4.sync.lastLine = some (300 - 1) ∧ natLe ((p.drop 8).take 6) = 300
    ∧ natLe (p.take 8) = 2000 ∧ locked4.tb + 100 ≤ 2000 ∧ locked4.ticksMayFire = true ∧ field locked4.sync.cfg 15 14 = 2 ∧ locked4.sync.state = .locked
    ∧ syncPayload 0x01 15 (syncFrame 0x01 r) = some r ∧ 32 ≤ (r.getD 14 0).toNat ∧ lost.sync.state ≠ .locked ∧ lost.sync.joinAt = none
    ∧ syncPayload 0x01 15 (0x01 :: p ++ [0, 0]) = none := by decide +kernel

/-- A switch under tag 5, on a follower and on a leader. -/
def switch5 : StringSwitch := { line := 400, ctx := 1, mode := 3, tag := 5, answers := [], slot := none }

/-- A switch under tag 5, on a follower, with and without a transition that waits for its line, and on a leader. -/
theorem wit_sync_switch : let f := { locked4 with sync := { locked4.sync with switch := some switch5 } }
    let m : Pending := { target := .line, ctx := 1, deep := false, force := false, slot := none, role := 0, cause := 0, since := 0, phase := .enter 400,
                         thenStandby := false, fullyDone := none }
    let g := { f with mode := { f.mode with pending := some m } }
    let l := { ready with sync := { ready.sync with cfg := 0x05DC4000#32, state := .locked, switch := some switch5 } }
    let at_ := bytesLe 6 400 ++ [0x31, 5]
    syncPayload 0x02 8 (syncFrame 0x02 at_) = some at_ ∧ syncPayload 0x04 1 (syncFrame 0x04 [5]) = some [5] ∧ f.sync.switch = some switch5
    ∧ f.mode.deep = false ∧ f.mode.pending = none ∧ g.mode.pending = some m ∧ m.phase = .enter 400 ∧ f.dbg.cpHalted = false
    ∧ switch5.tag = ([5] : List Byte).getD 0 0 ∧ field l.sync.cfg 15 14 = 1 ∧ syncPayload 0x03 3 (syncFrame 0x03 [5, 1, 0]) = some [5, 1, 0]
    ∧ l.sync.switch = some switch5 := by decide +kernel

/-- Stamps of DREQ and DRSP, with the largest fraction; a device being formed before and after it takes the recovered clock, and a lost one that rejoins. -/
theorem wit_sync_delay : let q := stampBytes 128127
    let r := stampBytes 128127 ++ stampBytes 129000 ++ stampBytes 130000
    let d := { locked4 with sync := { locked4.sync with t1 := some 128127 } }
    let new := { d with sync := { d.sync with state := .enumerated }, clk := { d.clk with recovered := false } }
    let full := { d with sync := { d.sync with state := .enumerated, thetas := List.replicate 15 0, delays := List.replicate 15 0 } }
    let back := { full with sync := { full.sync with state := .lost, rejoining := true } }
    syncPayload 0x05 9 (syncFrame 0x05 q) = some q ∧ stampOf q 0 = some 128127 ∧ stampOf r 9 = some 129000 ∧ stampOf r 18 = some 130000
    ∧ d.sync.t1 = some 128127 ∧ d.sync.thetas.length < 15 ∧ new.sync.state = .enumerated ∧ new.sync.joinAt = none ∧ new.clk.recovered = false
    ∧ full.sync.thetas.length = 15 ∧ full.sync.state = .enumerated ∧ full.clk.recovered = true
    ∧ back.sync.state = .lost ∧ back.sync.rejoining = true ∧ back.sync.thetas.length = 15 ∧ d.mode.deep = false
    ∧ d.sync.aligned = false ∧ ({ d.sync with aligned := true } : SyncLink).aligned = true ∧ field ready.sync.cfg 15 14 = 0
    ∧ locked4.sync.upLock = true ∧ locked4.sync.state ≠ .enumerated := by decide +kernel

theorem wit_sync_drsp : let r := stampBytes 128127 ++ stampBytes 129000 ++ stampBytes 130000
    syncPayload 0x06 27 (syncFrame 0x06 r) = some r := by decide +kernel

/-- The messages of formation and loss, the last position that ENUM reaches, and a join at READY under context 15, position 15. -/
theorem wit_string_messages : let j := bytesLe 6 500 ++ [0x2F, 15]
    (syncPayload 0x07 3 (syncFrame 0x07 [29, 0xE2, 0x04]) = some [29, 0xE2, 0x04] ∧ (29#8).toNat < 30)
    ∧ syncPayload 0x08 3 (syncFrame 0x08 [4, 0xE2, 0x04]) = some [4, 0xE2, 0x04] ∧ syncPayload 0x09 1 (syncFrame 0x09 [3]) = some [3]
    ∧ syncPayload 0x0A 1 (syncFrame 0x0A [3]) = some [3] ∧ syncPayload 0x0B 1 (syncFrame 0x0B [3]) = some [3]
    ∧ syncPayload 0x0C 8 (syncFrame 0x0C j) = some j ∧ (j.getD 7 0).toNat < 16 ∧ (j.getD 6 0).toNat / 16 = 2 ∧ finOf 16 (j.getD 6 0).toNat = (15 : CtxIx) := by decide +kernel

/-- A follower that is lost, and one that is down or aligned; context 15 may lead READY, and may not while the firmware restarts. -/
theorem wit_string_follower : let lost := { follower with sync := { follower.sync with state := .lost, aligned := true } }
    let al := { follower with sync := { follower.sync with state := .aligned, aligned := true } }
    let dn := { follower with sync := { follower.sync with state := .down, upLock := false } }
    let own := { lost with clk := { lost.clk with recovered := false } }
    lost.leadHalfBad .ready 15 = false ∧ lost.shadowHeld (cMapSet (lost.comingHalf 15)) = false ∧ field lost.sync.cfg 15 14 = 2 ∧ lost.sync.joinAt = none
    ∧ lost.sync.upLock = true ∧ lost.sync.aligned = true ∧ lost.mode.deep = false ∧ lost.host.phase = 5 ∧ lost.dbg.cpHalted = false
    ∧ lost.clk.recovered = true ∧ own.clk.recovered = false ∧ ({ lost.host with phase := 6 } : HostPort).phase ≠ 5
    ∧ al.sync.state = .aligned ∧ al.sync.upLock = true ∧ dn.sync.upLock = false ∧ follower.sync.state = .locked := by decide

/-- A leader that forms its string, its command in slot 15; a string of 33 devices; a leader that is LOCKED. -/
theorem wit_string_leader : let l := { ready with
      sync := { ready.sync with cfg := 0x05DC4000#32, state := .trained, forming := true, devices := 2, alignedPos := [1] },
      host := { ready.host with waits := vset ready.host.waits 15 (some .stringForm) } }
    field l.sync.cfg 15 14 = 1 ∧ l.sync.forming = true ∧ l.sync.devices ≤ 32 ∧ vget l.host.waits 15 = some .stringForm
    ∧ (∀ k, k ≠ 15 → vget l.host.waits k ≠ some .stringForm) ∧ l.dbg.cpHalted = false ∧ hostWf l.host.bytes = true
    ∧ 2 ≤ l.sync.devices ∧ 1 ∈ l.sync.alignedPos ∧ 1 ∉ l.sync.lostPos
    ∧ 32 < ({ l.sync with devices := 33 } : SyncLink).devices ∧ ({ l.sync with state := .locked } : SyncLink).state = .locked := by decide

/-- LEAD_NS suffices for the delays of the hops or it does not: one of the two cases of STRING_FORM is met. -/
theorem wit_lead_time (s : State) : 128 * s.leadNs < leadReq (s.hopDelays 0) ∨ leadReq (s.hopDelays 0) ≤ 128 * s.leadNs := Nat.lt_or_ge _ _

/-- A tick due on a part without a string, at the first line and at line 255; a swap of the lead context that is due. -/
theorem wit_line_tick : let d : DueTick := { inst := 1500, req := 1490, dir := false, line := none, pos := none, slip := false }
    let z := sourced 0 fun k => { k with due := [d] }
    let y := { z with sensor := { z.sensor with anyTick := true, lineNow := 254 } }
    let x := { y with ctx := vset y.ctx 0 { vget y.ctx 0 with sched := some (255, none) } }
    z.tick.due = [d] ∧ z.ticksMayFire = true ∧ z.sync.joinAt = none ∧ (y.leadOf 255).1 = 0 ∧ (y.leadOf 255).2.2 = .ready ∧ y.sensor.dropTo ≤ 255 - 255
    ∧ (vget x.ctx 0).sched = some (255, none) ∧ leadBad (x.leadOf 255).2.2 (vget x.ctx 0).shadow = false ∧ (vget y.ctx 0).sched = none ∧ y.cap = none := by decide

theorem wit_line_event : let z := sourced 0 id
    ∀ p, z.tickEvent 255 ≠ .leave p := by
  intro z p h
  have e : z.tickEvent 255 = .none := rfl
  rw [e] at h
  cases h

/-- A pending transition. -/
def moving (target : Mode) (deep : Bool) (phase : Phase) : State :=
  let p : Pending :=
    { target := target, ctx := 0, deep := deep, force := false, slot := some 15, role := 2, cause := 0, since := 0, phase := phase,
      thenStandby := false, fullyDone := none }
  let c : Conv := { Conv.reset with calOk := true, data := (Conv.reset.data.set 13 0x800007AE#32).set 14 0x8000099A#32 }
  { ready with
    mode := { ready.mode with mode := if deep then .standby else .ready, pending := some p }, tb := 10000000000,
    hk := { ready.hk with conv := #v[c, c] } }

theorem wit_transitions : (∀ m ∈ [Mode.standby, .ready, .maint], ∃ p, (moving m false .timed).mode.pending = some p ∧ p.phase = .timed
      ∧ (moving m false .timed).timedReady p = true ∧ p.deep = false ∧ p.target = m ∧ p.slot = some 15
      ∧ (moving m false .timed).sync.switch = none ∧ (moving m false .timed).mode.leaving = false)
    ∧ (∃ p, (moving .standby true .timed).mode.pending = some p ∧ (moving .standby true .timed).timedReady p = true ∧ p.deep = true
      ∧ (moving .standby true .timed).mode.mode = .standby ∧ (moving .standby true .timed).mode.deep = false)
    ∧ (∃ p, (moving .line false (.enter 5)).mode.pending = some p ∧ p.phase = .enter 5 ∧ p.since + 10000000000 ≤ (moving .line false (.enter 5)).tb
      ∧ (moving .line false (.enter 5)).sensor.anyTick = false ∧ p.slot = some 15)
    ∧ (let f := moving .line false (.enter 5)
      let g := { f with sensor := { f.sensor with anyTick := true, lastTb := 1 } }
      ∃ p, g.mode.pending = some p ∧ p.since < g.sensor.lastTb ∧ g.sensor.anyTick = true) := by
  refine ⟨?_, ⟨_, rfl, by decide⟩, ⟨_, rfl, by decide⟩, ⟨_, rfl, by decide⟩⟩
  intro m hm
  simp only [List.mem_cons, List.not_mem_nil, or_false] at hm
  rcases hm with rfl | rfl | rfl <;> exact ⟨_, rfl, by decide⟩

/-- A capture whose lines are written, and one that waits; a lock waited for; a load; a gate; a held commit. -/
theorem wit_waits : let w (x : Wait) : HostPort := { ready.host with waits := vset ready.host.waits 15 (some x) }
    let c (n : Nat) : State := { ready with host := w .calCapture, cap := some { slot := 15, lines := 2, done_ := n, pa := 0, since := 0 }, tb := 10000000000 }
    let k := { ready with host := w (.ctxLocked 0 (.schedule 9)) }
    let n : NvItem := .storedCtx 63
    let l := { ready with sensor := { ready.sensor with loading := true, biased := true, biasedLt := true }, tb := 65536 }
    vget k.host.waits 15 = some (.ctxLocked 0 (.schedule 9)) ∧ k.dbg.cpHalted = false
    ∧ vget (c 2).host.waits 15 = some .calCapture ∧ (c 2).cap = some { slot := 15, lines := 2, done_ := 2, pa := 0, since := 0 } ∧ 1 < 2
    ∧ Nat.max 0 (c 1).sensor.lastTb + 10000000000 ≤ (c 1).tb
    ∧ l.sensor.loading = true ∧ l.sensor.biased = true ∧ l.sensor.biasedLt = true ∧ l.sensor.lastTb + 65536 ≤ l.tb ∧ l.hbmDown = false ∧ l.host.phase ≠ 0
    ∧ (n ∈ ({ ready.nvm with dirty := [n] } : Mram).dirty) := by decide

/-- Chores: the first sample, warm and cool; a log buffer with one entry, with room in MRAM and without; a locked PLL; chores past their limit and not. -/
theorem wit_chores : let o := { ready with tb := 10000000001 }
    let full := { ready with chore := { ready.chore with auditWrites := [(1000, 2048)] } }
    ready.tbRun = true ∧ ready.host.phase ≠ 0 ∧ ready.tempDue ready.tb = true ∧ 60 ≤ (vget (Vector.replicate 8 (60 : Byte)) 7).toInt
    ∧ (∀ i, (vget (Vector.replicate 8 (55 : Byte)) i).toInt ≤ 55) ∧ ready.flt.hubWarm = false ∧ ready.chore.log.length < 64
    ∧ vget ready.clk.lock 0 = true ∧ vget ready.clk.lock 2 = false ∧ o.choreAged 1 = true ∧ o.choreAged 2 = true ∧ ready.choreAged 2 = false
    ∧ ready.chore.logDropped = 0 ∧ 0 < ready.auditRoom ∧ full.auditRoom = 0
    ∧ ({ ready.chore with log := [.telemetry 1 2 1 []] } : Chores).log = [.telemetry 1 2 1 []] := by decide

theorem wit_full_buffer : 64 ≤ (List.replicate 64 (LogItem.telemetry 1 2 1 [])).length := by decide

/-- Port 3 in a state. -/
def porting (f : Port → Port) : State := { ready with port := { ready.port with port := vset ready.port.port 3 (f (vget ready.port.port 3)) } }

/-- A sealing session whose block is open. -/
def sealer : SealSession := { session := 9, key := 0, opened := true, chain := 0, block := [{ header := 1, payload := [], composedTb := 0 }], blockTb := 0, number := 1 }

theorem wit_ports : let r := porting fun x => { x with state := .running, lit := true }
    let k := { porting (fun x => { x with state := .running, session := some sealer }) with tb := 10000000 }
    let g := { k with tack := { k.tack with paused := true } }
    ready.hasPort 3 = true ∧ ready.mode.mode = .ready ∧ field (vget ready.port.port 3).cfg 30 28 ≤ 4 ∧ (vget ready.port.port 3).state = .stopped
    ∧ bit ready.flt.pfrBusy 4 = false ∧ (vget r.port.port 3).state = .running ∧ (vget r.port.port 3).session = none ∧ r.tbRun = true ∧ r.sensor.anyTick = false
    ∧ (∀ z ∈ [PortState.starting, .stopping], (vget (porting fun x => { x with state := z }).port.port 3).state = z) ∧ r.clk.refclkOk = true
    ∧ (vget r.port.port 3).stopAsked = false ∧ (vget r.port.port 3).startAsked = false ∧ (vget r.port.port 3).quietTb + 100000 ≤ k.tb
    ∧ (vget (porting fun x => { x with state := .running, lit := true, dealt := 8 * 16383 }).port.port 3).dealt = 8 * 16383 ∧ (vget r.port.port 3).dealt < 8 * 16383
    ∧ (vget k.port.port 3).session = some sealer ∧ sealer.opened = true ∧ k.sealing = true ∧ k.tack.paused = false
    ∧ g.tack.paused = true ∧ g.sealing = true ∧ sealer.block ≠ [] ∧ sealer.blockTb + 10000000 ≤ k.tb := by decide +kernel

/-- A descriptor of 2 rows of 4 bytes from HBM to 64 bytes on; its cart about to start, under way and done. -/
def desc : BitVec 256 := 0x00000000_00000000_00000002_00000004_0000040000000140_0000040000000100#256

def carting (raw : BitVec 256) (f : Cart → Cart) : State :=
  { ready with det := { ready.det with carts := vset ready.det.carts 31 (f { Cart.reset with queue := [{ raw := some raw, va := 0, asid := 0, poster := .firmware, chained := false }] }) } }

theorem wit_carts : let v := descView desc
    let c := descView (desc ||| 1 <<< 192)
    let i := carting desc id
    let m := carting desc fun c => { c with state := .running, begun := true }
    let e := carting desc fun c => { c with state := .running, begun := true, prog := 8 }
    let st := carting desc fun c => { c with state := .stopped }
    i.cartReady 31 = true ∧ v.bad .firmware = false ∧ (descView 0).bad .firmware = true ∧ (vget m.det.carts 31).begun = true
    ∧ (vget m.det.carts 31).prog.toNat < v.total ∧ m.mem.wf = true ∧ v.total ≤ (vget e.det.carts 31).prog.toNat ∧ v.chain = false ∧ v.done_ = 0
    ∧ (descView (desc ||| 1 <<< 193)).done_ = 1 ∧ (vget st.det.carts 31).state = .stopped
    ∧ c.chain = true ∧ c.done_ = 0 ∧ c.total ≤ (vget e.det.carts 31).prog.toNat ∧ (vget m.det.carts 31).state ≠ .stopped := by decide

theorem wit_cart_chunk : let v := descView desc
    let m := carting desc fun c => { c with state := .running, begun := true }
    let d : CartDesc := { raw := some desc, va := 0, asid := 0, poster := .firmware, chained := false }
    let r := (m.accessAll (m.cartRequester 31 d) .cartRead (m.cartTlb 31) (v.chunkVas 0).1).toOption
    let w := (m.accessAll (m.cartRequester 31 d) .cartWrite (m.cartTlb 31) (v.chunkVas 0).2).toOption
    r = some ([0x100, 0x101, 0x102, 0x103], [])
    ∧ w = some ([0x140, 0x141, 0x142, 0x143], []) ∧ ([0x140, 0x141, 0x142, 0x143] : List Nat).Nodup := by decide

/-- Bay 0 saving slot 3 and restoring it; bay 1 saving behind it; a poisoned word of the frame; a TLB that is being invalidated. -/
theorem wit_frames : let z := withBay { Bay.reset with work := .saving 3 .preempt }
    let two := { z with det := { z.det with bays := vset z.det.bays 1 { Bay.reset with work := .saving 3 .preempt } } }
    let r := withBay { Bay.reset with work := .restoring 3 }
    let bad := { r with mem := { r.mem with poison := [0x1000001B00 / 8 + 0x11F] } }
    let t := { ready with det := { ready.det with tlbBusy := some (15, 2, 0) } }
    (vget z.det.bays 0).work = .saving 3 .preempt ∧ SaveWhy.preempt ≠ .fault ∧ z.saveWaits 0 = false ∧ two.saveWaits 1 = true
    ∧ z.mem.wf = true ∧ (vget r.det.bays 0).work = .restoring 3 ∧ 0x1000000000 + (4 * 0 + 3) * 0x900 = 0x1000001B00
    ∧ bad.mem.poisoned (0x1000001B00 / 8 + 0x11F) = true ∧ ready.host.phase ≠ 0
    ∧ t.det.tlbBusy = some (15, 2, 0) ∧ ready.det.tlbBusy = none ∧ field (0xF8 : Word) 3 2 ≠ 3 ∧ field (0xFC : Word) 3 2 = 3 := by decide +kernel

theorem wit_frame_clean (n : Nat) : ready.mem.poisoned (0x1000000000 / 8 + n) = false := by
  have h : ¬ (0x1000000000 / 8 + n < hbmEnd / 8) := by unfold hbmEnd; omega
  simp only [Memory.poisoned, decide_eq_false h, Bool.false_and, Bool.or_false]
  simp [ready, State.reset, Memory.reset]

/-- The three debug scopes: a part not sealed; one sealed with debug by authority, under a maker's session; one whose debug is closed. -/
def debugged (r : Word) : State := { served with fuse := { served.fuse with shadow := vset (vset served.fuse.shadow 0x17 1) 0x18 r } }
theorem wit_debug_scopes : ready.debugScope = 2 ∧ (debugged 1).debugScope = 1 ∧ (debugged 2).debugScope = 0 ∧ (debugged 2).tapUp = true
    ∧ (debugged 1).tapUp = true ∧ ready.tapUp = true := by decide

theorem wit_debug_values : ([0, 1, 2, 3, 4, 5, 15].all fun i => !bit (0 : Word) i && !bit (0x7F00 : Word) i && !bit (0x10000 : Word) i) = true := by decide

theorem wit_debug : ready.dbg.cpHalted = false ∧ ready.dbg.restartHeld = false
    ∧ ready.host.held = [] ∧ ready.host.order = [] ∧ ready.hbmDown = false ∧ ready.mem.wf = true ∧ ready.hasBay 127 = true
    ∧ (vget ready.det.bays 0).halted = false ∧ ready.dbg.baySel ≠ (BitVec.extractLsb' 8 7 (0x7F00 : Word)).toFin := by decide

/-- The last word of HBM, written before, in an access that reads and one that writes. -/
theorem wit_debug_access : let dr : BitVec 80 := BitVec.ofNat 80 (0x3FFFFFFFC * 2 ^ 32)
    let m : Memory := { cells := [(0x3FFFFFFFC, 7)], poison := [] }
    (dr.extractLsb' 32 40).toNat / 4 * 4 = 0x3FFFFFFFC ∧ 0x3FFFFFFFC < hbmEnd ∧ dr.extractLsb' 74 6 = 0 ∧ bit dr 72 = false
    ∧ bit (BitVec.ofNat 80 (2 ^ 72 + 0x3FFFFFFFC * 2 ^ 32)) 72 = true ∧ m.poisoned (0x3FFFFFFFC / 8) = false ∧ m.wf = true := by decide

theorem wit_debug_halted : let h := { withBay { Bay.reset with work := .line job, halted := true } with dbg := { ready.dbg with cpHalted := true } }
    (vget h.det.bays 0).halted = true ∧ h.dbg.cpHalted = true ∧ h.dbg.restartHeld = false ∧ h.dbg.baySel = 0 ∧ h.debugScope = 2 ∧ h.tapUp = true
    ∧ State.canIssue (h.onBay 0 fun y => { y with halted := false, skipBrk := true }) 0 = true := by decide

theorem wit_memory : State.reset.mem.wf = true ∧ busy.mem.wf = true := by decide

theorem wit_step : ({ ready with pending := [.idcode, .extest] } : State).pending = [.idcode, .extest] ∧ ready.pending = [] := by decide


/-- The tables of R208's example: address space 3, its level-1 table at 0x10_0020_0000, whose entry 5 names the level-2 table at 0x10_0022_0000, whose leaf
801 maps the page of VA 0x01_4321_ABCD to 0x10_0040_0000 for bays and carts. -/
def tableCells : List Host.Cell :=
  [(0x1000200028, 0x01), (0x100020002A, 0x22), (0x100020002C, 0x10), (0x1000221908, 0x1F), (0x100022190A, 0x40), (0x100022190C, 0x10)]

/-- The leaf as a TLB holds it. -/
def leaf3 : TlbEntry := { asid := 3, page := 0x014321, big := false, leaf := 0x100040001F }

/-- Bay 0 runs a line job of address space 3 with DSEG 1, s1 = 0x4321_ABC0, and cart 1 is its. -/
def walking (poison : List Nat) : State :=
  let z := withBay { Bay.reset with work := .line { job with asid := 3 }, regs := { regs0 with dseg := 1, s := regs0.s.set 1 0x4321ABC0#32 } }
  { z with mem := { cells := tableCells, poison := poison },
           det := { z.det with asBase := vset z.det.asBase 3 0x1000200001#64, carts := vset z.det.carts 1 { Cart.reset with owner := 3 } } }

/-- R208's example: the walk reaches 0x10_0040_ABCD. -/
theorem test_walk : (walking []).reaches 0 .load [0x014321ABCD] [0x100040ABCD] [leaf3] := by unfold State.reaches; decide

/-- The hypotheses of the walk, step by step, and of a hit. -/
theorem wit_walk : let z := walking []
    let q := (z.getBay 0).requester 0
    q.asid = 3 ∧ bit (vget z.det.asBase 3) 0 = true ∧ z.tlbHit q [] 0x014321ABCD = none ∧ z.tlbHit q [leaf3] 0x014321ABCD = some leaf3
    ∧ 0x2000 * field (vget z.det.asBase 3) 39 13 + 8 * ((0x014321ABCD : BitVec 40).toNat / 2 ^ 30) = 0x1000200028
    ∧ z.mem.num 0x1000200028 8 = 0x1000220001 ∧ z.mem.num 0x1000221908 8 = 0x100040001F
    ∧ z.mem.poisoned (0x1000200028 / 8) = false ∧ z.mem.poisoned (0x1000221908 / 8) = false
    ∧ bit leaf3.leaf 6 = false ∧ bit leaf3.leaf 5 = false ∧ bit leaf3.leaf 4 = true ∧ bit leaf3.leaf 2 = true ∧ bit leaf3.leaf 1 = true := by decide

/-- Scalar and vector accesses, and a descriptor's read, of a job that walks its tables. -/
theorem wit_walk_accesses : let z := walking []
    z.executes 0 ∧ z.reaches 0 .load [scalarVa (z.regsOf 0) 1 0 4] [0x100040ABC0] [leaf3]
    ∧ z.reaches 0 .store [scalarVa (z.regsOf 0) 1 0 4] [0x100040ABC0] [leaf3]
    ∧ z.reaches 0 .load (((z.regsOf 0).actives 1).map (blockVa (z.regsOf 0) 1 0 2)) [0x100040ABC0, 0x100040ABFE] [leaf3]
    ∧ z.reaches 0 .store (((z.regsOf 0).actives 1).map (blockVa (z.regsOf 0) 1 0 1)) [0x100040ABC0, 0x100040ABDF] [leaf3]
    ∧ z.reaches 0 .load ([0, 8, 16, 24].map fun k => (0x014321ABC0 : BitVec 40) + BitVec.ofNat 40 k)
        [0x100040ABC0, 0x100040ABC8, 0x100040ABD0, 0x100040ABD8] [leaf3]
    ∧ (vget z.det.carts 1).owner = (z.getBay 0).asid ∧ z.mem.wf = true
    ∧ z.watchAt 0 [(scalarVa (z.regsOf 0) 1 0 4, 4, true)] = none := by
  unfold State.executes State.reaches; decide

/-- A page that no valid entry maps. -/
theorem wit_walk_fails : let z := walking []
    z.accessAll ((z.getBay 0).requester 0) .load [] [0x0143200000]
      = .error { cls := .translation, walk := false, loft := false, page := false, va := 0x0143200000, found := none } := by decide

/-- Words that read as poison: the first that a load reads, and one that a vector store of two lanes stores in part and one of 32 lanes whole. -/
theorem wit_poison : let z := walking [0x100040ABC0 / 8]
    let pa (i : Fin 32) : Nat := 0x100040ABC0 + 2 * i.val
    z.executes 0 ∧ z.reaches 0 .load [scalarVa (z.regsOf 0) 1 0 4] [0x100040ABC0] [leaf3] ∧ z.mem.poisoned (0x100040ABC0 / 8) = true
    ∧ z.reaches 0 .store (((z.regsOf 0).actives 1).map (blockVa (z.regsOf 0) 1 0 2)) (((z.regsOf 0).actives 1).map pa) [leaf3]
    ∧ (z.regsOf 0).active 1 0 = true ∧ storesWhole (z.regsOf 0) 1 pa 2 (pa 0 / 8) = false
    ∧ storesWhole (z.regsOf 0) 0 pa 2 (pa 0 / 8) = true := by
  unfold State.executes State.reaches; decide

/-- Bay 0 at work, with its slot 1 in a state. -/
def halting (w : BayWork) (c : SlotState) (f : Bool) : State :=
  let d : DeepSlot := { state := if w = .deep 0 then .running else .empty, kslot := 0, asid := 1, saves := 0, fills := 1, fresh := false }
  withBay { Bay.reset with work := w, slots := #v[d, { d with state := c, fresh := f }, DeepSlot.reset, DeepSlot.reset] }

/-- HALT of a deep job with nothing else, with a fresh slot to run and with a saved one; HALT of a line job with a saved slot. -/
theorem wit_halt_deep : let z := halting
    let ended (y : Bay) : Bay := y.onSlot 0 fun d => { d with state := .done }
    (z (.deep 0) .ready true).executes 0 ∧ (ended ((z (.deep 0) .empty false).getBay 0)).pick = none
    ∧ (ended ((z (.deep 0) .ready true).getBay 0)).pick = some 1 ∧ ((ended ((z (.deep 0) .ready true).getBay 0)).getSlot 1).fresh = true
    ∧ (ended ((z (.deep 0) .saved false).getBay 0)).pick = some 1 ∧ (z (.line job) .saved false).executes 0
    ∧ ((z (.line job) .saved false).getBay 0).pick = some 1 ∧ ((z (.line job) .saved false).getBay 0).queue = [] := by
  unfold State.executes; decide

/-- OBJ_END of each kind: complete bytes, within the layout of its kind. -/
theorem wit_object_ends : let c (k : ObjKind) := carrying k [7, 0, 0, 0] 4
    (∀ k ∈ [ObjKind.codeTable 1 7 3, .columnTable 31, .defectTable 31, .lookupTable 15, .kernel 15 0x1000200000 0, .strobe 7],
      admitsMaker (c k) anyMode = true ∧ (c k).objBusy k = false ∧ crc32c [7, 0, 0, 0] = crc32c [7, 0, 0, 0])
    ∧ calKind 1 7 7 = some (.codeTable 1 7 3) ∧ calKind 3 31 0 = some (.columnTable 31) ∧ calKind 4 31 0 = some (.defectTable 31)
    ∧ calKind 5 15 0 = some (.lookupTable 15) ∧ (c (.strobe 7)).mem.edgePoison 0x1000200000 4 = none ∧ (c (.strobe 7)).hbmDown = false
    ∧ natLe ([7, 0] : List Byte) ≤ natLe ([7, 0] : List Byte) ∧ natLe ([0, 0] : List Byte) < natLe ([7, 0] : List Byte) := by decide +kernel

/-- A kernel whose edge word is poisoned, and one for an HBM in reset. -/
theorem wit_object_poison : let z := carrying (.kernel 0 0x1000200000 0) [7, 0, 0, 0] 4
    let p := { z with mem := { z.mem with poison := [0x1000200000 / 8] } }
    let h := { z with flt := { z.flt with pfrBusy := 0x0100 } }
    p.mem.edgePoison 0x1000200000 4 = some (0x1000200000 / 8) ∧ (0x100 : Nat) < 0x400000000
    ∧ (z.hbmDown = false) ∧ h.hbmDown = true := by decide +kernel

/-- The register that each block, unit and register code names, at the ends of the units. -/
theorem wit_periph_registers :
    (periphAt 1 0 0 = some 0xC0000 ∧ periphAt 1 15 0x1C = some (0xC0000 + 0x40 * 15 + 0x1C) ∧ periphAt 2 7 0x14 = some (0xD0000 + 0x40 * 7 + 0x14))
    ∧ periphAt 2 8 0 = none ∧ periphAt 1 16 0 = none ∧ periphAt 4 4 0 = none
    ∧ (field (0x06000000 : Word) 26 25 = 3 ∧ field (0 : Word) 26 25 ≠ 3 ∧ field (0x00006000 : Word) 14 13 = 3 ∧ field (0 : Word) 14 13 ≠ 3)
    ∧ (field (0x60000000 : Word) 30 29 = 3 ∧ field (0xC0000000 : Word) 31 30 = 3 ∧ field (0x00000030 : Word) 5 4 = 3) := by decide

/-- A tick source that follows encoder 0, whose eight newest edges lie 1 µs apart: its predictor is valid, and it asks for the next boundary. -/
theorem wit_encoder_source : let es : List Edge := (List.range 40).map fun i => { pos := 100 - (i : Nat), t := 100000 - 1000 * i, up := true }
    let z := { sourced 1 (fun k => { k with edges := es, motion := some true, pred := 0x00100402#32 }) with tb := 100000 }
    field z.tick.cfg 2 0 = 1 ∧ z.ticksAsked = true ∧ z.tick.valid = true ∧ z.tick.asked = none ∧ z.tick.request = none ∧ 0 < z.tick.ratio.toNat
    ∧ z.tick.edgeT z.tick.win = some 96000 ∧ z.tick.edgeT (2 * z.tick.win) = some 92000
    ∧ (z.tick.predict z.tb).isSome = true ∧ z.tick.due = [] ∧ bit z.tick.cfg 4 = false ∧ z.tick.p0 = 0 := by decide

/-- A source that is fixed off asks for nothing. -/
theorem wit_no_request : (sourced 0 id).tick.request = none ∧ field (sourced 0 id).tick.cfg 2 0 = 0 ∧ (sourced 1 id).tick.predict 0 = none
    ∧ (sourced 4 (fun k => { k with allowed := none })).tick.allowed = none ∧ ready.ticksAsked = false := by decide

/-- A line that has left the array. -/
def passed : ExitLine :=
  { line := 0, exitTick := 255, exitTb := 1000, dir := false, frameRow := none, cells := [(16384, Cell.clear)], refs := Vector.replicate 64 Cell.clear,
    settle := 0, refBad := 0, flags := 0, lead := 0, half := Vector.replicate 4 CtxHalf.reset, serve := Vector.replicate 4 0, mode := 3, fresh := false,
    disconts := [] }

/-- What the LINE_TICK statement asks of the line that GROOM-B holds, of a bay with a line job, with a deep job and with none, and of the array. -/
theorem wit_dispatch : let x : Formatted := { line := passed, flags := 0, codes := [], feed := [[(16384, 7)]], unrep := [], firsts := [] }
    let z := { sourced 0 id with groom := { ready.groom with back := some x } }
    z.groom.back = some x ∧ ready.hasBay 0 = true ∧ ready.hasBay 127 = true ∧ (busy.getBay 0).work = .line job ∧ job.left ≠ 0
    ∧ ((deepBay .empty).getBay 0).work = .deep 0 ∧ ((withBay Bay.reset).getBay 0).work ≠ .deep 0 := by decide

theorem wit_pixels : let h := CtxHalf.reset
    let a : Pix := { v := 10, sat := false, unrep := false, bad := false }
    let x : Pix := { a with bad := true }
    cFmt h = 0 ∧ x.bad = true ∧ x.sat = false ∧ a.bad = false ∧ a.sat = false ∧ ({ a with sat := true } : Pix).sat = true
    ∧ bit (Cell.clear).acc 24 = false ∧ bit (setBit (Cell.clear).acc 24 true) 24 = true := by decide

/-- Streams with a line to send and with flaw records, and ports that send. -/
theorem wit_stream : let z := { ready with port := { ready.port with
      stream := vset ready.port.stream 0 { DataStream.reset with cfg := 0x80000000#32 },
      port := vset ready.port.port 0 { vget ready.port.port 0 with state := .running, lit := true } } }
    let y := vget z.port.stream 0
    bit y.cfg 31 = true ∧ field y.cfg 28 27 = 0 ∧ (∀ j, j ≠ 0 → bit (vget z.port.stream j).cfg 31 = false) ∧ y.due = [] ∧ y.exitDue = none
    ∧ (vget z.port.port 0).state = .running ∧ z.hasPort 0 = true ∧ (vget z.port.port 0).composed = [] ∧ (vget z.port.port 0).fifo = []
    ∧ field y.cfg 30 29 = 0 ∧ y.notProduced = none ∧ y.truncated = none ∧ z.mode.pending = none ∧ z.groom.resetDue = false
    ∧ field (0xA0000000 : Word) 30 29 = 1 := by decide

/-- A port that has started its PLL, whose lock lights it. -/
theorem wit_port_lock : let z := porting fun x => { x with state := .starting }
    let k := { z with clk := { z.clk with trying := vset z.clk.trying 5 true } }
    (vget k.port.port 3).state = .starting ∧ k.mayLock 5 = true ∧ k.bandFor 5 = some true ∧ (vget k.port.port 3).lit = false
    ∧ (vget (porting fun x => { x with state := .starting, lit := true }).port.port 3).lit = true := by decide

/-- Boundary instructions, a breakpoint and a watchpoint of the control processor. -/
theorem wit_debug_pins : let d (ir : BitVec 5) : State := { ready with dbg := { ready.dbg with ir := ir, preload := [true] } }
    (d 0x00).dbg.ir = 0x00 ∧ (d 0x03).tapUp = true ∧ (d 0x04).pinOut 0 (some true) = none ∧ (d 0x00).pinOut 0 none = some true
    ∧ (d 0x02).pinOut 0 (some false) = some false ∧ ready.dbg.cpBreak = none ∧ ready.dbg.cpTouch = none := by decide

theorem wit_mode_halted : ({ ready with dbg := { ready.dbg with cpHalted := true } } : State).dbg.cpHalted = true := by decide

end Sys2Proof.Tests
end

section
/-! Laws of fields and halves, and of the part of register space that an offset lies in (R7, R9, R203). -/

namespace Sys2Proof.Machine

theorem finOf_eq_of_mod {n x : Nat} [NeZero n] {i : Fin n} (h : x % n = i.val) : finOf n x = i := Fin.ext h

/-- A field replaced has the new bits in its place and the old ones elsewhere. -/
theorem getLsbD_setField {n : Nat} (x : BitVec n) (lo w v i : Nat) :
    (setField x lo w v).getLsbD i = (decide (i < n) && if lo ≤ i ∧ i < lo + w then v.testBit (i - lo) else x.getLsbD i) := by
  by_cases hi : i < n
  · simp only [setField, BitVec.getLsbD_or, BitVec.getLsbD_and, BitVec.getLsbD_not, BitVec.getLsbD_shiftLeft, BitVec.getLsbD_ofNat,
      Nat.testBit_two_pow_sub_one, Nat.testBit_mod_two_pow]
    by_cases h1 : lo ≤ i
    · by_cases h2 : i - lo < w
      · have h3 : i < lo + w := by omega
        have h4 : i - lo < n := by omega
        have h5 : ¬ i < lo := by omega
        simp [hi, h1, h2, h3, h4, h5]
      · have h3 : ¬ i < lo + w := by omega
        simp [hi, h1, h2, h3]
    · have h3 : i < lo := by omega
      simp [hi, h1, h3]
  · simp [hi, BitVec.getLsbD_of_ge _ i (by omega : n ≤ i)]

/-- Both halves of a 64-bit register written leave nothing of the old value. -/
theorem setHalf_low_high (x : BitVec 64) (a b : Word) : setHalf (setHalf x false a) true b = b ++ a := by
  apply BitVec.eq_of_getLsbD_eq
  intro i hi
  simp only [setHalf, getLsbD_setField, BitVec.getLsbD_append, if_true, Bool.false_eq_true, if_false, BitVec.testBit_toNat]
  by_cases h : i < 32
  · have h2 : ¬ 32 ≤ i := by omega
    simp [h, h2, hi]
  · have h2 : 32 ≤ i := by omega
    simp [h, h2, hi]

/-- A mask acts on the halves of a 64-bit value each with its own half. -/
theorem half_and_append (v m : BitVec 64) : (half v true &&& half m true) ++ (half v false &&& half m false) = v &&& m := by
  apply BitVec.eq_of_getLsbD_eq
  intro i hi
  simp only [half, BitVec.getLsbD_append, BitVec.getLsbD_and, BitVec.getLsbD_extractLsb', if_true, Bool.false_eq_true, if_false]
  by_cases h : i < 32
  · simp [h]
  · have h2 : i - 32 < 32 := by omega
    have h3 : 32 + (i - 32) = i := by omega
    simp [h, h2, h3]

/-- A 64-bit register written by its two halves, each under its half of the mask, takes the masked value. -/
theorem setHalf_masked (x v m : BitVec 64) {a b : Word} (ha : a = half m false) (hb : b = half m true) :
    setHalf (setHalf x false (half v false &&& a)) true (half v true &&& b) = v &&& m := by
  subst ha hb
  rw [setHalf_low_high, half_and_append]

@[simp] theorem half_setWidth_low (w : Word) : half (w.setWidth 64) false = w := by
  apply BitVec.eq_of_getLsbD_eq
  intro i hi
  have h : i < 64 := by omega
  simp [half, hi, h]

theorem half_low_toNat (v : BitVec 64) : (half v false).toNat = v.toNat % 2 ^ 32 := by simp [half]

/-- A bit of a field is the bit of the word at its place. -/
theorem testBit_field {n : Nat} (x : BitVec n) {hi lo i : Nat} (h : i ≤ hi - lo) : (field x hi lo).testBit i = bit x (lo + i) := by
  have h2 : i < hi - lo + 1 := by omega
  simp [field, bit, BitVec.testBit_toNat, h2]

theorem wide_iff (o : Nat) : wide o = true ↔ o % 8 = 0 ∧ ((0x60200 ≤ o ∧ o < 0x60280) ∨ (0x60400 ≤ o ∧ o < 0x60480) ∨ o = 0x60508
    ∨ (0x110000 ≤ o ∧ o < 0x110040) ∨ (0x110040 ≤ o ∧ o < 0x110080 ∧ o % 16 = 0)) := by
  simp only [wide, Bool.and_eq_true, Bool.or_eq_true, decide_eq_true_eq, or_assoc, and_assoc]

theorem wide_eq_false {o : Nat} (h : ¬ (o % 8 = 0 ∧ ((0x60200 ≤ o ∧ o < 0x60280) ∨ (0x60400 ≤ o ∧ o < 0x60480) ∨ o = 0x60508
    ∨ (0x110000 ≤ o ∧ o < 0x110040) ∨ (0x110040 ≤ o ∧ o < 0x110080 ∧ o % 16 = 0)))) : wide o = false := by
  rwa [← wide_iff, Bool.not_eq_true] at h

theorem ctxAt_none {o : Nat} (h : o < 0x40000 ∨ 0x60100 ≤ o) : ctxAt o = none := by
  simp only [ctxAt, Bool.and_eq_true, decide_eq_true_eq]
  rw [if_neg (by omega), if_neg (by omega), if_neg (by omega), if_neg (by omega)]

theorem placeOf_hbm {small : Bool} {a : Nat} (h : a < 0x400000000) : placeOf small a = .hbm := if_pos h

theorem placeOf_regs {small : Bool} {a : Nat} (h : 0x2000000000 ≤ a ∧ a < 0x2010000000) : placeOf small a = .regs := by
  unfold placeOf hbmEnd
  rw [if_neg (by omega), if_neg (by omega), if_neg (by omega), if_neg (by omega), if_neg (by omega), if_neg (by omega), if_neg (by omega),
    if_neg (by omega), if_neg (by omega), if_pos (by omega)]

/-- What lies below the hayloft or above register space is neither memory nor a register for the firmware, HBM aside (R203). -/
theorem placeOf_unreached {small : Bool} {a : Nat}
    (h : (0x400000000 ≤ a ∧ a < 0x1000200000) ∨ (0x1002000000 ≤ a ∧ a < 0x1100000000) ∨ 0x2010000000 ≤ a) :
    placeOf small a = .hole ∨ placeOf small a = .device ∨ placeOf small a = .mram := by
  have h0 : ¬ a < hbmEnd := by unfold hbmEnd; omega
  simp only [placeOf, if_neg h0]
  rcases h with h | h | h
  · by_cases h1 : a < 0x1000000000
    · exact .inl (if_pos h1)
    · rw [if_neg h1, if_pos h.2]; exact .inr (.inl rfl)
  · rw [if_neg (by omega), if_neg (by omega), if_neg (by omega), if_pos h.2]; exact .inl rfl
  · rw [if_neg (by omega), if_neg (by omega), if_neg (by omega), if_neg (by omega), if_neg (by omega), if_neg (by omega), if_neg (by omega),
      if_neg (by omega), if_neg (by omega)]
    by_cases h1 : a < 0x3000000000
    · exact .inl (if_pos h1)
    · rw [if_neg h1]
      by_cases h2 : a < 0x3000800000
      · exact .inr (.inr (if_pos h2))
      · exact .inl (if_neg h2)

end Sys2Proof.Machine
end

section
/-! Doorbells (R263, R264, R423): what ringing a list of slots does to the host port, and the two ways in which a doorbell goes on. -/

namespace Sys2Proof.Machine

/-- The slots that a write of RING newly rings: those named that the host owned. -/
def State.newlyRung (s : State) (mask : BitVec 16) : List Slot :=
  (List.finRange 16).filter fun k => bit mask k.val && !bit s.host.ring k.val

theorem State.mem_newlyRung (s : State) (mask : BitVec 16) (j : Slot) :
    j ∈ s.newlyRung mask ↔ bit mask j.val = true ∧ bit s.host.ring j.val = false := by
  simp [State.newlyRung]

theorem State.decide_mem_newlyRung (s : State) (mask : BitVec 16) (j : Slot) :
    decide (j ∈ s.newlyRung mask) = (bit mask j.val && !bit s.host.ring j.val) := by
  rw [Bool.eq_iff_iff]
  simp [State.mem_newlyRung]

/-- Slots rung one after the other: each has its RING set, its DONE cleared and the time noted, and nothing else of the port changes. -/
theorem foldl_rung (p : HostPort) (tb : Nat) (ks : List Slot) :
    ∃ ring done rungTb, ks.foldl (fun h k => h.rung k tb) p = { p with ring := ring, done := done, rungTb := rungTb }
      ∧ (∀ j : Slot, bit ring j.val = (bit p.ring j.val || decide (j ∈ ks)))
      ∧ (∀ j : Slot, bit done j.val = (bit p.done j.val && !decide (j ∈ ks)))
      ∧ ∀ j : Slot, vget rungTb j = if j ∈ ks then tb else vget p.rungTb j := by
  induction ks generalizing p with
  | nil => exact ⟨p.ring, p.done, p.rungTb, rfl, by simp, by simp, by simp⟩
  | cons k ks ih =>
    obtain ⟨ring, done, rungTb, e, hr, hd, ht⟩ := ih (p.rung k tb)
    refine ⟨ring, done, rungTb, e, fun j => ?_, fun j => ?_, fun j => ?_⟩
    · rw [hr, HostPort.rung, bit_setBit _ _ _ _ k.isLt]
      by_cases hj : j = k <;> simp [hj, Fin.val_inj]
    · rw [hd, HostPort.rung, bit_setBit _ _ _ _ k.isLt]
      by_cases hj : j = k <;> simp [hj, Fin.val_inj]
    · rw [ht, HostPort.rung, vget_vset]
      by_cases hj : j = k
      · simp [hj]
      · simp [hj, Ne.symm hj]

/-- Two 16-bit words with the same bit for each slot are equal. -/
theorem eq_of_slot_bits {x y : BitVec 16} (h : ∀ j : Slot, bit x j.val = bit y j.val) : x = y :=
  BitVec.eq_of_getLsbD_eq fun i hi => h ⟨i, hi⟩

/-- The write of RING rings the slots that the host owned, whatever it does next. -/
theorem State.rung_newlyRung (s : State) (mask : BitVec 16) :
    ∃ rungTb, (s.newlyRung mask).foldl (fun h k => h.rung k s.tb) s.host =
        { s.host with ring := s.host.ring ||| mask, done := s.host.done &&& ~~~(mask &&& ~~~s.host.ring), rungTb := rungTb }
      ∧ ∀ j : Slot, vget rungTb j = if bit mask j.val = true ∧ bit s.host.ring j.val = false then s.tb else vget s.host.rungTb j := by
  obtain ⟨ring, done, rungTb, e, hr, hd, ht⟩ := foldl_rung s.host s.tb (s.newlyRung mask)
  have er : ring = s.host.ring ||| mask := eq_of_slot_bits fun j => by
    rw [hr, State.decide_mem_newlyRung]
    simp only [bit, BitVec.getLsbD_or]
    cases s.host.ring.getLsbD j.val <;> simp
  have ed : done = s.host.done &&& ~~~(mask &&& ~~~s.host.ring) := eq_of_slot_bits fun j => by
    rw [hd, State.decide_mem_newlyRung]
    simp only [bit, BitVec.getLsbD_and, BitVec.getLsbD_not, j.isLt]
    cases s.host.ring.getLsbD j.val <;> simp
  refine ⟨rungTb, by rw [e, er, ed], fun j => ?_⟩
  simp only [ht, State.mem_newlyRung]

/-- From PHASE 3 on a doorbell is a write of RING (R260). -/
theorem exec_mbxDoorbell_rings {s : State} (h : 3 ≤ s.host.phase.toNat) (mask : BitVec 16) :
    exec (.mbxDoorbell mask) s = .next (s.newStep.ring mask) := by
  have h0 : ¬ s.newStep.host.phase = 0 := fun e => by rw [show s.host.phase = 0 from e] at h; simp at h
  have h1 : ¬ s.newStep.host.phase = 1 := fun e => by rw [show s.host.phase = 1 from e] at h; simp at h
  have h2 : ¬ s.newStep.host.phase = 2 := fun e => by rw [show s.host.phase = 2 from e] at h; simp at h
  simp only [exec_mbxDoorbell, execMbxDoorbell, if_neg h0, h1, h2, decide_false, Bool.or_false, Bool.false_eq_true, if_false]

/-- While debug holds the control processor, the slots that ring wait in order (R423). -/
theorem doorbell_waits_while_halted {s : State} (mask : BitVec 16) (hp : 3 ≤ s.host.phase.toNat) (hh : s.dbg.cpHalted = true) :
    ∃ h, exec (.mbxDoorbell mask) s = .next { s.newStep with host := h }
      ∧ h = { s.host with
          ring := s.host.ring ||| mask, done := s.host.done &&& ~~~(mask &&& ~~~s.host.ring), rungTb := h.rungTb, order := h.order }
      ∧ (∀ j : Slot, (bit mask j.val = true ∧ bit s.host.ring j.val = false) ∨ j ∈ s.host.order ↔ j ∈ h.order)
      ∧ ∀ j : Slot, vget h.rungTb j = if bit mask j.val = true ∧ bit s.host.ring j.val = false then s.tb else vget s.host.rungTb j := by
  obtain ⟨rungTb, e, ht⟩ := s.rung_newlyRung mask
  have hr : s.newStep.ring mask = { s.newStep with host :=
      { (s.newlyRung mask).foldl (fun h k => h.rung k s.tb) s.host with
        order := ((s.newlyRung mask).foldl (fun h k => h.rung k s.tb) s.host).order ++ s.newlyRung mask } } := if_pos hh
  rw [exec_mbxDoorbell_rings hp, hr, e]
  refine ⟨_, rfl, rfl, fun j => ?_, ht⟩
  simp [State.mem_newlyRung, or_comm]

theorem bit_two_pow (k j : Slot) : bit (BitVec.ofNat 16 (2 ^ k.val)) j.val = decide (k = j) := by
  rw [bit, BitVec.getLsbD_ofNat, Nat.testBit_two_pow]
  simp [Fin.val_inj]

/-- A doorbell of one slot that the host owned rings that slot. -/
theorem State.newlyRung_single {s : State} {slot : Slot} (h : bit s.host.ring slot.val = false) :
    s.newlyRung (BitVec.ofNat 16 (2 ^ slot.val)) = [slot] := by
  have e : (fun k : Slot => bit (BitVec.ofNat 16 (2 ^ slot.val)) k.val && !bit s.host.ring k.val) = (· == slot) := by
    funext k
    rw [bit_two_pow]
    by_cases hk : k = slot
    · simp [hk, h]
    · simp [hk, Ne.symm hk]
  rw [State.newlyRung, e, List.filter_beq, List.count_eq_one_of_mem (List.nodup_finRange 16) (List.mem_finRange slot)]
  rfl

/-- While the control processor runs, the slot is served (R264, R266). -/
theorem doorbell_is_served {s : State} (slot : Slot) (hp : 3 ≤ s.host.phase.toNat) (hh : s.dbg.cpHalted = false)
    (hr : bit s.host.ring slot.val = false) :
    exec (.mbxDoorbell (BitVec.ofNat 16 (2 ^ slot.val))) s = .next (State.serve { s.newStep with host := { s.host with
      ring := setBit s.host.ring slot.val true, done := setBit s.host.done slot.val false, rungTb := vset s.host.rungTb slot s.tb } } slot) := by
  let u : State := { s.newStep with host := s.host.rung slot s.tb }
  have hb : bit u.host.ring slot.val = true := by
    show bit (setBit s.host.ring slot.val true) slot.val = true
    rw [bit_setBit _ _ _ _ slot.isLt, if_pos rfl]
  have e : s.newStep.ring (BitVec.ofNat 16 (2 ^ slot.val)) =
      (s.newlyRung (BitVec.ofNat 16 (2 ^ slot.val))).foldl (fun s k => if bit s.host.ring k.val then s.serve k else s)
        { s.newStep with host := (s.newlyRung (BitVec.ofNat 16 (2 ^ slot.val))).foldl (fun h k => h.rung k s.tb) s.host } :=
    if_neg (by rw [show s.newStep.dbg.cpHalted = false from hh]; decide)
  rw [exec_mbxDoorbell_rings hp, e, State.newlyRung_single hr]
  exact congrArg _ (if_pos hb)

end Sys2Proof.Machine
end

section
/-! REGISTER_WRITE (R9, R204, R421, R425): who writes, where the write goes, and the unit's own rule that it comes to. -/

namespace Sys2Proof.Machine

variable {s : State}

/-- The address of the register at an offset of register space (R9). -/
def regAt (o : Nat) : BitVec 40 := BitVec.ofNat 40 (0x2000000000 + o)

/-- The firmware's write of a 32-bit register, as a command. -/
def State.wordWritten (s : State) (o : Nat) (w : Word) : Host.Outcome State Fault Refusal := exec (.registerWrite (regAt o) (w.setWidth 64) false) s

/-- What a register write by the firmware leaves: the value stored, or the setting kept and class CONFIG reported. -/
def State.wrote (s : State) : RegEnd → State
  | .ok t => t
  | .bad => s.report .config
  | .none => s

@[simp] theorem State.wrote_ok (t : State) : s.wrote (.ok t) = t := rfl
@[simp] theorem State.wrote_bad : s.wrote .bad = s.report .config := rfl

theorem State.regWrite_eq_wrote (o : Nat) (w : Word) : s.regWrite o w false = s.wrote (s.regWriteEnd o w false) := by
  unfold State.regWrite
  cases s.regWriteEnd o w false <;> rfl

/-- The firmware can write: the device is out of reset and the control processor runs. -/
structure State.FirmwareRuns (s : State) : Prop where
  up : s.host.phase ≠ 0
  running : s.dbg.cpHalted = false

/-- The firmware can write, and no watchpoint is enabled. -/
structure State.FirmwareWrites (s : State) : Prop extends State.FirmwareRuns s where
  unwatched : ∀ i, bit (vget s.dbg.wptCtrl i) 31 = false

theorem exec_registerWrite_off (h : s.host.phase = 0) (a : BitVec 40) (v : BitVec 64) (byDebug : Bool) :
    exec (.registerWrite a v byDebug) s = .next s := by
  simp [exec_registerWrite, execRegisterWrite, h]

theorem State.newStep_phase : s.newStep.host.phase = s.host.phase := rfl
theorem State.newStep_dbg : s.newStep.dbg = s.dbg := rfl

/-- While debug holds the control processor, the firmware writes nothing (R423). -/
theorem exec_registerWrite_halted (h : s.host.phase ≠ 0) (hh : s.dbg.cpHalted = true) (a : BitVec 40) (v : BitVec 64) :
    exec (.registerWrite a v false) s = .next s.newStep := by
  simp only [exec_registerWrite, execRegisterWrite, if_neg h, State.newStep_dbg, hh, Bool.not_false, Bool.and_self, Bool.or_true, if_true]

/-- The bytes that the firmware's write at an address takes: those of the register whole, or a word. -/
def State.writeSize (s : State) (a : Nat) : Nat := if placeOf s.isSmall a = .regs && wide (a - 0x2000000000) then 8 else 4

/-- The firmware's write takes effect, and then a watchpoint that it meets halts the control processor (R425). -/
theorem exec_registerWrite_runs (h : s.FirmwareRuns) (a : BitVec 40) (v : BitVec 64) :
    exec (.registerWrite a v false) s =
      .next ((s.dbg.cpWatch (a.toNat / 4 * 4) (s.writeSize (a.toNat / 4 * 4))).elim (s.newStep.firmwareWrite (a.toNat / 4 * 4) v)
        fun i => (s.newStep.firmwareWrite (a.toNat / 4 * 4) v).cpStop .watchpoint i.val) := by
  obtain ⟨hp, hh⟩ := h
  simp only [exec_registerWrite, execRegisterWrite, hp, if_false, State.newStep_phase, State.newStep_dbg, hh, Bool.not_false, Bool.and_false,
    decide_false, Bool.or_false, Bool.false_eq_true]
  show (match s.dbg.cpWatch (a.toNat / 4 * 4) (s.writeSize (a.toNat / 4 * 4)) with
    | some i => _
    | none => _) = _
  cases s.dbg.cpWatch (a.toNat / 4 * 4) (s.writeSize (a.toNat / 4 * 4)) <;> rfl

/-- Of several watchpoints, the only one that a write matches is the one found. -/
theorem find_finRange_of_unique {n : Nat} {p : Fin n → Bool} {m : Fin n} (hm : p m = true) (h : ∀ i, i ≠ m → p i = false) :
    (List.finRange n).find? p = some m := by
  cases e : (List.finRange n).find? p with
  | none => simp [List.find?_eq_none.1 e m (List.mem_finRange m)] at hm
  | some i =>
    by_cases hi : i = m
    · rw [hi]
    · have hp := List.find?_some e
      simp [h i hi] at hp

theorem Debug.cpWatches_of_disabled {d : Debug} {i : Fin 4} (h : bit (vget d.wptCtrl i) 31 = false) : d.cpWatches i = false := by
  simp [Debug.cpWatches, h]

theorem Debug.cpWatch_none {d : Debug} (h : ∀ i, bit (vget d.wptCtrl i) 31 = false) (a n : Nat) : d.cpWatch a n = none := by
  simp [Debug.cpWatch, Debug.cpWatches_of_disabled (h _)]

/-- The one watchpoint enabled, of the control processor and for writes, is met by a write that overlaps its range (R425, R432). -/
theorem Debug.cpWatch_some {d : Debug} {m : Fin 4} {a n : Nat} (h : ∀ i, i ≠ m → bit (vget d.wptCtrl i) 31 = false)
    (hm : field (vget d.wptCtrl m) 31 29 = 5) (h1 : field (vget d.wptAddr m) 39 0 < a + n)
    (h2 : a < field (vget d.wptAddr m) 39 0 + 2 ^ field (vget d.wptCtrl m) 4 0) : d.cpWatch a n = some m := by
  have b29 : bit (vget d.wptCtrl m) 29 = true := by rw [← testBit_field (hi := 31) (lo := 29) (i := 0) _ (by decide), hm]; decide
  have b30 : bit (vget d.wptCtrl m) 30 = false := by rw [← testBit_field (hi := 31) (lo := 29) (i := 1) _ (by decide), hm]; decide
  have b31 : bit (vget d.wptCtrl m) 31 = true := by rw [← testBit_field (hi := 31) (lo := 29) (i := 2) _ (by decide), hm]; decide
  refine find_finRange_of_unique ?_ fun i hi => ?_
  · simp [Debug.cpWatches, b29, b30, b31, h1, h2]
  · simp [Debug.cpWatches_of_disabled (h i hi)]

theorem exec_registerWrite_unwatched (h : s.FirmwareWrites) (a : BitVec 40) (v : BitVec 64) :
    exec (.registerWrite a v false) s = .next (s.newStep.firmwareWrite (a.toNat / 4 * 4) v) := by
  rw [exec_registerWrite_runs h.toFirmwareRuns, Debug.cpWatch_none h.unwatched]
  rfl

theorem regAt_toNat {o : Nat} (h : o < 0x10000000) (h4 : o % 4 = 0) : (regAt o).toNat / 4 * 4 = 0x2000000000 + o := by
  simp only [regAt, BitVec.toNat_ofNat]
  omega

theorem State.firmwareWrite_regs {o : Nat} (h : o < 0x10000000) (v : BitVec 64) :
    s.firmwareWrite (0x2000000000 + o) v = s.regWriteWhole o v false := by
  simp only [State.firmwareWrite, placeOf_regs (small := s.isSmall) (a := 0x2000000000 + o) (by omega), Nat.add_sub_cancel_left]

/-- The firmware's write of a register is a write of it whole. -/
theorem exec_registerWrite_regs (h : s.FirmwareWrites) {o : Nat} (ho : o < 0x10000000) (h4 : o % 4 = 0) (v : BitVec 64) :
    exec (.registerWrite (regAt o) v false) s = .next (s.newStep.regWriteWhole o v false) := by
  rw [exec_registerWrite_unwatched h, regAt_toNat ho h4, State.firmwareWrite_regs ho]

theorem State.regWriteWhole_word {o : Nat} (hw : wide o = false) (v : BitVec 64) (byDebug : Bool) :
    s.regWriteWhole o v byDebug = s.regWrite o (half v false) byDebug := by
  simp [State.regWriteWhole, hw]

theorem State.regWriteWhole_wide {o : Nat} (hw : wide o = true) (v : BitVec 64) (byDebug : Bool)
    (hb : byDebug = false ∨ o < 0x110000 ∨ 0x110040 ≤ o) :
    s.regWriteWhole o v byDebug = (s.regWrite o (half v false) byDebug).regWrite (o + 4) (half v true) byDebug := by
  have hc : ¬ (byDebug && decide (0x110000 ≤ o) && decide (o < 0x110040)) = true := by
    simp only [Bool.and_eq_true, decide_eq_true_eq]
    rcases hb with rfl | hb | hb
    · simp
    · omega
    · omega
  simp only [State.regWriteWhole, hw, Bool.not_true, Bool.false_eq_true, if_false, hc]

/-- A register of one word takes what its unit makes of the value. -/
theorem wordWritten_eq (h : s.FirmwareWrites) {o : Nat} (ho : o < 0x10000000) (h4 : o % 4 = 0) (hw : wide o = false) (w : Word) :
    s.wordWritten o w = .next (s.newStep.wrote (s.newStep.regWriteEnd o w false)) := by
  rw [State.wordWritten, exec_registerWrite_regs h ho h4, State.regWriteWhole_word hw, half_setWidth_low, State.regWrite_eq_wrote]

/-! The unit whose register stands at an offset (R9). -/

theorem State.regWriteEnd_tick {o : Nat} (ho : 0x20000 ≤ o ∧ o < 0x30000) (w : Word) (byDebug : Bool) :
    s.regWriteEnd o w byDebug = s.tickWrite o w := by
  simp only [State.regWriteEnd, ctxAt_none (o := o) (by omega), ho, decide_true, Bool.and_self, if_true]

theorem State.regWriteEnd_det {o : Nat} (ho : 0x60100 ≤ o ∧ o < 0x70000) (w : Word) (byDebug : Bool) :
    s.regWriteEnd o w byDebug = s.detWrite o w := by
  simp only [State.regWriteEnd, ctxAt_none (o := o) (by omega), Bool.and_eq_true, decide_eq_true_eq]
  rw [if_neg (by omega), if_pos ho]

theorem State.regWriteEnd_port {o : Nat} (ho : 0x70000 ≤ o ∧ o < 0x80000) (w : Word) (byDebug : Bool) :
    s.regWriteEnd o w byDebug = s.portWrite o w := by
  simp only [State.regWriteEnd, ctxAt_none (o := o) (by omega), Bool.and_eq_true, decide_eq_true_eq]
  rw [if_neg (by omega), if_neg (by omega), if_pos ho]

theorem State.regWriteEnd_chg (w : Word) (byDebug : Bool) : s.regWriteEnd 0xA0020 w byDebug = s.chgWrite w := rfl

theorem State.regWriteEnd_clk {o : Nat} (ho : 0xB0000 ≤ o ∧ o < 0xC0000) (w : Word) (byDebug : Bool) :
    s.regWriteEnd o w byDebug = s.clkWrite o w := by
  simp only [State.regWriteEnd, ctxAt_none (o := o) (by omega), Bool.and_eq_true, decide_eq_true_eq]
  rw [if_neg (by omega), if_neg (by omega), if_neg (by omega), if_neg (by omega), if_pos ho]

theorem State.regWriteEnd_periph {o : Nat} (ho : 0xC0000 ≤ o ∧ o < 0x100000) (w : Word) (byDebug : Bool) :
    s.regWriteEnd o w byDebug = s.periphWrite o w := by
  simp only [State.regWriteEnd, ctxAt_none (o := o) (by omega), Bool.and_eq_true, decide_eq_true_eq]
  rw [if_neg (by omega), if_neg (by omega), if_neg (by omega), if_neg (by omega), if_neg (by omega), if_pos ho]

theorem State.regWriteEnd_wdt {o : Nat} (ho : 0x100000 ≤ o ∧ o < 0x110000) (w : Word) (byDebug : Bool) :
    s.regWriteEnd o w byDebug = .ok (s.wdtWrite o w) := by
  simp only [State.regWriteEnd, ctxAt_none (o := o) (by omega), Bool.and_eq_true, decide_eq_true_eq]
  rw [if_neg (by omega), if_neg (by omega), if_neg (by omega), if_neg (by omega), if_neg (by omega), if_neg (by omega), if_pos ho]

theorem State.regWriteEnd_dbg {o : Nat} (ho : 0x110000 ≤ o ∧ o < 0x120000) (w : Word) (byDebug : Bool) :
    s.regWriteEnd o w byDebug = if byDebug then s.dbgWrite o w else .ok s := by
  simp only [State.regWriteEnd, ctxAt_none (o := o) (by omega), Bool.and_eq_true, decide_eq_true_eq]
  rw [if_neg (by omega), if_neg (by omega), if_neg (by omega), if_neg (by omega), if_neg (by omega), if_neg (by omega), if_neg (by omega),
    if_pos ho]

/-! One word written, by unit. -/

theorem wordWritten_tick (h : s.FirmwareWrites) {o : Nat} (ho : 0x20000 ≤ o ∧ o < 0x30000) (h4 : o % 4 = 0) (w : Word) :
    s.wordWritten o w = .next (s.newStep.wrote (s.newStep.tickWrite o w)) := by
  rw [wordWritten_eq h (by omega) h4 (wide_eq_false (by omega)), State.regWriteEnd_tick ho]

theorem wordWritten_det (h : s.FirmwareWrites) {o : Nat} (ho : 0x60100 ≤ o ∧ o < 0x70000) (h4 : o % 4 = 0) (hw : wide o = false) (w : Word) :
    s.wordWritten o w = .next (s.newStep.wrote (s.newStep.detWrite o w)) := by
  rw [wordWritten_eq h (by omega) h4 hw, State.regWriteEnd_det ho]

theorem wordWritten_port (h : s.FirmwareWrites) {o : Nat} (ho : 0x70000 ≤ o ∧ o < 0x80000) (h4 : o % 4 = 0) (w : Word) :
    s.wordWritten o w = .next (s.newStep.wrote (s.newStep.portWrite o w)) := by
  rw [wordWritten_eq h (by omega) h4 (wide_eq_false (by omega)), State.regWriteEnd_port ho]

theorem wordWritten_clk (h : s.FirmwareWrites) {o : Nat} (ho : 0xB0000 ≤ o ∧ o < 0xC0000) (h4 : o % 4 = 0) (w : Word) :
    s.wordWritten o w = .next (s.newStep.wrote (s.newStep.clkWrite o w)) := by
  rw [wordWritten_eq h (by omega) h4 (wide_eq_false (by omega)), State.regWriteEnd_clk ho]

theorem wordWritten_periph (h : s.FirmwareWrites) {o : Nat} (ho : 0xC0000 ≤ o ∧ o < 0x100000) (h4 : o % 4 = 0) (w : Word) :
    s.wordWritten o w = .next (s.newStep.wrote (s.newStep.periphWrite o w)) := by
  rw [wordWritten_eq h (by omega) h4 (wide_eq_false (by omega)), State.regWriteEnd_periph ho]

theorem wordWritten_wdt (h : s.FirmwareWrites) {o : Nat} (ho : 0x100000 ≤ o ∧ o < 0x110000) (h4 : o % 4 = 0) (w : Word) :
    s.wordWritten o w = .next (s.newStep.wdtWrite o w) := by
  rw [wordWritten_eq h (by omega) h4 (wide_eq_false (by omega)), State.regWriteEnd_wdt ho]
  rfl

/-- A rule of the form "reserved values are refused": they report, every other value is written. -/
theorem wordWritten_guarded {o : Nat} {w : Word} {c : Prop} [Decidable c] {t : State}
    (h : s.wordWritten o w = .next (s.newStep.wrote (if c then .bad else .ok t))) :
    (c → s.wordWritten o w = .next (s.newStep.report .config)) ∧ (¬ c → s.wordWritten o w = .next t) := by
  refine ⟨fun hc => ?_, fun hc => ?_⟩
  · rw [h, if_pos hc]; rfl
  · rw [h, if_neg hc]; rfl

end Sys2Proof.Machine
end

section
/-! What each register of the tick sources, the contexts, the bays and the carts does when the firmware writes it (R60, R134, R137, R220). -/

namespace Sys2Proof.Machine

variable {s : State}

/-- The offset of a context's register, in the order of R274 (R60, R86–R88, R110, R158, R220). -/
def ctxRegOffset (c : CtxIx) (r : Fin 12) : Nat :=
  if r.val < 4 then 0x40000 + 16 * c.val + 4 * r.val else if r.val < 7 then 0x40400 + 16 * c.val + 4 * (r.val - 4)
  else if r.val < 11 then 0x50000 + 16 * c.val + 4 * (r.val - 7) else 0x60000 + 16 * c.val

/-- The four blocks of context registers lie apart from every other register, and each offset names its context and register. -/
theorem ctxAt_ctxRegOffset (c : CtxIx) (r : Fin 12) : ctxAt (ctxRegOffset c r) = some (c, r) := by
  unfold ctxRegOffset ctxAt
  simp only [Bool.and_eq_true, decide_eq_true_eq]
  have hc := c.isLt
  have hr := r.isLt
  by_cases h4 : r.val < 4
  · rw [if_pos h4, if_pos (by omega), finOf_eq_of_mod (i := c) (by omega), finOf_eq_of_mod (i := r) (by omega)]
  · rw [if_neg h4]
    by_cases h7 : r.val < 7
    · rw [if_pos h7, if_neg (by omega), if_pos (by omega), finOf_eq_of_mod (i := c) (by omega), finOf_eq_of_mod (i := r) (by omega)]
    · rw [if_neg h7]
      by_cases h11 : r.val < 11
      · rw [if_pos h11, if_neg (by omega), if_neg (by omega), if_pos (by omega), finOf_eq_of_mod (i := c) (by omega),
          finOf_eq_of_mod (i := r) (by omega)]
      · have e : r = 11 := Fin.ext (by show r.val = 11; omega)
        rw [if_neg h11, if_neg (by omega), if_neg (by omega), if_neg (by omega), if_pos (by omega), finOf_eq_of_mod (i := c) (by omega), e]

theorem ctxRegOffset_bounds (c : CtxIx) (r : Fin 12) :
    ctxRegOffset c r % 4 = 0 ∧ ctxRegOffset c r < 0x60100 := by
  have hc := c.isLt
  have hr := r.isLt
  unfold ctxRegOffset
  split
  · omega
  · split
    · omega
    · split <;> omega

/-- A context register is written in the shadow half, unless a swap or a lock holds it (R135, R137, R139). -/
theorem ctxReg_written (h : s.FirmwareWrites) (c : CtxIx) (r : Fin 12) (w : Word) :
    s.wordWritten (ctxRegOffset c r) w = .next (s.newStep.ctxRegWrite c r w) := by
  obtain ⟨h4, hlt⟩ := ctxRegOffset_bounds c r
  rw [wordWritten_eq h (by omega) h4 (wide_eq_false (by omega))]
  simp only [State.regWriteEnd, ctxAt_ctxRegOffset, State.wrote_ok]

theorem State.ctxRegWrite_open {c : CtxIx} (h1 : (vget s.ctx c).sched = none) (h2 : (vget s.ctx c).lockUntil = none) (r : Fin 12) (w : Word) :
    s.ctxRegWrite c r w = { s with ctx := vset s.ctx c { vget s.ctx c with shadow := vset (vget s.ctx c).shadow r (w &&& vget ctxWritable r) } } := by
  simp [State.ctxRegWrite, h1, h2, State.onCtx]

theorem State.ctxRegWrite_locked {c : CtxIx} (h : (vget s.ctx c).sched ≠ none ∨ (vget s.ctx c).lockUntil ≠ none) (r : Fin 12) (w : Word) :
    s.ctxRegWrite c r w = s.lockedWrite :=
  if_pos (by simpa [Option.isSome_iff_ne_none] using h)

/-- The bits of TICK_CFG that a write reaches: SRC and POLICY in STANDBY and READY alone (R111). -/
def State.tickCfgKept (s : State) : Word := if s.mode.mode = .standby ∨ s.mode.mode = .ready then 0x0000FF37#32 else 0x0000FF20#32

/-- TICK_CFG stored. -/
def State.tickCfgStored (s : State) (w : Word) : State :=
  { s with tick := { s.tick with cfg := (s.tick.cfg &&& ~~~s.tickCfgKept) ||| (w &&& s.tickCfgKept) } }

theorem State.tickOpen_iff : s.tickOpen = true ↔ s.mode.mode = .standby ∨ s.mode.mode = .ready := by simp [State.tickOpen]

theorem State.tickCfgWrite_eq (w : Word) : s.tickCfgWrite w =
    if 6 ≤ field w 2 0 ∨ field w 15 8 = 0 ∨ 64 < field w 15 8 then .bad
    else .ok (if (s.tickCfgStored w).src = s.src then s.tickCfgStored w else (s.tickCfgStored w).selectSource) := by
  have e : (if s.tickOpen = true then 0x0000FF37#32 else 0x0000FF20#32) = s.tickCfgKept := if_congr State.tickOpen_iff rfl rfl
  simp only [State.tickCfgWrite, e, Bool.or_eq_true, decide_eq_true_eq, or_assoc]
  rfl

/-- TICK_CFG (R111, R134). -/
theorem tickCfg_written (h : s.FirmwareWrites) (w : Word) :
    let reserved := 6 ≤ field w 2 0 ∨ field w 15 8 = 0 ∨ 64 < field w 15 8
    let u := s.newStep.tickCfgStored w
    (reserved → s.wordWritten 0x20010 w = .next (s.newStep.report .config))
    ∧ (¬ reserved → field u.tick.cfg 2 0 = field s.tick.cfg 2 0 → s.wordWritten 0x20010 w = .next u)
    ∧ (¬ reserved → field u.tick.cfg 2 0 ≠ field s.tick.cfg 2 0 → s.wordWritten 0x20010 w = .next u.selectSource) := by
  have e := wordWritten_tick h (o := 0x20010) (by decide) rfl w
  rw [show s.newStep.tickWrite 0x20010 w = s.newStep.tickCfgWrite w from rfl, State.tickCfgWrite_eq] at e
  obtain ⟨hbad, hok⟩ := wordWritten_guarded e
  refine ⟨hbad, fun hr hs => ?_, fun hr hs => ?_⟩
  · rw [hok hr]; exact congrArg _ (if_pos hs)
  · rw [hok hr]; exact congrArg _ (if_neg hs)

/-- TICK_RATIO (R134). -/
theorem tickRatio_written (h : s.FirmwareWrites) (w : Word) :
    (w.toNat < 0x1000 → s.wordWritten 0x20014 w = .next (s.newStep.report .config))
    ∧ (¬ w.toNat < 0x1000 → s.wordWritten 0x20014 w = .next (State.refreshRequest { s.newStep with tick := s.tick.reanchor w })) :=
  wordWritten_guarded (wordWritten_tick h (by decide) rfl w)

/-- TICK_PER (R134). -/
theorem tickPer_written (h : s.FirmwareWrites) (w : Word) :
    s.wordWritten 0x20018 w = .next { s.newStep with tick := { s.tick with per := w } } :=
  wordWritten_tick h (by decide) rfl w

theorem State.tickWrite_pred (w : Word) : s.tickWrite 0x2001C w = if field w 2 0 = 7 then .bad
    else .ok (if s.mode.mode = .standby ∨ s.mode.mode = .ready then { s with tick := { s.tick with pred := w &&& 0xFFFFFF07#32 } } else s) := by
  have e : s.tickWrite 0x2001C w = if field w 2 0 = 7 then .bad else if !s.tickOpen then .ok s
      else .ok { s with tick := { s.tick with pred := w &&& 0xFFFFFF07#32 } } := rfl
  rw [e]
  by_cases ho : s.tickOpen = true
  · rw [ho, if_pos (State.tickOpen_iff.1 ho)]; rfl
  · rw [if_neg (mt State.tickOpen_iff.2 ho), Bool.eq_false_iff.2 ho]; rfl

/-- TICK_PRED (R111, R134). -/
theorem tickPred_written (h : s.FirmwareWrites) (w : Word) :
    (field w 2 0 = 7 → s.wordWritten 0x2001C w = .next (s.newStep.report .config))
    ∧ (¬ field w 2 0 = 7 → s.wordWritten 0x2001C w = .next (if s.mode.mode = .standby ∨ s.mode.mode = .ready then
        { s.newStep with tick := { s.tick with pred := w &&& 0xFFFFFF07#32 } } else s.newStep)) :=
  wordWritten_guarded (by rw [wordWritten_tick h (by decide) rfl, State.tickWrite_pred]; rfl)

/-- ENC_CFG of each encoder (R134). -/
theorem encCfg_written (h : s.FirmwareWrites) (e : EncIx) (w : Word) :
    (field w 5 4 = 3 ∨ 2 ≤ field w 9 8 → s.wordWritten (0x20100 + 0x20 * e.val) w = .next (s.newStep.report .config))
    ∧ (¬ (field w 5 4 = 3 ∨ 2 ≤ field w 9 8) → s.wordWritten (0x20100 + 0x20 * e.val) w = .next { s.newStep with
        enc := vset s.enc e { vget s.enc e with cfg := w &&& 0x0000037F#32 } }) := by
  have hw : s.newStep.tickWrite (0x20100 + 0x20 * e.val) w = if field w 5 4 = 3 ∨ 2 ≤ field w 9 8 then .bad
      else .ok { s.newStep with enc := vset s.enc e { vget s.enc e with cfg := w &&& 0x0000037F#32 } } := by
    simp only [State.tickWrite, Bool.or_eq_true, decide_eq_true_eq]
    rw [if_neg (by omega), if_neg (by omega), if_neg (by omega), if_neg (by omega), if_pos (by omega), finOf_eq_of_mod (i := e) (by omega)]
    rfl
  exact wordWritten_guarded (by rw [wordWritten_tick h (by omega) (by omega), hw])

/-- SYNC_CFG (R134). -/
theorem syncCfg_written (h : s.FirmwareWrites) (w : Word) :
    (field w 31 16 < 500 ∨ field w 15 14 = 3 → s.wordWritten 0x20200 w = .next (s.newStep.report .config))
    ∧ (¬ (field w 31 16 < 500 ∨ field w 15 14 = 3) → s.wordWritten 0x20200 w =
        .next { s.newStep with sync := { s.newStep.sync with cfg := w &&& 0xFFFFC000#32 } }) := by
  have hw : s.newStep.tickWrite 0x20200 w = if field w 31 16 < 500 ∨ field w 15 14 = 3 then .bad
      else .ok { s.newStep with sync := { s.newStep.sync with cfg := w &&& 0xFFFFC000#32 } } := by
    simp [State.tickWrite, State.onSync]
  exact wordWritten_guarded (by rw [wordWritten_tick h (by decide) rfl, hw])

/-- SYNC_GEO (R134). -/
theorem syncGeo_written (h : s.FirmwareWrites) (w : Word) :
    s.wordWritten 0x20204 w = .next { s.newStep with sync := { s.newStep.sync with geo := w } } :=
  wordWritten_tick h (by decide) rfl w

/-- JOB_CFG (R220). -/
theorem jobCfg_written (h : s.FirmwareWrites) (w : Word) :
    s.wordWritten 0x60100 w = .next { s.newStep with det := { s.det with jobCfg := w &&& 0x3F#32 } } :=
  wordWritten_det h (by decide) rfl rfl w

/-- FLT_PTR (R220). -/
theorem fltTail_written (h : s.FirmwareWrites) (w : Word) :
    s.wordWritten 0x60600 w = .next { s.newStep with det := { s.det with fltTail := w.extractLsb' 0 8 } } :=
  wordWritten_det h (by decide) rfl rfl w

/-- CART_CTRL (R216, R220): the write is that of `cartCtrlWrite`, in which ABORT wins over RESUME. -/
theorem cartCtrl_written (h : s.FirmwareWrites) (q : CartIx) (w : Word) :
    s.wordWritten (0x62000 + 0x20 * q.val) w = .next (s.newStep.cartCtrlWrite q w) := by
  have hq := q.isLt
  have hw : s.newStep.detWrite (0x62000 + 0x20 * q.val) w = .ok (s.newStep.cartCtrlWrite q w) := by
    simp only [State.detWrite, Bool.and_eq_true, Bool.or_eq_true, decide_eq_true_eq]
    rw [if_neg (by omega), if_neg (by omega), if_neg (by omega), if_neg (by omega), if_neg (by omega), if_neg (by omega), if_pos (by omega),
      finOf_eq_of_mod (i := q) (by omega)]
  rw [wordWritten_det h (by omega) (by omega) (wide_eq_false (by omega)), hw, State.wrote_ok]

theorem State.cartCtrlWrite_owner {w : Word} (ha : bit w 10 = false) (hr : bit w 9 = false) (q : CartIx) :
    s.cartCtrlWrite q w = s.onCart q fun c => { c with owner := w.extractLsb' 20 4 } := by simp [State.cartCtrlWrite, ha, hr]

theorem State.cartCtrlWrite_resume {w : Word} (ha : bit w 10 = false) (hr : bit w 9 = true) (q : CartIx) :
    s.cartCtrlWrite q w = (s.onCart q fun c => { c with owner := w.extractLsb' 20 4 }).cartResume q := by simp [State.cartCtrlWrite, ha, hr]

theorem State.cartCtrlWrite_abort {w : Word} (ha : bit w 10 = true) (q : CartIx) :
    s.cartCtrlWrite q w = (s.onCart q fun c => { c with owner := w.extractLsb' 20 4 }).cartAbort q := by simp [State.cartCtrlWrite, ha]

/-! The 64-bit registers, each written by its two halves. -/

/-- The place of a half in a 64-bit register. -/
def halfOffset (hi : Bool) : Nat := if hi then 4 else 0

@[simp] theorem halfOffset_false : halfOffset false = 0 := rfl
@[simp] theorem halfOffset_true : halfOffset true = 4 := rfl

theorem halfOffset_le (hi : Bool) : halfOffset hi ≤ 4 := by cases hi <;> decide

/-- The address of a half says which half it is. -/
theorem halfOffset_mod {x : Nat} (h : x % 8 = 0) (hi : Bool) : (x + halfOffset hi) % 8 = 4 ↔ hi = true := by
  cases hi
  · simp only [halfOffset_false, Bool.false_eq_true, iff_false]; omega
  · simp only [halfOffset_true, iff_true]; omega

theorem State.detWrite_kern (k : Fin 16) (hi : Bool) (w : Word) :
    s.detWrite (0x60200 + 8 * k.val + halfOffset hi) w = .ok { s with det := { s.det with
      kernEntry := vset s.det.kernEntry k (setHalf (vget s.det.kernEntry k) hi (w &&& if hi then 0xFF#32 else 0xFFFFFFFC#32)) } } := by
  have hk := k.isLt
  have hh := halfOffset_le hi
  have hx := halfOffset_mod (x := 0x60200 + 8 * k.val) (by omega) hi
  simp only [State.detWrite, Bool.and_eq_true, decide_eq_true_eq, hx, Bool.decide_eq_true]
  rw [if_neg (by omega), if_pos (by omega), finOf_eq_of_mod (i := k) (by omega)]
  rfl

theorem State.detWrite_as (k : Fin 16) (hi : Bool) (w : Word) :
    s.detWrite (0x60400 + 8 * k.val + halfOffset hi) w = .ok { s with det := { s.det with
      asBase := vset s.det.asBase k (setHalf (vget s.det.asBase k) hi (w &&& if hi then 0xFF#32 else 0xFFFFE001#32)) } } := by
  have hk := k.isLt
  have hh := halfOffset_le hi
  have hx := halfOffset_mod (x := 0x60400 + 8 * k.val) (by omega) hi
  simp only [State.detWrite, Bool.and_eq_true, decide_eq_true_eq, hx, Bool.decide_eq_true]
  rw [if_neg (by omega), if_neg (by omega), if_pos (by omega), finOf_eq_of_mod (i := k) (by omega)]
  rfl

/-- A 64-bit register of the bays' chapter, written whole by the firmware. -/
theorem exec_registerWrite_wide (h : s.FirmwareWrites) {o : Nat} (ho : 0x60200 ≤ o ∧ o + 4 < 0x70000) (hw : wide o = true) (v : BitVec 64) :
    exec (.registerWrite (regAt o) v false) s =
      .next (let u := s.newStep.wrote (s.newStep.detWrite o (half v false)); u.wrote (u.detWrite (o + 4) (half v true))) := by
  have h8 := ((wide_iff o).1 hw).1
  rw [exec_registerWrite_regs h (by omega) (by omega), State.regWriteWhole_wide hw _ _ (.inl rfl), State.regWrite_eq_wrote, State.regWrite_eq_wrote,
    State.regWriteEnd_det (by omega), State.regWriteEnd_det (by omega)]

/-- KERN_ENTRY (R220). -/
theorem kernEntry_written (h : s.FirmwareWrites) (k : Fin 16) (v : BitVec 64) :
    exec (.registerWrite (regAt (0x60200 + 8 * k.val)) v false) s = .next { s.newStep with det := { s.det with
      kernEntry := vset s.det.kernEntry k (v &&& 0xFFFFFFFFFC#64) } } := by
  have hk := k.isLt
  have lo := fun (u : State) w => State.detWrite_kern (s := u) k false w
  have hi := fun (u : State) w => State.detWrite_kern (s := u) k true w
  simp only [halfOffset_false, halfOffset_true, Bool.false_eq_true, if_false, if_true, Nat.add_zero] at lo hi
  rw [exec_registerWrite_wide h (by omega) ((wide_iff _).2 (by omega))]
  simp only [lo, hi, State.wrote_ok, vget_vset_self, vset_vset, setHalf_masked _ v 0xFFFFFFFFFC#64 (a := 0xFFFFFFFC#32) (b := 0xFF#32) rfl rfl]
  rfl

/-- AS_BASE (R220). -/
theorem asBase_written (h : s.FirmwareWrites) (k : Fin 16) (v : BitVec 64) :
    exec (.registerWrite (regAt (0x60400 + 8 * k.val)) v false) s = .next { s.newStep with det := { s.det with
      asBase := vset s.det.asBase k (v &&& 0xFFFFFFE001#64) } } := by
  have hk := k.isLt
  have lo := fun (u : State) w => State.detWrite_as (s := u) k false w
  have hi := fun (u : State) w => State.detWrite_as (s := u) k true w
  simp only [halfOffset_false, halfOffset_true, Bool.false_eq_true, if_false, if_true, Nat.add_zero] at lo hi
  rw [exec_registerWrite_wide h (by omega) ((wide_iff _).2 (by omega))]
  simp only [lo, hi, State.wrote_ok, vget_vset_self, vset_vset, setHalf_masked _ v 0xFFFFFFE001#64 (a := 0xFFFFE001#32) (b := 0xFF#32) rfl rfl]
  rfl

/-- TLB_INV_VA (R220). -/
theorem tlbInvVa_written (h : s.FirmwareWrites) (v : BitVec 64) :
    exec (.registerWrite (regAt 0x60508) v false) s = .next { s.newStep with det := { s.det with tlbInvVa := v &&& 0xFFFFFF0000#64 } } := by
  have lo : ∀ (u : State) w, u.detWrite 0x60508 w =
      .ok { u with det := { u.det with tlbInvVa := setHalf u.det.tlbInvVa false (w &&& 0xFFFF0000#32) } } := fun _ _ => rfl
  have hi : ∀ (u : State) w, u.detWrite (0x60508 + 4) w =
      .ok { u with det := { u.det with tlbInvVa := setHalf u.det.tlbInvVa true (w &&& 0xFF#32) } } := fun _ _ => rfl
  rw [exec_registerWrite_wide h (by decide) rfl]
  simp only [lo, hi, State.wrote_ok, setHalf_masked _ v 0xFFFFFF0000#64 (a := 0xFFFF0000#32) (b := 0xFF#32) rfl rfl]
  rfl

end Sys2Proof.Machine
end

section
/-! What each register of the ports, lanes and streams does when the firmware writes it (R222, R239, R251). -/

namespace Sys2Proof.Machine

variable {s : State}

theorem State.portWrite_cfg (p : PortIx) (w : Word) : s.portWrite (0x70000 + 0x100 * p.val) w = s.portCfgWrite p w := by
  simp only [State.portWrite]
  rw [if_pos (by omega), if_pos (by omega), finOf_eq_of_mod (i := p) (by omega)]

theorem State.portWrite_seal (p : PortIx) (w : Word) : s.portWrite (0x70008 + 0x100 * p.val) w = s.sealCfgWrite p w := by
  simp only [State.portWrite]
  rw [if_pos (by omega), if_neg (by omega), if_pos (by omega), finOf_eq_of_mod (i := p) (by omega)]

theorem State.portWrite_lane (l : Fin 32) (w : Word) : s.portWrite (0x70800 + 4 * l.val) w = s.laneWrite l w := by
  simp only [State.portWrite, Bool.and_eq_true, decide_eq_true_eq]
  rw [if_neg (by omega), if_pos (by omega), finOf_eq_of_mod (i := l) (by omega)]

theorem State.portWrite_stream (d : StreamIx) (w : Word) : s.portWrite (0x71000 + 16 * d.val) w = s.streamCfgWrite d w := by
  simp only [State.portWrite, Bool.and_eq_true, decide_eq_true_eq]
  rw [if_neg (by omega), if_neg (by omega), if_pos (by omega), finOf_eq_of_mod (i := d) (by omega)]

/-- RATE of PORT_CFG written: it changes while the port is stopped alone (R251). -/
def State.rateStored (s : State) (p : PortIx) (w : Word) : State :=
  if field w 30 28 = field (s.getPort p).cfg 30 28 then s else if (s.getPort p).state = .stopped then
    s.onPort p fun y => { y with cfg := setField y.cfg 28 3 (field w 30 28) } else s.lockedWrite

theorem State.rateStored_mode (p : PortIx) (w : Word) : (s.rateStored p w).mode = s.mode := by
  unfold State.rateStored
  split
  · rfl
  · split <;> rfl

theorem State.portCfgWrite_eq {p : PortIx} (hp : s.hasPort p = true) (w : Word) : s.portCfgWrite p w =
    if 5 ≤ field w 30 28 then .bad
    else .ok (if bit w 31 = false then (s.rateStored p w).askStop p
      else if s.mode.mode = .ready ∨ s.mode.mode.streaming = true then (s.rateStored p w).askStart p else s.rateStored p w) := by
  have e : s.portCfgWrite p w = if 5 ≤ field w 30 28 then .bad
      else if bit w 31 = true then .ok (if ((s.rateStored p w).mode.mode = .ready || (s.rateStored p w).mode.mode.streaming) = true
        then (s.rateStored p w).askStart p else s.rateStored p w)
      else .ok ((s.rateStored p w).askStop p) := by
    simp only [State.portCfgWrite, hp, Bool.not_true, Bool.false_eq_true, if_false]
    rfl
  rw [e, State.rateStored_mode]
  cases bit w 31 <;> simp

/-- PORT_CFG (R94, R244, R251). -/
theorem portCfg_written (h : s.FirmwareWrites) {p : PortIx} (hp : s.hasPort p = true) (w : Word) :
    (5 ≤ field w 30 28 → s.wordWritten (0x70000 + 0x100 * p.val) w = .next (s.newStep.report .config))
    ∧ (¬ 5 ≤ field w 30 28 → s.wordWritten (0x70000 + 0x100 * p.val) w =
        .next (if bit w 31 = false then (s.newStep.rateStored p w).askStop p
          else if s.mode.mode = .ready ∨ s.mode.mode.streaming = true then (s.newStep.rateStored p w).askStart p else s.newStep.rateStored p w)) :=
  wordWritten_guarded (by rw [wordWritten_port h (by omega) (by omega), State.portWrite_cfg, State.portCfgWrite_eq (s := s.newStep) hp]; rfl)

/-- SEAL_CFG stored: the number always, SEAL_EN while the port is stopped alone (R251). -/
def State.sealStored (s : State) (p : PortIx) (w : Word) : State :=
  let u := s.onPort p fun y => { y with sealCfg := setField y.sealCfg 0 11 (field w 10 0) }
  if bit w 31 = bit (s.getPort p).sealCfg 31 then u else if (s.getPort p).state = .stopped then
    u.onPort p fun y => { y with sealCfg := setBit y.sealCfg 31 (bit w 31) } else u.lockedWrite

theorem State.sealCfgWrite_eq {p : PortIx} (hp : s.hasPort p = true) (w : Word) : s.sealCfgWrite p w =
    if field w 10 0 < 16 ∨ 1024 < field w 10 0 then .bad else .ok (s.sealStored p w) := by
  simp only [State.sealCfgWrite, State.sealStored, hp, Bool.not_true, Bool.false_eq_true, if_false, Bool.or_eq_true, decide_eq_true_eq,
    apply_ite RegEnd.ok]

/-- SEAL_CFG (R251). -/
theorem sealCfg_written (h : s.FirmwareWrites) {p : PortIx} (hp : s.hasPort p = true) (w : Word) :
    (field w 10 0 < 16 ∨ 1024 < field w 10 0 → s.wordWritten (0x70008 + 0x100 * p.val) w = .next (s.newStep.report .config))
    ∧ (¬ (field w 10 0 < 16 ∨ 1024 < field w 10 0) → s.wordWritten (0x70008 + 0x100 * p.val) w = .next (s.newStep.sealStored p w)) :=
  wordWritten_guarded (by rw [wordWritten_port h (by omega) (by omega), State.portWrite_seal, State.sealCfgWrite_eq (s := s.newStep) hp])

theorem State.hasPort_of_not_small (hs : s.isSmall = false) (p : PortIx) : s.hasPort p = true := by simp [State.hasPort, hs]

theorem field_lt {n : Nat} (x : BitVec n) (hi lo : Nat) : field x hi lo < 2 ^ (hi - lo + 1) := (x.extractLsb' lo (hi - lo + 1)).isLt

/-- LANE_TX keeps R222: the taps and the swing have bounds, the two single bits have none. -/
theorem laneOk_iff (w : Word) : laneOk (field w 8 6) (field w 12 9) (field w 5 2) (field w 1 1) (field w 0 0) = true ↔
    field w 8 6 < 8 ∧ field w 12 9 < 16 ∧ field w 8 6 + field w 12 9 ≤ 20 ∧ field w 5 2 ≤ 10 := by
  have h1 : field w 1 1 < 2 := field_lt w 1 1
  have h0 : field w 0 0 < 2 := field_lt w 0 0
  simp [laneOk, h1, h0, and_assoc]

/-- LANE_TX (R222, R251). -/
theorem laneTx_written (h : s.FirmwareWrites) (hs : s.isSmall = false) (l : Fin 32) (w : Word) :
    let ok := field w 8 6 < 8 ∧ field w 12 9 < 16 ∧ field w 8 6 + field w 12 9 ≤ 20 ∧ field w 5 2 ≤ 10
    (¬ ok → s.wordWritten (0x70800 + 4 * l.val) w = .next (s.newStep.report .config))
    ∧ (ok → s.wordWritten (0x70800 + 4 * l.val) w =
        .next { s.newStep with port := { s.port with lane := vset s.port.lane l (w &&& 0x1FFF#32) } }) := by
  intro ok
  have e : s.wordWritten (0x70800 + 4 * l.val) w = .next (s.newStep.wrote (if ¬ ok then .bad
      else .ok { s.newStep with port := { s.port with lane := vset s.port.lane l (w &&& 0x1FFF#32) } })) := by
    rw [wordWritten_port h (by omega) (by omega), State.portWrite_lane]
    simp only [State.laneWrite, State.hasPort_of_not_small (s := s.newStep) hs, Bool.not_true, Bool.false_eq_true, if_false, Bool.not_eq_true',
      ← Bool.not_eq_true, laneOk_iff]
    rfl
  obtain ⟨reserved, stored⟩ := wordWritten_guarded e
  exact ⟨reserved, fun hok => stored (not_not.2 hok)⟩

/-- KIND of STREAM_CFG has a reserved value (R251). -/
theorem streamCfg_reserved_written (h : s.FirmwareWrites) (d : StreamIx) {w : Word} (hw : field w 30 29 = 3) :
    s.wordWritten (0x71000 + 16 * d.val) w = .next (s.newStep.report .config) := by
  rw [wordWritten_port h (by omega) (by omega), State.portWrite_stream]
  simp [State.streamCfgWrite, hw]

/-- A stream that is disabled takes KIND, PORT and FIELD (R251). -/
theorem streamCfg_disabled_written (h : s.FirmwareWrites) (hs : s.isSmall = false) {d : StreamIx} {w : Word} (hw : field w 30 29 ≠ 3)
    (he : (s.getStream d).en = false) (hb : bit w 31 = false) :
    s.wordWritten (0x71000 + 16 * d.val) w = .next (s.newStep.onStream d fun f => { f with cfg := setBit (w &&& 0xFE000000#32) 31 false }) := by
  rw [wordWritten_port h (by omega) (by omega), State.portWrite_stream]
  simp [State.streamCfgWrite, hw, hb, State.hasPort_of_not_small (s := s.newStep) hs, show (s.newStep.getStream d).en = false from he]

/-- A stream that is enabled and stays so keeps KIND, PORT and FIELD: a write that would change them is counted (R239, R251). -/
theorem streamCfg_enabled_written (h : s.FirmwareWrites) (hs : s.isSmall = false) {d : StreamIx} {w : Word} (hw : field w 30 29 ≠ 3)
    (he : (s.getStream d).en = true) (hb : bit w 31 = true) :
    s.wordWritten (0x71000 + 16 * d.val) w = .next
      (if w &&& 0x7E000000#32 = (s.getStream d).cfg &&& 0x7E000000#32 then s.newStep else s.newStep.lockedWrite) := by
  have em : w &&& 0xFE000000#32 &&& 0x7E000000#32 = w &&& 0x7E000000#32 := by rw [BitVec.and_assoc]; rfl
  rw [wordWritten_port h (by omega) (by omega), State.portWrite_stream]
  simp [State.streamCfgWrite, hw, hb, em, State.hasPort_of_not_small (s := s.newStep) hs,
    show s.newStep.getStream d = s.getStream d from rfl, he]

end Sys2Proof.Machine
end

section
/-! What each register of the charger, the clocks, the peripherals, the watchdog and debug does when the firmware writes it (R349, R353, R369, R418, R432). -/

namespace Sys2Proof.Machine

variable {s : State}

/-- CHG_CFG (R349). -/
theorem chgCfg_written (h : s.FirmwareWrites) (w : Word) :
    (5 ≤ field w 13 11 → s.wordWritten 0xA0020 w = .next (s.newStep.report .config))
    ∧ (¬ 5 ≤ field w 13 11 → s.wordWritten 0xA0020 w = .next (s.newStep.onBkp fun b => b.writeCfg (w &&& 0x0000F9FF#32))) :=
  wordWritten_guarded (wordWritten_eq h (by decide) rfl rfl w)

/-- PLLA_OUT is written under the rule of its output (R353, R369). -/
theorem pllaOut_written (h : s.FirmwareWrites) (o : Fin 6) (w : Word) :
    s.wordWritten (0xB0100 + 4 * o.val) w = .next (s.newStep.wrote (s.newStep.pllaOutWrite o w)) := by
  have ho := o.isLt
  rw [wordWritten_clk h (by omega) (by omega)]
  simp only [State.clkWrite, Bool.and_eq_true, decide_eq_true_eq]
  rw [if_pos (by omega), finOf_eq_of_mod (i := o) (by omega)]

/-- OUT3 and OUT5 feed nothing that forbids a write: EN is stored, and DELAY while EN was 0. -/
theorem State.pllaOutWrite_free {o : Fin 6} (ho : o.val ∈ [3, 5]) (w : Word) : s.pllaOutWrite o w =
    .ok (if bit (vget s.clk.pllaOut o) 16 then
      State.lockedWrite { s with clk := { s.clk with pllaOut := vset s.clk.pllaOut o (setBit (vget s.clk.pllaOut o) 16 (bit w 16)) } }
      else { s with clk := { s.clk with
        pllaOut := vset s.clk.pllaOut o (setField (setBit (vget s.clk.pllaOut o) 16 (bit w 16)) 0 6 (field w 5 0)) } }) := by
  have others : ∀ o : Fin 6, o.val ∈ [3, 5] → o ≠ 0 ∧ o ≠ 1 ∧ o ≠ 2 ∧ o ≠ 4 := by decide
  obtain ⟨h0, h1, h2, h4⟩ := others o ho
  simp only [State.pllaOutWrite, h0, h1, h2, h4, if_false, decide_false, Bool.or_self, Bool.false_and, Bool.false_eq_true]
  split <;> rfl

/-- OUT1 and OUT2 clock the array, and are not disabled while it is biased. -/
theorem State.pllaOutWrite_biased {o : Fin 6} (ho : o.val ∈ [1, 2]) (hb : s.sensor.biased = true) (he : bit (vget s.clk.pllaOut o) 16 = true)
    {w : Word} (hw : bit w 16 = false) : s.pllaOutWrite o w = .bad := by
  have outputs : ∀ o : Fin 6, o.val ∈ [1, 2] → o ≠ 0 ∧ (o = 1 ∨ o = 2) := by decide
  obtain ⟨h0, h12⟩ := outputs o ho
  simp [State.pllaOutWrite, h0, h12, hb, he, hw]

theorem pllaOut_free_written (h : s.FirmwareWrites) {o : Fin 6} (ho : o.val ∈ [3, 5]) (w : Word) :
    s.wordWritten (0xB0100 + 4 * o.val) w = .next (if bit (vget s.clk.pllaOut o) 16 then
      State.lockedWrite { s.newStep with clk := { s.clk with pllaOut := vset s.clk.pllaOut o (setBit (vget s.clk.pllaOut o) 16 (bit w 16)) } }
      else { s.newStep with clk := { s.clk with
        pllaOut := vset s.clk.pllaOut o (setField (setBit (vget s.clk.pllaOut o) 16 (bit w 16)) 0 6 (field w 5 0)) } }) := by
  rw [pllaOut_written h, State.pllaOutWrite_free ho, State.wrote_ok]
  rfl

theorem pllaOut_biased_written (h : s.FirmwareWrites) {o : Fin 6} (ho : o.val ∈ [1, 2]) (hb : s.sensor.biased = true)
    (he : bit (vget s.clk.pllaOut o) 16 = true) {w : Word} (hw : bit w 16 = false) :
    s.wordWritten (0xB0100 + 4 * o.val) w = .next (s.newStep.report .config) := by
  rw [pllaOut_written h, State.pllaOutWrite_biased (s := s.newStep) ho hb he hw, State.wrote_bad]

/-- PLLB_CFG (R369). -/
theorem pllbCfg_written (h : s.FirmwareWrites) (w : Word) :
    (field w 31 30 = 3 ∨ 10 < field w 29 26 → s.wordWritten 0xB0200 w = .next (s.newStep.report .config))
    ∧ (¬ (field w 31 30 = 3 ∨ 10 < field w 29 26) → s.wordWritten 0xB0200 w = .next { s.newStep with clk := { s.clk with
        pllbCfg := (s.clk.pllbCfg &&& ~~~0xFC000000#32) ||| (w &&& 0xFC000000#32) } }) := by
  refine wordWritten_guarded ?_
  rw [wordWritten_clk h (by decide) rfl]
  simp only [State.clkWrite, Bool.or_eq_true, decide_eq_true_eq]
  rfl

/-- PLLB_PROF (R369). -/
theorem pllbProf_written (h : s.FirmwareWrites) (k : Fin 16) (w : Word) :
    s.wordWritten (0xB0240 + 4 * k.val) w = .next { s.newStep with clk := { s.clk with prof := vset s.clk.prof k w } } := by
  have hk := k.isLt
  rw [wordWritten_clk h (by omega) (by omega)]
  simp only [State.clkWrite, Bool.and_eq_true, decide_eq_true_eq]
  rw [if_neg (by omega), if_neg (by omega), if_neg (by omega), if_pos (by omega), finOf_eq_of_mod (i := k) (by omega)]
  rfl

/-- PORT_PLL (R369): it is locked while the port is not stopped. -/
theorem portPll_written (h : s.FirmwareWrites) (p : PortIx) (w : Word) :
    s.wordWritten (0xB0300 + 4 * p.val) w = .next (if (s.getPort p).state = .stopped then
      { s.newStep with clk := { s.clk with portPll := vset s.clk.portPll p (w &&& 0xFFFF0000#32) } } else s.newStep.lockedWrite) := by
  have hp := p.isLt
  rw [wordWritten_clk h (by omega) (by omega)]
  simp only [State.clkWrite, Bool.and_eq_true, decide_eq_true_eq, ne_eq, ite_not]
  rw [if_neg (by omega), if_neg (by omega), if_neg (by omega), if_neg (by omega), if_neg (by omega), if_pos (by omega),
    finOf_eq_of_mod (i := p) (by omega), show s.newStep.getPort p = s.getPort p from rfl]
  split <;> rfl

/-- BAND (R369). -/
theorem band_written (h : s.FirmwareWrites) (o : Fin 6) (n : Fin 64) (w : Word) :
    s.wordWritten (0xB1000 + 0x100 * o.val + 4 * n.val) w = .next { s.newStep with clk := { s.clk with
      band := vset s.clk.band o (vset (vget s.clk.band o) n (w &&& 0xBFFFFFFF#32)) } } := by
  have ho := o.isLt
  have hn := n.isLt
  rw [wordWritten_clk h (by omega) (by omega)]
  simp only [State.clkWrite, Bool.and_eq_true, decide_eq_true_eq]
  rw [if_neg (by omega), if_neg (by omega), if_neg (by omega), if_neg (by omega), if_neg (by omega), if_neg (by omega), if_pos (by omega),
    finOf_eq_of_mod (i := o) (by omega), finOf_eq_of_mod (i := n) (by omega)]
  rfl

/-- The registers of the peripherals take a write as PERIPH_SET does (R281, R384, R385, R400). -/
theorem periph_written (h : s.FirmwareWrites) (i : Nat) (h1 : 0xC0000 ≤ i) (h2 : i < 0x100000) (w : Word) :
    (∀ u, s.newStep.periphWrite i w = .ok u → i % 4 = 0 → s.wordWritten i w = .next u)
    ∧ (s.newStep.periphWrite i w = .bad → i % 4 = 0 → s.wordWritten i w = .next (s.newStep.report .config)) := by
  refine ⟨fun u e h4 => ?_, fun e h4 => ?_⟩
  · rw [wordWritten_periph h ⟨h1, h2⟩ h4, e, State.wrote_ok]
  · rw [wordWritten_periph h ⟨h1, h2⟩ h4, e, State.wrote_bad]

/-- A register that debug alone reaches stays (R432). -/
theorem State.regWrite_debugOnly {o : Nat} (ho : 0x110000 ≤ o ∧ o < 0x120000) (w : Word) : s.regWrite o w false = s := by
  rw [State.regWrite_eq_wrote, State.regWriteEnd_dbg ho]
  rfl

theorem breakpoint_kept (h : s.FirmwareWrites) (b : Fin 8) (v : BitVec 64) :
    exec (.registerWrite (regAt (0x110000 + 8 * b.val)) v false) s = .next s.newStep := by
  have hb := b.isLt
  rw [exec_registerWrite_regs h (by omega) (by omega), State.regWriteWhole_wide ((wide_iff _).2 (by omega)) _ _ (.inl rfl),
    State.regWrite_debugOnly (by omega), State.regWrite_debugOnly (by omega)]

theorem watchpointCtrl_kept (h : s.FirmwareWrites) (m : Fin 4) (w : Word) : s.wordWritten (0x110048 + 16 * m.val) w = .next s.newStep := by
  have hm := m.isLt
  rw [State.wordWritten, exec_registerWrite_regs h (by omega) (by omega), State.regWriteWhole_word (wide_eq_false (by omega)),
    State.regWrite_debugOnly (by omega)]

end Sys2Proof.Machine
end

section
/-! Writes of the firmware outside register space, the watchpoint that a write meets, and debug's own writes (R204, R211, R421, R425, R432). -/

namespace Sys2Proof.Machine

variable {s : State}

/-- A word of HBM that no mark of poison guards is stored, and the rest of its 64-bit word is read and corrected first (R211). -/
theorem hbmWord_written (h : s.FirmwareWrites) {a : BitVec 40} (ha : a.toNat < 0x400000000) (hd : s.hbmDown = false)
    (hp : s.mem.edgePoison (a.toNat / 4 * 4) 4 = none) (v : BitVec 64) :
    exec (.registerWrite a v false) s = .next
      (let u := s.newStep.correct (if a.toNat / 4 * 4 % 8 = 0 then [(a.toNat / 4 * 4 + 4) / 8] else [a.toNat / 4 * 4 / 8])
       { u with mem := u.mem.deviceWrite (a.toNat / 4 * 4) (bytesLe 4 (v.toNat % 2 ^ 32)) }) := by
  rw [exec_registerWrite_unwatched h]
  generalize hA : a.toNat / 4 * 4 = A at hp ⊢
  have hlt : A < 0x400000000 := by omega
  have words : ((if A % 8 ≠ 0 then [A / 8] else []) ++ if (A + 4) % 8 ≠ 0 then [(A + 4) / 8] else [])
      = if A % 8 = 0 then [(A + 4) / 8] else [A / 8] := by
    by_cases h8 : A % 8 = 0
    · rw [if_neg (not_not.2 h8), if_pos (by omega), if_pos h8]; rfl
    · rw [if_pos h8, if_neg (by omega), if_neg h8]; rfl
  have hw : s.newStep.fwWrite A (bytesLe 4 (v.toNat % 2 ^ 32)) = some
      (let u := s.newStep.correct (if A % 8 = 0 then [(A + 4) / 8] else [A / 8])
       { u with mem := u.mem.deviceWrite A (bytesLe 4 (v.toNat % 2 ^ 32)) }) := by
    simp only [State.fwWrite, bytesLe_length, show s.newStep.hbmDown = false from hd, show s.newStep.mem.edgePoison A 4 = none from hp, words,
      Bool.and_false, Option.isSome_none, Bool.or_self, Bool.false_eq_true, if_false]
  simp only [State.firmwareWrite, placeOf_hbm hlt, half_low_toNat, hw]

/-- A write where the firmware reaches nothing is a bus error that writes nothing (R204). -/
theorem unreached_kept (h : s.FirmwareWrites) {a : BitVec 40} (v : BitVec 64)
    (ha : (0x400000000 ≤ a.toNat ∧ a.toNat < 0x1000200000) ∨ (0x1002000000 ≤ a.toNat ∧ a.toNat < 0x1100000000) ∨ 0x2010000000 ≤ a.toNat) :
    exec (.registerWrite a v false) s = .next s.newStep := by
  rw [exec_registerWrite_unwatched h]
  rcases placeOf_unreached (small := s.newStep.isSmall) (a := a.toNat / 4 * 4) (by omega) with e | e | e <;> simp only [State.firmwareWrite, e]

/-- The firmware's write of TICK_PER takes effect, and then the watchpoint that it meets halts the control processor (R425). -/
theorem tickPer_watched (h : s.FirmwareRuns) {m : Fin 4} (ho : ∀ i, i ≠ m → bit (vget s.dbg.wptCtrl i) 31 = false)
    (hm : field (vget s.dbg.wptCtrl m) 31 29 = 5) (h1 : field (vget s.dbg.wptAddr m) 39 0 < 0x200002001C)
    (h2 : 0x2000020018 < field (vget s.dbg.wptAddr m) 39 0 + 2 ^ field (vget s.dbg.wptCtrl m) 4 0) (w : Word) :
    s.wordWritten 0x20018 w = .next (State.cpStop { s.newStep with tick := { s.tick with per := w } } .watchpoint m.val) := by
  have ea : (regAt 0x20018).toNat / 4 * 4 = 0x2000000000 + 0x20018 := regAt_toNat (by decide) rfl
  have en : s.writeSize (0x2000000000 + 0x20018) = 4 := by
    rw [State.writeSize, placeOf_regs (by decide)]
    rfl
  have ew : s.newStep.firmwareWrite (0x2000000000 + 0x20018) (w.setWidth 64) = { s.newStep with tick := { s.tick with per := w } } := by
    rw [State.firmwareWrite_regs (by decide), State.regWriteWhole_word rfl, half_setWidth_low]
    rfl
  rw [State.wordWritten, exec_registerWrite_runs h, ea, en, ew, Debug.cpWatch_some ho hm h1 h2]
  rfl

/-- A write by debug in full: the access of the debug port at the address (R421). -/
theorem exec_registerWrite_debug (h : s.host.phase ≠ 0) (a : BitVec 40) (v : BitVec 64) :
    exec (.registerWrite a v true) s = .next (s.newStep.debugWrite (a.toNat / 4 * 4) v) := by
  simp only [exec_registerWrite, execRegisterWrite, State.newStep_phase, h, decide_false, Bool.not_true, Bool.false_and, Bool.or_self,
    Bool.false_eq_true, if_false, if_true]

/-- Without scope debug writes nothing (R421). -/
theorem debug_denied (h : s.host.phase ≠ 0) (hs : s.debugScope = 0) (a : BitVec 40) (v : BitVec 64) :
    exec (.registerWrite a v true) s = .next s.newStep := by
  rw [exec_registerWrite_debug h]
  exact congrArg _ (if_pos hs)

theorem State.up_of_debugScope (h : s.debugScope = 2) : s.host.phase ≠ 0 := fun e => by
  rw [State.debugScope, if_pos e] at h
  exact absurd h (by decide)

/-- With full scope debug writes a register of its own whole (R421, R428). -/
theorem exec_registerWrite_ownRegs (h : s.debugScope = 2) {o : Nat} (ho : 0x110000 ≤ o ∧ o < 0x120000) (h4 : o % 4 = 0) (v : BitVec 64) :
    exec (.registerWrite (regAt o) v true) s = .next (s.newStep.regWriteWhole o v true) := by
  have hscope : s.newStep.debugScope = 2 := h
  have hdirect : (decide (0x2000080000 ≤ 0x2000000000 + o) && decide (0x2000000000 + o < 0x2000090000)) = false := by
    simp only [Bool.and_eq_false_iff, decide_eq_false_iff_not]
    omega
  rw [exec_registerWrite_debug (State.up_of_debugScope h), regAt_toNat (by omega) h4]
  simp only [State.debugWrite, hscope, placeOf_regs (small := s.newStep.isSmall) (a := 0x2000000000 + o) (by omega), hdirect, decide_true,
    Bool.not_false, Bool.and_self, if_true, Nat.add_sub_cancel_left, OfNat.ofNat_ne_zero, if_false]

/-- Outside the tick generator's chapter a reserved value that debug writes is reported alone (R134). -/
theorem State.regBad_eq_report {o : Nat} (ho : 0x30000 ≤ o) (byDebug : Bool) : s.regBad o byDebug = s.report .config := by
  have hc : ¬ (byDebug && decide (0x20000 ≤ o) && decide (o < 0x30000)) = true := by
    simp only [Bool.and_eq_true, decide_eq_true_eq]
    omega
  exact if_neg hc

/-- The bits of a breakpoint that are stored decide by themselves whether it keeps R432. -/
theorem brkBad_masked (v : BitVec 64) : brkBad (v &&& 0xC00000FFFFFFFFFC#64) = true ↔ bit v 62 = false ∧ field v 39 32 ≠ 0 := by
  have hb : bit (v &&& 0xC00000FFFFFFFFFC#64) 62 = bit v 62 := by
    simp only [bit, BitVec.getLsbD_and]
    rw [show (0xC00000FFFFFFFFFC#64).getLsbD 62 = true from by decide, Bool.and_true]
  have hf : field (v &&& 0xC00000FFFFFFFFFC#64) 39 32 = field v 39 32 := by
    simp only [field, BitVec.extractLsb'_and]
    rw [show (0xC00000FFFFFFFFFC#64).extractLsb' 32 (39 - 32 + 1) = BitVec.allOnes 8 from by decide, BitVec.and_allOnes]
  simp [brkBad, hb, hf]

/-- A breakpoint written whole by debug (R432). -/
theorem breakpoint_written (h : s.debugScope = 2) (b : Fin 8) (v : BitVec 64) :
    (bit v 62 = true ∨ field v 39 32 = 0 → exec (.registerWrite (regAt (0x110000 + 8 * b.val)) v true) s =
      .next { s.newStep with dbg := { s.dbg with brk := vset s.dbg.brk b (v &&& 0xC00000FFFFFFFFFC#64) } })
    ∧ (bit v 62 = false → field v 39 32 ≠ 0 → exec (.registerWrite (regAt (0x110000 + 8 * b.val)) v true) s = .next (s.newStep.report .config)) := by
  have hb := b.isLt
  have e : s.newStep.regWriteWhole (0x110000 + 8 * b.val) v true = if brkBad (v &&& 0xC00000FFFFFFFFFC#64) then s.newStep.report .config
      else { s.newStep with dbg := { s.dbg with brk := vset s.dbg.brk b (v &&& 0xC00000FFFFFFFFFC#64) } } := by
    have hc : (true && decide (0x110000 ≤ 0x110000 + 8 * b.val) && decide (0x110000 + 8 * b.val < 0x110040)) = true := by
      simp only [Bool.true_and, Bool.and_eq_true, decide_eq_true_eq]
      omega
    have hw : wide (0x110000 + 8 * b.val) = true := (wide_iff _).2 (by omega)
    rw [State.regWriteWhole, hw, if_neg (by decide), if_pos hc, State.regBad_eq_report (o := 0x110000 + 8 * b.val) (by omega),
      finOf_eq_of_mod (i := b) (by omega)]
    rfl
  rw [exec_registerWrite_ownRegs h (by omega) (by omega), e]
  refine ⟨fun hv => congrArg _ (if_neg ?_), fun h62 hf => congrArg _ (if_pos ((brkBad_masked v).2 ⟨h62, hf⟩))⟩
  rw [brkBad_masked]
  rintro ⟨h62, hf⟩
  rcases hv with hv | hv
  · exact Bool.false_ne_true (h62.symm.trans hv)
  · exact hf hv

theorem State.dbgWrite_wptAddr (m : Fin 4) (hi : Bool) (w : Word) :
    s.dbgWrite (0x110040 + 16 * m.val + halfOffset hi) w = .ok { s with dbg := { s.dbg with
      wptAddr := vset s.dbg.wptAddr m (setHalf (vget s.dbg.wptAddr m) hi (w &&& if hi then 0xFF#32 else 0xFFFFFFFF#32)) } } := by
  have hm := m.isLt
  have hh := halfOffset_le hi
  simp only [State.dbgWrite, Bool.and_eq_true, decide_eq_true_eq]
  rw [if_neg (by omega), if_pos (by omega), finOf_eq_of_mod (i := m) (by omega)]
  cases hi with
  | false => rw [if_pos (by rw [halfOffset_false]; omega)]
  | true =>
    rw [if_neg (by rw [halfOffset_true]; omega), if_pos (by rw [halfOffset_true]; omega)]
    rfl

theorem State.dbgWrite_wptCtrl (m : Fin 4) (w : Word) : s.dbgWrite (0x110048 + 16 * m.val) w =
    if field w 29 28 = 0 ∨ 16 < field w 4 0 then .bad
    else .ok { s with dbg := { s.dbg with wptCtrl := vset s.dbg.wptCtrl m (w &&& 0xF000001F#32) } } := by
  have hm := m.isLt
  simp only [State.dbgWrite, Bool.and_eq_true, Bool.or_eq_true, decide_eq_true_eq]
  rw [if_neg (by omega), if_pos (by omega), if_neg (by omega), if_neg (by omega), if_pos (by omega), finOf_eq_of_mod (i := m) (by omega)]

/-- What debug's write of one word of its own registers comes to. -/
theorem State.regWrite_byDebug {o : Nat} (ho : 0x110000 ≤ o ∧ o < 0x120000) (w : Word) : s.regWrite o w true = s.wrote (s.dbgWrite o w) := by
  rw [State.regWrite, State.regWriteEnd_dbg ho, if_pos rfl]
  cases s.dbgWrite o w with
  | ok t => rfl
  | bad => exact State.regBad_eq_report (by omega) true
  | none => rfl

/-- The address of a watchpoint (R432). -/
theorem watchpointAddr_written (h : s.debugScope = 2) (m : Fin 4) (v : BitVec 64) :
    exec (.registerWrite (regAt (0x110040 + 16 * m.val)) v true) s =
      .next { s.newStep with dbg := { s.dbg with wptAddr := vset s.dbg.wptAddr m (v &&& 0xFFFFFFFFFF#64) } } := by
  have hm := m.isLt
  have lo := fun (u : State) w => State.dbgWrite_wptAddr (s := u) m false w
  have hi := fun (u : State) w => State.dbgWrite_wptAddr (s := u) m true w
  simp only [halfOffset_false, halfOffset_true, Bool.false_eq_true, if_false, if_true, Nat.add_zero] at lo hi
  rw [exec_registerWrite_ownRegs h (by omega) (by omega), State.regWriteWhole_wide ((wide_iff _).2 (by omega)) _ _ (.inr (.inr (by omega))),
    State.regWrite_byDebug (by omega), State.regWrite_byDebug (by omega)]
  simp only [lo, hi, State.wrote_ok, vget_vset_self, vset_vset, setHalf_masked _ v 0xFFFFFFFFFF#64 (a := 0xFFFFFFFF#32) (b := 0xFF#32) rfl rfl]
  rfl

/-- The control of a watchpoint (R432). -/
theorem watchpointCtrl_written (h : s.debugScope = 2) (m : Fin 4) (w : Word) :
    (field w 29 28 = 0 ∨ 16 < field w 4 0 → exec (.registerWrite (regAt (0x110048 + 16 * m.val)) (w.setWidth 64) true) s =
      .next (s.newStep.report .config))
    ∧ (field w 29 28 ≠ 0 → field w 4 0 ≤ 16 → exec (.registerWrite (regAt (0x110048 + 16 * m.val)) (w.setWidth 64) true) s =
      .next { s.newStep with dbg := { s.dbg with wptCtrl := vset s.dbg.wptCtrl m (w &&& 0xF000001F#32) } }) := by
  have hm := m.isLt
  rw [exec_registerWrite_ownRegs h (by omega) (by omega), State.regWriteWhole_word (wide_eq_false (by omega)), half_setWidth_low,
    State.regWrite_byDebug (by omega), State.dbgWrite_wptCtrl]
  refine ⟨fun hw => by rw [if_pos hw]; rfl, fun h1 h2 => ?_⟩
  rw [if_neg (not_or.2 ⟨h1, by omega⟩)]
  rfl

end Sys2Proof.Machine
end

section
/-! The obligation, assembled from the rules above. -/

namespace Sys2Proof.Machine

/-- Settles O40: a doorbell rings the slots that the host owned, one after the other, and a register write comes to the rule of the unit whose register
it is. -/
theorem doorbellsAndRegisterWrites : Obligations.DoorbellsAndRegisterWrites := by
  unfold Obligations.DoorbellsAndRegisterWrites
  intro s slot mask a v w c r k e q p l d o n b m
  refine ⟨doorbell_waits_while_halted mask, ?served, fun hp => exec_registerWrite_off hp a v false,
    fun hp hh => exec_registerWrite_halted hp hh a v, fun hp hh ho hm h1 h2 => tickPer_watched ⟨hp, hh⟩ ho hm h1 h2 w, ?firmware,
    fun hp hs => debug_denied hp hs a v, ?debug⟩
  case served =>
    rintro hp hh hr rfl
    exact doorbell_is_served slot hp hh hr
  case debug =>
    intro hs
    obtain ⟨brk, brkReserved⟩ := breakpoint_written hs b v
    obtain ⟨ctrlReserved, ctrl⟩ := watchpointCtrl_written hs m w
    exact ⟨brk, brkReserved, watchpointAddr_written hs m v, ctrlReserved, ctrl⟩
  case firmware =>
    intro hp hh hu
    have h : s.FirmwareWrites := ⟨⟨hp, hh⟩, hu⟩
    have ctx := ctxReg_written h c r w
    have cart := cartCtrl_written h q w
    obtain ⟨ratioReserved, ratio⟩ := tickRatio_written h w
    obtain ⟨predReserved, pred⟩ := tickPred_written h w
    obtain ⟨encReserved, enc⟩ := encCfg_written h e w
    obtain ⟨syncReserved, sync⟩ := syncCfg_written h w
    obtain ⟨chgReserved, chg⟩ := chgCfg_written h w
    obtain ⟨pllbReserved, pllb⟩ := pllbCfg_written h w
    refine ⟨fun ha hd hpo => hbmWord_written h ha hd hpo v, unreached_kept h v,
      fun h1 h2 => ctx.trans (congrArg _ (State.ctxRegWrite_open (s := s.newStep) h1 h2 r w)),
      fun hl => ctx.trans (congrArg _ (State.ctxRegWrite_locked (s := s.newStep) hl r w)),
      tickCfg_written h w, ratioReserved, fun hw => ratio (by omega), tickPer_written h w, predReserved, pred,
      encReserved, fun h1 h2 => enc (not_or.2 ⟨h1, by omega⟩), syncReserved, fun h1 h2 => sync (not_or.2 ⟨by omega, h2⟩),
      syncGeo_written h w, jobCfg_written h w, kernEntry_written h k v, asBase_written h k v, tlbInvVa_written h v, fltTail_written h w,
      fun ha hr => cart.trans (congrArg _ (State.cartCtrlWrite_owner ha hr q)),
      fun ha hr => cart.trans (congrArg _ (State.cartCtrlWrite_resume ha hr q)),
      fun ha => cart.trans (congrArg _ (State.cartCtrlWrite_abort ha q)), ?ports, ?lanes, chgReserved, fun hw => chg (by omega),
      fun ho => pllaOut_free_written h ho w, fun ho hb he hw => pllaOut_biased_written h ho hb he hw,
      pllbReserved, fun h1 h2 => pllb (not_or.2 ⟨h1, by omega⟩), pllbProf_written h k w, portPll_written h p w, band_written h o n w,
      fun i h1 h2 => periph_written h i h1 h2 w, wordWritten_wdt h (by decide) rfl w, wordWritten_wdt h (by decide) rfl w,
      wordWritten_wdt h (by decide) rfl w, wordWritten_wdt h (by decide) rfl w, breakpoint_kept h b v, watchpointCtrl_kept h m w⟩
    case ports =>
      intro hport
      obtain ⟨cfgReserved, cfg⟩ := portCfg_written h hport w
      obtain ⟨sealReserved, stored⟩ := sealCfg_written h hport w
      exact ⟨cfgReserved, fun hw => cfg (by omega), sealReserved, fun h1 h2 => stored (by omega)⟩
    case lanes =>
      intro hs
      obtain ⟨laneReserved, lane⟩ := laneTx_written h hs l w
      exact ⟨laneReserved, lane, streamCfg_reserved_written h d, streamCfg_disabled_written h hs,
        streamCfg_enabled_written h hs⟩

end Sys2Proof.Machine
end

section
/-! Side effects: what the fault summary, the logs, the bays' next jobs and the end of MAINT leave of the units that a transition between modes speaks
of, and what an answer leaves of them (R95, R96, R265, R307, R401). -/

namespace Sys2Proof.Machine

/-- From `s` to `u` the mode, the array and the tick source become `m`, `x` and `k`; the clocks, the timebase and memory stay. -/
structure State.Moved (s u : State) (m : ModeState) (x : Sensor) (k : TickSource) : Prop where
  mode : u.mode = m := by rfl
  sensor : u.sensor = x := by rfl
  tick : u.tick = k := by rfl
  clk : u.clk = s.clk := by rfl
  tb : u.tb = s.tb := by rfl
  tbRun : u.tbRun = s.tbRun := by rfl
  mem : u.mem = s.mem := by rfl

/-- Debug and the bytes of the host window stay too. -/
structure State.MovedSilently (s u : State) (m : ModeState) (x : Sensor) (k : TickSource) : Prop extends State.Moved s u m x k where
  dbg : u.dbg = s.dbg := by rfl
  bytes : u.host.bytes = s.host.bytes := by rfl

/-- The mode, the array and the tick source stay too: what changes is a side effect. -/
abbrev State.SideEffect (s u : State) : Prop := s.MovedSilently u s.mode s.sensor s.tick

variable {s t u : State} {m : ModeState} {x : Sensor} {k : TickSource}

theorem State.Moved.trans (h : s.Moved t m x k) (e : t.Moved u t.mode t.sensor t.tick) : s.Moved u m x k where
  mode := e.mode.trans h.mode
  sensor := e.sensor.trans h.sensor
  tick := e.tick.trans h.tick
  clk := e.clk.trans h.clk
  tb := e.tb.trans h.tb
  tbRun := e.tbRun.trans h.tbRun
  mem := e.mem.trans h.mem

theorem State.MovedSilently.trans (h : s.MovedSilently t m x k) (e : t.SideEffect u) : s.MovedSilently u m x k where
  toMoved := h.toMoved.trans e.toMoved
  dbg := e.dbg.trans h.dbg
  bytes := e.bytes.trans h.bytes

theorem State.MovedSilently.ite {c : Prop} [Decidable c] (h : s.MovedSilently t m x k) (h' : s.MovedSilently u m x k) :
    s.MovedSilently (if c then t else u) m x k := by
  split
  · exact h
  · exact h'

/-- Steps that are side effects, taken one after the other. -/
theorem State.SideEffect.foldl {α : Type} {f : State → α → State} (hf : ∀ (s : State) x, s.SideEffect (f s x)) (xs : List α) (s : State) :
    s.SideEffect (xs.foldl f s) := by
  induction xs generalizing s with
  | nil => exact {}
  | cons x xs ih => exact (hf s x).trans (ih _)

theorem State.noteRise_sideEffect (s : State) (k : FltClass) : s.SideEffect (s.noteRise k) where
  bytes := by unfold State.noteRise; dsimp only; split <;> rfl

theorem State.level_sideEffect (s : State) (k : FltClass) (on : Bool) : s.SideEffect (s.level k on) :=
  .ite (.trans {} (State.noteRise_sideEffect _ k)) {}

theorem State.setStale_sideEffect (s : State) (n : Nat) (b : Bool) : s.SideEffect (s.setStale n b) :=
  .trans {} (State.level_sideEffect _ .chore _)

theorem State.noteLog_sideEffect (s : State) : s.SideEffect s.noteLog := .ite (s.setStale_sideEffect 5 true) {}

theorem State.auditSlot_sideEffect (s : State) (slot : Slot) (st : Byte) : s.SideEffect (s.auditSlot slot st) := by
  unfold State.auditSlot
  split
  · exact .trans {} (State.noteLog_sideEffect _)
  · exact {}

theorem State.startNext_sideEffect (s : State) (b : BayIx) : s.SideEffect (s.startNext b) := by
  unfold State.startNext
  dsimp only
  split
  · exact {}
  · split
    · exact {}
    · split
      · exact {}
      · split <;> exact {}

theorem State.releaseBays_sideEffect (s : State) : s.SideEffect s.releaseBays := .foldl State.startNext_sideEffect _ s

theorem State.keepBoard_sideEffect (s : State) : s.SideEffect s.keepBoard := .ite {} {}

theorem State.wdtEnable_sideEffect (s : State) : s.SideEffect s.wdtEnable := .ite {} {}

theorem State.maintLeft_sideEffect (s : State) : s.SideEffect s.maintLeft := s.keepBoard_sideEffect.trans s.keepBoard.wdtEnable_sideEffect

/-- An answer, written or held, leaves what a transition speaks of. -/
theorem State.answer_moved (s : State) (slot : Slot) (st : Byte) (payload : List Byte) : s.Moved (s.answer slot st payload) s.mode s.sensor s.tick := by
  have audited := (s.auditSlot_sideEffect slot st).toMoved
  unfold State.answer State.answerBulk
  split <;> exact audited.trans {}

theorem State.answerTo_moved (s : State) (slot : Option Slot) (st : Byte) (payload : List Byte) :
    s.Moved (s.answerTo slot st payload) s.mode s.sensor s.tick := by
  cases slot with
  | none => exact {}
  | some k => exact s.answer_moved k st payload

/-- A control processor that debug does not halt writes its answers at once (R423). -/
theorem State.answer_running (h : s.dbg.cpHalted = false) (slot : Slot) (st : Byte) (payload : List Byte) :
    s.answer slot st payload = s.writeAnswer slot st payload [] := by
  simp [State.answer, State.answerBulk, h]

/-- An answer puts its status in the slot (R264, R265). -/
theorem HostPort.answer_status {p : HostPort} (h : hostWf p.bytes = true) (slot : Slot) (st : Byte) (payload bulk : List Byte) (tb : Nat) :
    hostGet (p.answer slot st payload bulk tb).bytes (slotAddr slot + 0x0C) = st := by
  have hslot := slot.isLt
  have hlen := hostWf_hostPuts h (slotAddr slot + 0x04) (bytesBe 2 payload.length)
  have hhead := fun xs => hostWf_hostPuts hlen (slotAddr slot + 0x0C) xs
  simp only [HostPort.answer]
  rw [hostGet_hostPuts_of_not_mem (hostWf_hostPuts (hhead _) _ _) (by simp only [slotAddr, bulkAddr]; omega),
    hostGet_hostPuts_of_not_mem (hhead _) (by omega), hostGet_hostPuts hlen, if_pos (Nat.le_refl _), Nat.sub_self]
  rfl

/-- An answer written shows in its slot: STATUS and DONE. -/
theorem State.writeAnswer_shows (h : hostWf s.host.bytes = true) (slot : Slot) (st : Byte) (payload bulk : List Byte) :
    hostGet (s.writeAnswer slot st payload bulk).host.bytes (slotAddr slot + 0x0C) = st
    ∧ bit (s.writeAnswer slot st payload bulk).host.done slot.val = true := by
  have audited := s.auditSlot_sideEffect slot st
  refine ⟨HostPort.answer_status ?_ slot st payload bulk _, ?_⟩
  · show hostWf (s.auditSlot slot st).host.bytes = true
    rw [audited.bytes, h]
  · exact (bit_setBit _ _ _ _ slot.isLt).trans (if_pos rfl)

end Sys2Proof.Machine
end

section
/-! Timed transitions (R92–R96): where each goes, what its end leaves, and when its row ends it. -/

namespace Sys2Proof.Machine

variable {s v : State} {p : Pending} {m : ModeState} {x : Sensor} {k : TickSource}

/-- MODE_STAT once a timed transition has brought its mode: DEEP STANDBY is left unless it is what the transition asks for (R92, R96, R109). -/
def ModeState.arrived (m : ModeState) (p : Pending) : ModeState :=
  { m with deep := m.deep && (p.target = .standby && p.deep), mode := p.target, previous := m.mode, cause := p.cause, role := p.role }

/-- The array in STANDBY (R28, R37). -/
def Sensor.unbiased (x : Sensor) : Sensor := { x with biased := false, shut := true, lastValid := none }

/-- The array biased at TB `tb` (R28, R37, R57). -/
def Sensor.biasedAt (x : Sensor) (tb : Nat) : Sensor :=
  { x with biased := true, biasTb := tb, biasedLt := false, shut := true, ramp := Vector.replicate 2 none,
           settleLeft := Vector.replicate 2 0, lastValid := none }

/-- The mode, the array and the tick source changed each by itself. -/
theorem State.MovedSilently.change (h : s.MovedSilently v m x k) (f : ModeState → ModeState) (g : Sensor → Sensor) (c : TickSource → TickSource) :
    s.MovedSilently { v with mode := f v.mode, sensor := g v.sensor, tick := c v.tick } (f m) (g x) (c k) where
  mode := congrArg f h.mode
  sensor := congrArg g h.sensor
  tick := congrArg c h.tick
  clk := h.clk
  tb := h.tb
  tbRun := h.tbRun
  mem := h.mem
  dbg := h.dbg
  bytes := h.bytes

theorem State.MovedSilently.unbias (h : s.MovedSilently v m x k) : s.MovedSilently v.unbias m x.unbiased k :=
  (h.change id Sensor.unbiased id).trans (State.setStale_sideEffect _ 0 false)

theorem State.MovedSilently.bias (h : s.MovedSilently v m x k) : s.MovedSilently v.bias m (x.biasedAt s.tb) k := by
  rw [← h.tb]
  exact (h.change id (·.biasedAt v.tb) id).trans (State.setStale_sideEffect _ 0 true)

/-- DEEP STANDBY is left, unless `stays` says that it is what is asked for (R92). -/
theorem State.leaveDeep_unless (s : State) (stays : Bool) :
    (if s.mode.deep && !stays then s.leaveDeep else s) = { s with mode := { s.mode with deep := s.mode.deep && stays } } := by
  cases hd : s.mode.deep <;> cases stays <;> simp [State.leaveDeep, ← hd]

/-- The first part of every timed transition: DEEP STANDBY and MAINT are left, and the mode is the target. -/
def State.arrive (s : State) (p : Pending) : State :=
  let u := if s.mode.deep && !(p.target = .standby && p.deep) then s.leaveDeep else s
  State.setMode (if u.mode.mode = .maint && p.target ≠ .maint then u.maintLeft else u) p.target p.cause p.role

theorem State.arrive_moved (s : State) (p : Pending) : s.MovedSilently (s.arrive p) (s.mode.arrived p) s.sensor s.tick := by
  let u : State := { s with mode := { s.mode with deep := s.mode.deep && (p.target = .standby && p.deep) } }
  have maint : u.SideEffect (if u.mode.mode = .maint && p.target ≠ .maint then u.maintLeft else u) := .ite u.maintLeft_sideEffect {}
  unfold State.arrive
  rw [State.leaveDeep_unless]
  exact { maint with mode := congrArg (fun m => { m with mode := p.target, previous := m.mode, cause := p.cause, role := p.role }) maint.mode }

/-- The bays go on where MAINT was left. -/
theorem State.MovedSilently.bays (h : s.MovedSilently v m x k) (c : Prop) [Decidable c] :
    s.MovedSilently (if c then v.releaseBays else v) m x k :=
  h.trans (.ite v.releaseBays_sideEffect {})

/-- STANDBY unbiases the array and stops the tick source (R94, R95). -/
theorem State.reach96_standby (h : p.target = .standby) :
    s.MovedSilently (s.reach96 p) { s.mode.arrived p with owner := none, stopTicks := false } s.sensor.unbiased s.tick.clear := by
  have arrived := s.arrive_moved p
  rw [← arrived.tick]
  have stopped := arrived.unbias.change (fun m => { m with owner := none, stopTicks := false }) id fun _ => (s.arrive p).tick.clear
  cases p
  subst h
  exact stopped.bays _

/-- Biased for READY, where it is not biased already. -/
theorem State.MovedSilently.biased (h : s.MovedSilently v m s.sensor k) :
    s.MovedSilently (if v.sensor.biased then v else v.bias) m (if s.sensor.biased then s.sensor else s.sensor.biasedAt s.tb) k := by
  rw [h.sensor]
  split
  · exact h
  · exact h.bias

/-- Ticks may be committed again from TB `tb` on, where PLL-A allows them (R122, R358). -/
def TickSource.resumed (x : TickSource) (clk : Clocks) (tb : Nat) : TickSource :=
  { x with allowed := if clk.ticksAllowed then some tb else none, perLast := none }

theorem State.MovedSilently.resumeTicks (h : s.MovedSilently v m x k) :
    s.MovedSilently v.resumeTicks { m with stopTicks := false } x (k.resumed s.clk s.tb) := by
  rw [← h.clk, ← h.tb]
  exact h.change (fun m => { m with stopTicks := false }) id (·.resumed v.clk v.tb)

/-- READY biases the array where it is not biased, and lets ticks go on (R96, R122). -/
theorem State.reach96_ready (h : p.target = .ready) :
    s.MovedSilently (s.reach96 p) { s.mode.arrived p with owner := none, nextLead := some p.ctx, stopTicks := false }
      (if s.sensor.biased then s.sensor else s.sensor.biasedAt s.tb) (s.tick.resumed s.clk s.tb) := by
  have resumed := ((s.arrive_moved p).biased.change (fun m => { m with owner := none, nextLead := some p.ctx }) id id).resumeTicks
  cases p
  subst h
  exact resumed.bays _

/-- MAINT is not left at once while the session that asked for it lives (R95). -/
theorem State.MovedSilently.stays (h : s.MovedSilently v m x k) (hl : m.leaving = false) :
    s.MovedSilently (if v.mode.leaving then v.ownerGone else v) m x k := by
  rw [h.mode, hl]
  exact h

/-- MAINT stops the tick source, and its owner is the session that asked (R95). -/
theorem State.reach96_maint (h : p.target = .maint) (hl : s.mode.leaving = false) :
    s.MovedSilently (s.reach96 p) { s.mode.arrived p with owner := p.slot, stopTicks := false } s.sensor s.tick.clear := by
  have stopped := (s.arrive_moved p).change (fun m => { m with owner := p.slot, stopTicks := false }) id TickSource.clear
  cases p
  subst h
  exact stopped.stays hl

/-- What a timed transition to STANDBY, READY or MAINT brings (R91, R94–R96, R109). -/
structure Pending.Brings (p : Pending) (m : ModeState) (x : Sensor) (k : TickSource) : Prop where
  mode : m.mode = p.target
  cause : m.cause = p.cause
  role : m.role = p.role
  ready : p.target = .ready → x.biased = true ∧ m.nextLead = some p.ctx ∧ m.owner = none
  standby : p.target = .standby → x.biased = false ∧ k.due = []
  maint : p.target = .maint → m.owner = p.slot ∧ k.due = []

theorem State.reach96_brings (h : p.target = .standby ∨ p.target = .ready ∨ (p.target = .maint ∧ s.mode.leaving = false)) :
    ∃ m x k, s.MovedSilently (s.reach96 p) m x k ∧ p.Brings m x k := by
  rcases h with h | h | ⟨h, hl⟩
  · exact ⟨_, _, _, State.reach96_standby h, rfl, rfl, rfl, by simp [h], fun _ => ⟨rfl, rfl⟩, by simp [h]⟩
  · have biased : (if s.sensor.biased then s.sensor else s.sensor.biasedAt s.tb).biased = true := by
      split
      · assumption
      · rfl
    exact ⟨_, _, _, State.reach96_ready h, rfl, rfl, rfl, fun _ => ⟨biased, rfl, rfl⟩, by simp [h], by simp [h]⟩
  · exact ⟨_, _, _, State.reach96_maint h hl, rfl, rfl, rfl, by simp [h], by simp [h], fun _ => ⟨rfl, rfl⟩⟩

/-- The end of a timed transition that asks for nothing more: no transition is pending, and its command answers. -/
theorem State.timedDone_whole (h : p.deep = false) : s.timedDone p = ((s.reach96 p).setPending none).modeOk p (p.fullyDone.getD 0) := by
  simp [State.timedDone, h]

/-- The mode that a timed transition brings stands when its command has been answered. -/
theorem State.MovedSilently.answered (h : s.MovedSilently v m x k) (p : Pending) (line : Nat) :
    s.Moved ((v.setPending none).modeOk p line) { m with pending := none } x k :=
  (h.change (fun m => { m with pending := none }) id id).toMoved.trans (State.answerTo_moved _ p.slot stOk _)

/-- The slot that waits for a transition shows OK and DONE at its end (R265, R273). -/
theorem State.MovedSilently.answer_shows (h : s.MovedSilently v m x k) {slot : Slot} (hs : p.slot = some slot) (hh : s.dbg.cpHalted = false)
    (hw : hostWf s.host.bytes = true) (line : Nat) :
    hostGet ((v.setPending none).modeOk p line).host.bytes (slotAddr slot + 0x0C) = 0
    ∧ bit ((v.setPending none).modeOk p line).host.done slot.val = true := by
  have running : (v.setPending none).dbg.cpHalted = false := by rw [State.setPending_dbg, h.dbg, hh]
  have bytes : hostWf (v.setPending none).host.bytes = true := by rw [State.setPending_host, h.bytes, hw]
  rw [State.modeOk, hs, State.answerTo, State.answer_running running]
  exact State.writeAnswer_shows bytes slot stOk _ []

/-- DEEP STANDBY, from STANDBY (R92, R96). -/
theorem State.timedDone_deep (ht : p.target = .standby) (hp : p.deep = true) (hm : s.mode.mode = .standby) (hd : s.mode.deep = false) :
    s.timedDone p = ((s.enterDeep.setMode .standby p.cause p.role).setPending none).modeOk p (p.fullyDone.getD 0) := by
  simp [State.timedDone, ht, hp, hm, hd]

/-- Time that passes moves the timebase alone (R112). -/
theorem State.atTb_eq (s : State) (t : Nat) : ∃ tb, s.atTb t = { s with tb := tb } := by
  unfold State.atTb
  split
  · exact ⟨_, rfl⟩
  · split <;> exact ⟨_, rfl⟩

/-- Whether a timed transition can end depends neither on the timebase nor on the messages of the step. -/
theorem State.timedReady_newStep_atTb (s : State) (t : Nat) (p : Pending) : (s.atTb t).newStep.timedReady p = s.timedReady p := by
  obtain ⟨tb, e⟩ := s.atTb_eq t
  rw [e]
  rfl

end Sys2Proof.Machine
end

section
/-! The rows that end what waits (R37, R50, R92, R96, R98, R139, R275, R323, R328). -/

namespace Sys2Proof.Machine

variable {s : State} {p : Pending}

/-- While the control processor is halted no timed transition ends (R426). -/
theorem exec_modeTransitionDone_halted (h : s.dbg.cpHalted = true) (t : Nat) : exec (.modeTransitionDone t) s = .next (s.atTb t).newStep := by
  have halted : (s.atTb t).newStep.dbg.cpHalted = true := (congrArg Debug.cpHalted (s.atTb_dbg t)).trans h
  simp only [exec_modeTransitionDone, execModeTransitionDone]
  split
  · rfl
  · rw [halted]
    simp

/-- A timed transition that can end does so (R96). -/
theorem exec_modeTransitionDone_ready (hp : s.mode.pending = some p) (ht : p.phase = .timed) (hr : s.timedReady p = true)
    (hh : s.dbg.cpHalted = false) (hs : s.sync.switch = none) (t : Nat) :
    exec (.modeTransitionDone t) s = .next ((s.atTb t).newStep.timedDone p) := by
  have pending : (s.atTb t).newStep.mode.pending = some p := (congrArg ModeState.pending (s.atTb_mode t)).trans hp
  have running : (s.atTb t).newStep.dbg.cpHalted = false := (congrArg Debug.cpHalted (s.atTb_dbg t)).trans hh
  have single : (s.atTb t).newStep.sync.switch = none := (congrArg SyncLink.switch (s.atTb_sync t)).trans hs
  simp only [exec_modeTransitionDone, execModeTransitionDone, pending, ht, running, State.timedReady_newStep_atTb, hr, State.finishTimed, single]
  rfl

/-- An entry that no tick has served for 10 s times out (R98). -/
theorem exec_modeSetTimeout_due {st : Nat} {slot : Slot} {t : Nat} (hp : s.mode.pending = some p) (he : p.phase = .enter st)
    (ht : p.since + 10000000000 ≤ (s.atTb t).tb) (hn : s.sensor.anyTick = false ∨ s.sensor.lastTb ≤ p.since) (hs : p.slot = some slot)
    (hh : s.dbg.cpHalted = false) (hw : s.sync.switch = none) :
    exec (.modeSetTimeout t) s = .next (((s.atTb t).setPending none).writeAnswer slot 7 [] []) := by
  have single : (s.atTb t).cancelSwitch = s.atTb t := by simp only [State.cancelSwitch, s.atTb_sync, hw]
  have running : ((s.atTb t).setPending none).dbg.cpHalted = false := by simp [hh]
  have unserved : (!s.sensor.anyTick || decide (s.sensor.lastTb ≤ p.since)) = true := by simpa using hn
  simp [exec_modeSetTimeout, execModeSetTimeout, hp, he, ht, unserved, single, hs, State.answerTo,
    State.answer_running running, stTimeout]

/-- An entry whose context a tick has served does not (R98). -/
theorem exec_modeSetTimeout_served {st : Nat} (hp : s.mode.pending = some p) (he : p.phase = .enter st) (hl : p.since < s.sensor.lastTb)
    (ha : s.sensor.anyTick = true) (t : Nat) : exec (.modeSetTimeout t) s = .next (s.atTb t) := by
  simp [exec_modeSetTimeout, execModeSetTimeout, hp, he, ha, Nat.not_le_of_lt hl]

/-- A command that waits for a lock of its context ends when the lock outlasts 1 ms (R139). -/
theorem exec_ctxLockTimeout_locked {slot : Slot} {c : CtxIx} {w : CtxWork} (hw : vget s.host.waits slot = some (.ctxLocked c w))
    (hh : s.dbg.cpHalted = false) : exec (.ctxLockTimeout slot) s = .next (s.writeAnswer slot 6 [] []) := by
  simp only [exec_ctxLockTimeout, execCtxLockTimeout, hw, State.answer_running hh]
  rfl

/-- A capture that ends while its command waits answers with the lines it took (R275). -/
theorem State.endCapture_waiting {c : Capture} (hw : vget s.host.waits c.slot = some .calCapture) (hh : s.dbg.cpHalted = false) (st : Byte) :
    s.endCapture c st = State.writeAnswer { s with cap := none } c.slot st (bytesBe 4 c.done_) [] := by
  simp only [State.endCapture, hw, if_true]
  exact State.answer_running (s := { s with cap := none }) hh _ _ _

theorem exec_calCaptureDone_written {c : Capture} (hc : s.cap = some c) (hw : vget s.host.waits c.slot = some .calCapture)
    (hh : s.dbg.cpHalted = false) (hl : c.lines ≤ c.done_) :
    exec .calCaptureDone s = .next (State.writeAnswer { s with cap := none } c.slot 0 (bytesBe 4 c.done_) []) := by
  simp only [exec_calCaptureDone, execCalCaptureDone, hc, if_pos hl, State.endCapture_waiting hw hh]
  rfl

theorem exec_calCaptureTimeout_due {c : Capture} {t : Nat} (hc : s.cap = some c) (hw : vget s.host.waits c.slot = some .calCapture)
    (hh : s.dbg.cpHalted = false) (hl : c.done_ < c.lines) (ht : Nat.max c.since s.sensor.lastTb + 10000000000 ≤ (s.atTb t).tb) :
    exec (.calCaptureTimeout t) s = .next (State.writeAnswer { s.atTb t with cap := none } c.slot 7 (bytesBe 4 c.done_) []) := by
  have waits : vget (s.atTb t).host.waits c.slot = some .calCapture := by rw [s.atTb_host, hw]
  have running : (s.atTb t).dbg.cpHalted = false := by rw [s.atTb_dbg, hh]
  simp only [exec_calCaptureTimeout, execCalCaptureTimeout, s.atTb_cap, hc, s.atTb_sensor, hl, ht, decide_true, Bool.and_self, if_true,
    State.endCapture_waiting waits running]
  rfl

/-- A load of the shadow map ends (R50, R60). -/
theorem exec_mapShadowLoadDone_loading (hl : s.sensor.loading = true) (hd : s.hbmDown = false) (hp : s.host.phase ≠ 0) (us : BitVec 16) :
    exec (.mapShadowLoadDone us) s = .next { s with sensor := { s.sensor with loading := false, shadowValid := true, loadUs := us } } := by
  have up : s.hubUp = true := decide_eq_true hp
  simp [exec_mapShadowLoadDone, execMapShadowLoadDone, up, hl, hd]

/-- The shutter gate closes 65,536 ns after the last LT (R37). -/
theorem exec_shutterTimeout_due {t : Nat} (hb : s.sensor.biased = true) (hl : s.sensor.biasedLt = true) (ht : s.sensor.lastTb + 65536 ≤ (s.atTb t).tb) :
    exec (.shutterTimeout t) s = .next { s.atTb t with sensor := { s.sensor with shut := true } } := by
  simp [exec_shutterTimeout, execShutterTimeout, hb, hl, ht]

/-- A stored context whose commit was held goes to MRAM, and is held no more (R328). -/
theorem exec_nvmDeferredWrite_storedCtx {k : Fin 64} (h : NvItem.storedCtx k ∈ s.nvm.dirty) :
    exec (.nvmDeferredWrite (.storedCtx k)) s = .next { s with nvm := { s.nvm with
      storedCopy := vset s.nvm.storedCopy k (vget s.nvm.stored k), dirty := s.nvm.dirty.filter (· ≠ .storedCtx k) } } := by
  simp only [exec_nvmDeferredWrite, execNvmDeferredWrite, List.contains_iff_mem.2 h, if_true]
  rfl

end Sys2Proof.Machine
end

section
/-! The obligation, assembled from the rules above. -/

namespace Sys2Proof.Machine

/-- Settles O53: a timed transition goes to its destination but for side effects, which the answer of its command leaves; each other end is the rule of
its row. -/
theorem modeAndCaptureEventsComplete : Obligations.ModeAndCaptureEventsComplete := by
  unfold Obligations.ModeAndCaptureEventsComplete
  intro s t p slot us c k st w x y
  have now : y.newStep.mode = s.mode ∧ y.newStep.mem = s.mem ∧ y.newStep.dbg = s.dbg ∧ y.newStep.host = s.host :=
    ⟨s.atTb_mode t, s.atTb_mem t, s.atTb_dbg t, s.atTb_host t⟩
  obtain ⟨mode, mem, dbg, host⟩ := now
  refine ⟨fun hh => exec_modeTransitionDone_halted hh t, ?timed, ?deep,
    fun hp he ht hn hs hh hw => exec_modeSetTimeout_due hp he ht hn hs hh hw, fun hp he hl ha => exec_modeSetTimeout_served hp he hl ha t,
    fun hw hh => exec_ctxLockTimeout_locked hw hh,
    fun hc hw hh => ⟨exec_calCaptureDone_written hc hw hh, exec_calCaptureTimeout_due hc hw hh⟩,
    fun hl hd hp => exec_mapShadowLoadDone_loading hl hd hp us, exec_shutterTimeout_due,
    fun hk => ⟨_, exec_nvmDeferredWrite_storedCtx hk, fun i => by simp⟩⟩
  case timed =>
    intro hp ht hr hd hs hh htarget
    obtain ⟨m, a, q, moved, brings⟩ := State.reach96_brings (s := y.newStep) (p := p) (by rw [mode]; exact htarget)
    have done := moved.answered p (p.fullyDone.getD 0)
    refine ⟨_, (exec_modeTransitionDone_ready hp ht hr hh hs t).trans (by rw [State.timedDone_whole hd]), ?_⟩
    rw [done.mode, done.sensor, done.tick, done.mem, mem]
    exact ⟨brings.mode, rfl, brings.cause, brings.role, rfl, brings.ready, brings.standby, brings.maint,
      fun hslot hwf => moved.answer_shows hslot (by rw [dbg, hh]) (by rw [host, hwf]) _⟩
  case deep =>
    intro hp ht hr htarget hdeep hm hd hs hh
    have done := State.answerTo_moved ((y.newStep.enterDeep.setMode .standby p.cause p.role).setPending none) p.slot stOk
      (bytesBe 6 (p.fullyDone.getD 0))
    refine ⟨_, (exec_modeTransitionDone_ready hp ht hr hh hs t).trans
      (by rw [State.timedDone_deep htarget hdeep (by rw [mode, hm]) (by rw [mode, hd]), State.modeOk]), ?_⟩
    rw [done.mode, done.tbRun, done.clk]
    exact ⟨rfl, rfl, rfl, rfl, vget_vset_self _ _ _⟩

end Sys2Proof.Machine
end

section
/-! MODE_SET, CAL_CAPTURE and CAL_STATUS once admitted (R96, R97, R266, R273, R275). -/

namespace Sys2Proof.Machine

variable {s : State} {slot : Slot} {mode ctx opts : Byte} {m : Mode} {mv : Move}

/-- BOOT is no mode from which a transition is listed (R96). -/
theorem moveOf_boot (deepNow same : Bool) (m : Mode) (deep : Bool) : moveOf .boot deepNow same m deep = none := by
  cases m <;> rfl

/-- A mode from which a request names a transition is one of the command tables. -/
theorem State.allModes_of_moveNamed (h : s.moveNamed mode ctx opts = some (m, mv)) : allModes s.mode.mode = true := by
  refine decide_eq_true fun boot => ?_
  unfold State.moveNamed at h
  split at h
  · cases h
  · rw [boot, moveOf_boot] at h
    cases h

/-- Steps 5 and 6 of R266 let a listed transition pass. -/
theorem State.modeEarly_none {ses : Option Session} (hr : s.moveRole (decide (mode = 7)) slot ses = true) (hp : s.mode.pending = none)
    (hl : s.lockedFollower = false) (hn : s.moveNamed mode ctx opts = some (m, mv)) : s.modeEarly slot mode ctx opts ses = none := by
  simp only [State.modeEarly, hr, hp, hl, hn, Bool.not_true, Option.isSome_none, Option.isNone_some, Bool.or_self, Bool.and_false,
    Bool.false_eq_true, if_false]

/-- Nothing keeps a move from beginning whose shadow set is free, with PLL-A locked once and the rails in limits where it needs them (R50, R358, R437). -/
theorem State.moveHeld_none {c : CtxIx} (hc : appliesCtx mv m = true → s.shadowHeld (cMapSet (s.comingHalf c)) = false)
    (hl : m ≠ .standby → m ≠ .maint → s.clk.lockedOnce = true) (hr : m = .ready → s.railsBad = false) : s.moveHeld mv m c = none := by
  unfold State.moveHeld
  rw [if_neg, if_neg, if_neg]
  · rw [Bool.and_eq_true, decide_eq_true_eq]
    exact fun ⟨ready, bad⟩ => by simp [hr ready] at bad
  · simp only [Bool.and_eq_true, decide_eq_true_eq]
    exact fun ⟨⟨standby, maint⟩, unlocked⟩ => by simp [hl standby maint] at unlocked
  · rw [Bool.and_eq_true]
    exact fun ⟨applies, held⟩ => by simp [hc applies] at held

section
variable {h : CmdHeader} {start : BitVec 48} {x : Session} (he : s.modeEarly slot mode ctx opts (some x) = none)
  (hn : s.moveNamed mode ctx opts = some (m, mv)) (ho : opts.toNat < 2)
  (hb : s.moveParamBad mv m ctx.toNat (bit opts 0) (bit h.flags 0) start.toNat = false)
include he hn ho hb

/-- A request for what already is answers OK with START 0 (R97). -/
theorem modeSetRun_now (hm : mv = .now) : modeSetRun slot h mode ctx opts start (some x) s = .done 0 (bytesBe 6 0) [] s := by
  have listed : ¬ 2 ≤ opts.toNat := by omega
  simp only [modeSetRun, he, hn, listed, hb, decide_false, Bool.or_false, Bool.false_eq_true, if_false, if_pos hm]
  rfl

/-- A request for a transition that nothing holds begins it and waits (R96–R101). -/
theorem modeSetRun_waits (hm : mv ≠ .now) (hf : s.moveHeld mv m (finOf 16 ctx.toNat) = none) :
    modeSetRun slot h mode ctx opts start (some x) s =
      .wait .modeSet (s.beginMove mv m (finOf 16 ctx.toNat) (bit opts 0) (bit h.flags 0) start.toNat (some slot) x.role) := by
  have listed : ¬ 2 ≤ opts.toNat := by omega
  simp only [modeSetRun, he, hn, listed, hb, hm, hf, decide_false, Bool.or_false, Bool.false_eq_true, if_false]
end

/-- A capture in order, with none running, is kept for its lines; in MAINT it brings the ticks on (R275). -/
theorem calCaptureRun_waits {lines : Word} {pa : BitVec 40} {ses : Option Session} (h1 : 1 ≤ lines.toNat) (h2 : lines.toNat ≤ 65536)
    (ha : pa.toNat % 64 = 0) (he : pa.toNat + 98688 * lines.toNat ≤ 0x400000000) (hc : s.cap = none) :
    calCaptureRun slot lines pa ses s = .wait .calCapture
      { s with cap := some { slot := slot, lines := lines.toNat, done_ := 0, pa := pa, since := s.tb },
               tick := if s.mode.mode = .maint ∧ s.clk.ticksAllowed = true then { s.tick with allowed := some s.tb } else s.tick } := by
  have some_ : lines ≠ 0 := fun e => by simp [e] at h1
  have few : ¬ 65536 < lines.toNat := by omega
  have inHbm : ¬ hbmEnd < pa.toNat + 98688 * lines.toNat := by unfold hbmEnd; omega
  simp only [calCaptureRun, some_, few, ha, inHbm, hc, ne_eq, not_true_eq_false, decide_false, Bool.or_false, Bool.false_eq_true, if_false,
    Option.isSome_none, Bool.and_eq_true, decide_eq_true_eq]
  split <;> rfl

/-- The characterisation of a yard's two groups is read (R62, R275). -/
theorem calStatusRun_reads {yard : Byte} {ses : Option Session} (hy : yard.toNat < 8) :
    let i (g : Nat) : Fin 16 := finOf 16 (2 * yard.toNat + g)
    calStatusRun yard ses s = .done 0 (bytesBe 4 (s.rcharOfs (i 0)).toNat ++ bytesBe 4 (s.rcharGain (i 0)).toNat
      ++ bytesBe 4 (s.rcharOfs (i 1)).toNat ++ bytesBe 4 (s.rcharGain (i 1)).toNat) [] s := by
  have inRange : ¬ 8 ≤ yard.toNat := by omega
  simp [calStatusRun, inRange, ok, stOk]

/-- A command posted on a slot changes none of the units that the mode and capture commands read. -/
theorem State.posted_.units {u : State} (hu : s.posted_ u slot) :
    u.mode = s.mode ∧ u.tb = s.tb ∧ u.cap = s.cap ∧ u.clk = s.clk ∧ u.sensor = s.sensor ∧ u.dbg = s.dbg := by
  obtain ⟨b, a, y, -, -, rfl⟩ := hu
  exact ⟨rfl, rfl, rfl, rfl, rfl, rfl⟩

/-- What a mode request is checked against is the same once its command is posted. -/
theorem State.posted_.request {u : State} (hu : s.posted_ u slot) (c : CtxIx) {ses : Option Session} {n start : Nat} {deep force : Bool} :
    u.modeEarly slot mode ctx opts ses = s.modeEarly slot mode ctx opts ses ∧ u.moveNamed mode ctx opts = s.moveNamed mode ctx opts
    ∧ u.moveParamBad mv m n deep force start = s.moveParamBad mv m n deep force start ∧ u.moveHeld mv m c = s.moveHeld mv m c := by
  obtain ⟨b, a, y, -, -, rfl⟩ := hu
  exact ⟨rfl, rfl, rfl, rfl⟩

/-- The run of an admitted command that answers without an effect. -/
theorem Replies.of_done {i : Instr} {c : Cmd} {g : Gate} {run : Run} {modes : Mode → Bool} {ses : Option Session} {st : Byte} {payload bulk : List Byte}
    (hx : exec i s = s.command c g run) (h : s.admits c.slot c.h g.role modes g.exempt g.audited ses)
    (hm : modes s.mode.mode = true → g.modes s.mode.mode = true) (hp : c.payload.length ≤ 224) (hb : c.bulk.length ≤ 4096)
    (hr : ∀ u, s.posted_ u c.slot → run ses u = .done st payload bulk u) : Replies i s c.slot st payload bulk id := by
  refine Replies.of hx h hm hp hb fun u hu => ?_
  obtain ⟨⟨-, running, -, -⟩, -⟩ := h
  obtain ⟨-, -, -, -, -, dbg⟩ := hu.units
  rw [hr u hu, Result.finish_done (by rw [dbg, running])]
  rfl

end Sys2Proof.Machine
end

section
/-! The mode and capture commands, assembled from the rules above. -/

namespace Sys2Proof.Machine

/-- Settles O26: each command is admitted, and its run on the state in which it is posted is one of the rules above. -/
theorem modeAndCaptureCommandsAreAccepted : Obligations.ModeAndCaptureCommandsAreAccepted := by
  unfold Obligations.ModeAndCaptureCommandsAreAccepted
  intro s slot h mode ctx opts start lines pa yard x m mv c deep force
  refine ⟨fun ha hr hp hl hn ho hb => ?modeSet, fun ha h1 h2 h64 hend hc => ?calCapture, fun ha hy => ?calStatus⟩
  case modeSet =>
    have listed (_ : true = true) := State.allModes_of_moveNamed hn
    have early : s.modeEarly slot mode ctx opts (some x) = none := State.modeEarly_none hr hp hl hn
    refine ⟨fun hm => Replies.of_done (g := s.modeGate mode) exec_modeSet ha listed (by simp) (by simp) fun u hu => ?_,
      fun hm hs hk hq => Waits.of (g := s.modeGate mode) exec_modeSet ha listed (by simp) (by simp) fun u hu => ?_⟩
    · obtain ⟨earlyU, named, params, -⟩ := hu.request c
      exact modeSetRun_now (earlyU.trans early) (named.trans hn) ho (params.trans hb) hm
    · obtain ⟨earlyU, named, params, held⟩ := hu.request c
      exact modeSetRun_waits (earlyU.trans early) (named.trans hn) ho (params.trans hb) hm (held.trans (State.moveHeld_none hs hk hq))
  case calCapture =>
    refine Waits.of exec_calCapture ha (by simp [modeIn]) (by simp) (by simp) fun u hu => ?_
    obtain ⟨mode, tb, cap, clk, -, -⟩ := hu.units
    rw [calCaptureRun_waits h1 h2 h64 hend (cap.trans hc), mode, tb, clk]
  case calStatus =>
    refine Replies.of_done exec_calStatus ha id (by simp) (by simp) fun u hu => ?_
    obtain ⟨-, tb, -, -, sensor, -⟩ := hu.units
    simp only [calStatusRun_reads hy, State.rcharOfs, State.rcharGain, tb, sensor]

end Sys2Proof.Machine
end

section
/-! The rows of the encoders (R91, R114, R115, R117, R356): which edges are ignored, illegal or counted. -/

namespace Sys2Proof.Machine

variable {s : State} {ch : EncIx} {a b : Bool} {t held : Nat}

/-- The state in which a timed row of the tick sources acts: the timebase at the row's instant, and no sync message sent yet by this step. -/
def State.stepAt (s : State) (t : Nat) : State :=
  { s with tb := (s.atTb t).tb, sync := { s.sync with sentUp := [], sentDown := [] } }

theorem State.newStep_atTb (s : State) (t : Nat) : (s.atTb t).newStep = s.stepAt t := by
  obtain ⟨tb, e⟩ := s.atTb_eq t
  rw [State.stepAt, e]
  rfl

@[simp] theorem State.stepAt_tb (s : State) (t : Nat) : (s.stepAt t).tb = (s.atTb t).tb := rfl
@[simp] theorem State.stepAt_tbRun (s : State) (t : Nat) : (s.stepAt t).tbRun = s.tbRun := rfl
@[simp] theorem State.stepAt_enc (s : State) (t : Nat) : (s.stepAt t).enc = s.enc := rfl
@[simp] theorem State.stepAt_tick (s : State) (t : Nat) : (s.stepAt t).tick = s.tick := rfl
@[simp] theorem State.stepAt_clk (s : State) (t : Nat) : (s.stepAt t).clk = s.clk := rfl
@[simp] theorem State.stepAt_mode (s : State) (t : Nat) : (s.stepAt t).mode = s.mode := rfl
@[simp] theorem State.stepAt_hubUp (s : State) (t : Nat) : (s.stepAt t).hubUp = s.hubUp := rfl
@[simp] theorem State.stepAt_srcChannel (s : State) (t : Nat) : (s.stepAt t).srcChannel = s.srcChannel := rfl

theorem State.hubUp_iff : s.hubUp = true ↔ s.host.phase ≠ 0 := decide_eq_true_iff

/-- SRC names the channel of an encoder source (R134). -/
theorem State.srcChannel_iff : s.srcChannel = some ch ↔ (field s.tick.cfg 2 0 = 1 ∧ ch = 0) ∨ (field s.tick.cfg 2 0 = 2 ∧ ch = 1) := by
  simp only [State.srcChannel, State.src]
  by_cases h1 : field s.tick.cfg 2 0 = 1
  · simp [h1, eq_comm]
  · by_cases h2 : field s.tick.cfg 2 0 = 2 <;> simp [h1, h2, eq_comm]

/-- An encoder source has a channel, any other source none. -/
theorem State.srcChannel_isSome : s.srcChannel.isSome = true ↔ field s.tick.cfg 2 0 = 1 ∨ field s.tick.cfg 2 0 = 2 := by
  simp only [State.srcChannel, State.src]
  by_cases h1 : field s.tick.cfg 2 0 = 1
  · simp [h1]
  · by_cases h2 : field s.tick.cfg 2 0 = 2 <;> simp [h1, h2]

theorem State.srcChannel_none (h1 : field s.tick.cfg 2 0 ≠ 1) (h2 : field s.tick.cfg 2 0 ≠ 2) : s.srcChannel.isSome = false := by
  rw [Bool.eq_false_iff, ne_eq, State.srcChannel_isSome, not_or]
  exact ⟨h1, h2⟩

/-- The direction of a step (R114), by which of A and B changed. -/
theorem quadUp_eq (old a b : Bool) : quadUp (old != a) a b = if a ≠ old then decide (a ≠ b) else decide (a = b) := by
  cases old <;> cases a <;> cases b <;> rfl

/-- The changes that DECODE counts (R114, R134). -/
theorem quadCounts_of {decode : Nat} {old : Bool} (h : decode = 0 ∨ (decode = 1 ∧ a ≠ old) ∨ (decode = 2 ∧ a ≠ old ∧ b = false)) :
    quadCounts decode (old != a) b = true := by
  rcases h with rfl | ⟨rfl, ha⟩ | ⟨rfl, ha, rfl⟩
  · rfl
  · simpa [quadCounts] using ha.symm
  · simpa [quadCounts] using ha.symm

/-- The changes that DECODE passes over. -/
theorem quadCounts_of_not {decode : Nat} {old : Bool} (h : (decode = 1 ∧ a = old) ∨ (decode = 2 ∧ (a = old ∨ b = true))) :
    quadCounts decode (old != a) b = false := by
  rcases h with ⟨rfl, rfl⟩ | ⟨rfl, rfl | rfl⟩ <;> simp [quadCounts]

/-- On the bypass clock, an edge closer than one sample to the edge before (R356). -/
def State.edgeClose (s : State) (ch : EncIx) (t : Nat) : Prop := s.tbRun = true ∧ vget s.clk.lock 0 = false ∧ t < (vget s.enc ch).changed + 10

theorem exec_encoderEdge_ignored
    (h : s.host.phase = 0 ∨ held < field (vget s.enc ch).cfg 3 0 ∨ (a = (vget s.enc ch).a ∧ b = (vget s.enc ch).b)) :
    exec (.encoderEdge ch a b t held) s = .next (s.stepAt t) := by
  simp only [exec_encoderEdge, execEncoderEdge, State.newStep_atTb]
  refine if_pos ?_
  simp only [State.stepAt_hubUp, State.stepAt_enc]
  rcases h with h | h | ⟨ha, hb⟩
  · simp [State.hubUp, h]
  · simp [h]
  · simp [ha, hb]

section
variable (hp : s.host.phase ≠ 0) (hf : field (vget s.enc ch).cfg 3 0 ≤ held)
include hp hf

/-- A change that persists for FILT_NS on a powered hub is not ignored. -/
theorem edge_persists (hm : a ≠ (vget s.enc ch).a ∨ b ≠ (vget s.enc ch).b) :
    ¬ (!s.hubUp || decide (held < field (vget s.enc ch).cfg 3 0) || !((vget s.enc ch).a != a || (vget s.enc ch).b != b)) = true := by
  have up := State.hubUp_iff.2 hp
  have long : ¬ held < field (vget s.enc ch).cfg 3 0 := by omega
  rcases hm with hm | hm <;> simp [up, long, bne_iff_ne.2 hm.symm]

omit hp hf in
/-- What makes a transition illegal, as the row asks it (R114, R356). -/
theorem edge_illegal_iff : (((vget s.enc ch).a != a && (vget s.enc ch).b != b)
      || (s.tbRun && !vget s.clk.lock 0 && decide (t < (vget s.enc ch).changed + 10))) = true
    ↔ (a ≠ (vget s.enc ch).a ∧ b ≠ (vget s.enc ch).b) ∨ s.edgeClose ch t := by
  simp only [State.edgeClose, Bool.or_eq_true, Bool.and_eq_true, bne_iff_ne, Bool.not_eq_true', decide_eq_true_eq, ne_comm, and_assoc]

/-- An illegal transition is counted and reported, and restarts the predictor of its source (R114, R115, R356). -/
theorem exec_encoderEdge_illegal (hm : a ≠ (vget s.enc ch).a ∨ b ≠ (vget s.enc ch).b)
    (hi : (a ≠ (vget s.enc ch).a ∧ b ≠ (vget s.enc ch).b) ∨ s.edgeClose ch t) :
    exec (.encoderEdge ch a b t held) s = .next (State.report { s.stepAt t with
      enc := vset s.enc ch { vget s.enc ch with a := a, b := b, changed := t, illegal := satInc (vget s.enc ch).illegal },
      tick := if s.srcChannel = some ch then s.tick.restart else s.tick } .encoder) := by
  simp only [exec_encoderEdge, execEncoderEdge, State.newStep_atTb, State.stepAt_hubUp, State.stepAt_enc, State.stepAt_tbRun,
    State.stepAt_clk, State.stepAt_srcChannel, State.stepAt_tick]
  rw [if_neg (edge_persists hp hf hm), if_pos (edge_illegal_iff.2 hi)]
  split <;> rfl

variable (hm : a ≠ (vget s.enc ch).a ∨ b ≠ (vget s.enc ch).b) (hb : ¬ (a ≠ (vget s.enc ch).a ∧ b ≠ (vget s.enc ch).b))
  (hc : ¬ s.edgeClose ch t)
include hm hb hc

/-- A legal step that DECODE counts moves the position, and the generator of its source takes it (R114, R118). -/
theorem exec_encoderEdge_counted (hq : quadCounts (field (vget s.enc ch).cfg 5 4) ((vget s.enc ch).a != a) b = true) :
    let up : Bool := (if a ≠ (vget s.enc ch).a then decide (a ≠ b) else decide (a = b)) != bit (vget s.enc ch).cfg 6
    let e : Encoder := { vget s.enc ch with
      a := a, b := b, changed := t, ext := if up then (vget s.enc ch).ext + 1 else (vget s.enc ch).ext - 1 }
    exec (.encoderEdge ch a b t held) s = .next (if s.srcChannel = some ch then
      State.runGenerator { s.stepAt t with
        enc := vset s.enc ch e, tick := s.tick.take { pos := e.ext.toInt, t := (s.atTb t).tb, up := up } }
      else { s.stepAt t with enc := vset s.enc ch e }) := by
  simp only [exec_encoderEdge, execEncoderEdge, State.newStep_atTb, State.stepAt_hubUp, State.stepAt_enc, State.stepAt_tbRun,
    State.stepAt_clk, State.stepAt_srcChannel, State.stepAt_tick]
  rw [if_neg (edge_persists hp hf hm), if_neg (fun h => (edge_illegal_iff.1 h).elim hb hc), if_pos hq, quadUp_eq]
  split <;> rfl

/-- A legal step that DECODE passes over leaves the levels and their time (R114). -/
theorem exec_encoderEdge_uncounted (hq : quadCounts (field (vget s.enc ch).cfg 5 4) ((vget s.enc ch).a != a) b = false) :
    exec (.encoderEdge ch a b t held) s = .next { s.stepAt t with
      enc := vset s.enc ch { vget s.enc ch with a := a, b := b, changed := t } } := by
  simp only [exec_encoderEdge, execEncoderEdge, State.newStep_atTb, State.stepAt_hubUp, State.stepAt_enc, State.stepAt_tbRun,
    State.stepAt_clk, State.stepAt_srcChannel, State.stepAt_tick]
  rw [if_neg (edge_persists hp hf hm), if_neg (fun h => (edge_illegal_iff.1 h).elim hb hc), hq]
  rfl
end

/-- A rising Z is an event, and captures the position where ZMODE says so (R117, R372). -/
theorem exec_zCapture_up (hp : s.host.phase ≠ 0) : exec (.zCapture ch) s = .next (if field (vget s.enc ch).cfg 9 8 = 1 then
    { s.event (0x23 + ch.val) with enc := vset s.enc ch { vget s.enc ch with zcap := (vget s.enc ch).ext.extractLsb' 0 32 } }
    else s.event (0x23 + ch.val)) := by
  simp only [exec_zCapture, execZCapture, State.hubUp_iff.2 hp]
  rfl

/-- Two milliseconds without an edge restart the predictor of an encoder source (R119). -/
theorem exec_predictorTimeout_due {e : Edge} {es : List Edge} (he : s.tick.edges = e :: es) (hs : s.srcChannel = some ch)
    (ht : e.t + 2000000 ≤ (s.atTb t).tb) :
    exec (.predictorTimeout ch t) s = .next { s.atTb t with tick := { s.tick with edges := [], request := none, perLast := none } } := by
  have mine : (s.atTb t).srcChannel = some ch := by rw [State.srcChannel_iff, s.atTb_tick, ← State.srcChannel_iff, hs]
  simp only [exec_predictorTimeout, execPredictorTimeout, s.atTb_tick, he, List.head?_cons, mine, ht, decide_true, Bool.and_self, if_true]
  rfl

/-- Ticks become allowed 10 µs after the lock of PLL-A (R122, R358). -/
theorem exec_ticksAllowed_due (hl : vget s.clk.lock 0 = true) (hr : s.tbRun = true) (ha : s.clk.ticksAllowed = false)
    (ht : s.clk.lockTb + 10000 ≤ (s.atTb t).tb) :
    exec (.ticksAllowed t) s = .next { s.atTb t with
      clk := { s.clk with ticksAllowed := true },
      tick := { s.tick with allowed :=
        if ({ s with clk := { s.clk with ticksAllowed := true } } : State).ticksMayFire then some (s.atTb t).tb else s.tick.allowed } } := by
  obtain ⟨tb, e⟩ := s.atTb_eq t
  rw [e] at ht ⊢
  simp only [exec_ticksAllowed, execTicksAllowed, e, hl, hr, ha, ht, decide_true, Bool.not_false, Bool.and_self, if_true]
  rfl

/-- Before that they stay as they are. -/
theorem exec_ticksAllowed_early (ht : (s.atTb t).tb < s.clk.lockTb + 10000) : exec (.ticksAllowed t) s = .next (s.atTb t) := by
  have early : ¬ s.clk.lockTb + 10000 ≤ (s.atTb t).tb := by omega
  simp [exec_ticksAllowed, execTicksAllowed, early]

end Sys2Proof.Machine
end

section
/-! The tick generator (R118–R124): its request, and what its run commits and leaves. -/

namespace Sys2Proof.Machine

variable {s t u : State} {q : TickReq}

/-- From `s` to `u` the time, memory, the encoders and the tick source stay. -/
structure State.KeepsSource (s u : State) : Prop where
  tb : u.tb = s.tb := by rfl
  mem : u.mem = s.mem := by rfl
  enc : u.enc = s.enc := by rfl
  tick : u.tick = s.tick := by rfl

/-- From `s` to `u` the generator has run: time, memory, the encoders and the edges taken stay, and so do the ticks already due. -/
structure State.Generated (s u : State) : Prop where
  tb : u.tb = s.tb := by rfl
  mem : u.mem = s.mem := by rfl
  enc : u.enc = s.enc := by rfl
  edges : u.tick.edges = s.tick.edges := by rfl
  due : s.tick.due <+: u.tick.due := by exact List.prefix_refl _

theorem State.KeepsSource.trans (h : s.KeepsSource t) (e : t.KeepsSource u) : s.KeepsSource u where
  tb := e.tb.trans h.tb
  mem := e.mem.trans h.mem
  enc := e.enc.trans h.enc
  tick := e.tick.trans h.tick

theorem State.Generated.trans (h : s.Generated t) (e : t.Generated u) : s.Generated u where
  tb := e.tb.trans h.tb
  mem := e.mem.trans h.mem
  enc := e.enc.trans h.enc
  edges := e.edges.trans h.edges
  due := h.due.trans e.due

@[simp] theorem State.level_enc (s : State) (k : FltClass) (on : Bool) : (s.level k on).enc = s.enc := by
  unfold State.level
  dsimp only
  split <;> rfl

@[simp] theorem State.noteLog_enc (s : State) : s.noteLog.enc = s.enc := by
  unfold State.noteLog
  split
  · exact State.level_enc _ _ _
  · rfl

@[simp] theorem State.auditSlot_enc (s : State) (slot : Slot) (st : Byte) : (s.auditSlot slot st).enc = s.enc := by
  unfold State.auditSlot
  split
  · exact State.noteLog_enc _
  · rfl

theorem State.answerTo_keepsSource (s : State) (slot : Option Slot) (st : Byte) (payload : List Byte) :
    s.KeepsSource (s.answerTo slot st payload) where
  tb := (s.answerTo_moved slot st payload).tb
  mem := (s.answerTo_moved slot st payload).mem
  tick := (s.answerTo_moved slot st payload).tick
  enc := by
    cases slot with
    | none => rfl
    | some k =>
      unfold State.answerTo State.answer State.answerBulk
      dsimp only
      split <;> exact State.auditSlot_enc s k st

theorem State.sendDown_keepsSource (s : State) (type : Byte) (payload : List Byte) : s.KeepsSource (s.sendDown type payload) := by
  unfold State.sendDown State.passDown
  split <;> exact {}

theorem State.sendTick_keepsSource (s : State) (d : DueTick) (line : Nat) (pos : Fin 16) : s.KeepsSource (s.sendTick d line pos) := by
  unfold State.sendTick
  split
  · exact s.sendDown_keepsSource _ _
  · exact {}

/-- The settling of a string switch keeps the tick source where the dropped move does (R130). -/
theorem State.settle_keepsSource (s : State) (w : StringSwitch) {drop : State → State} (hd : ∀ v : State, v.KeepsSource (drop v)) :
    s.KeepsSource (s.settle w drop) := by
  unfold State.settle
  dsimp only
  split
  · exact {}
  · exact ((State.KeepsSource.trans {} (State.sendDown_keepsSource _ _ _)).trans (hd _)).trans (State.answerTo_keepsSource _ _ _ _)

theorem State.settleSwitch_keepsSource (s : State) (line : Nat) : s.KeepsSource (s.settleSwitch line) := by
  unfold State.settleSwitch
  split
  · exact {}
  · split
    · exact {}
    · exact s.settle_keepsSource _ fun _ => {}

/-- The request that the selected source makes, where ticks are asked for (R118, R122). -/
def State.sourceRequest (s : State) : Option TickReq :=
  if !s.ticksAsked then none
  else if s.srcChannel.isSome then s.tick.predict s.tb
  else if s.src = 4 then s.periodRequest
  else none

theorem State.refreshRequest_eq (s : State) : s.refreshRequest = { s with tick := { s.tick with request := s.sourceRequest } } := rfl

theorem State.sourceRequest_encoder (ha : s.ticksAsked = true) (hs : field s.tick.cfg 2 0 = 1 ∨ field s.tick.cfg 2 0 = 2) :
    s.sourceRequest = s.tick.predict s.tb := by
  simp [State.sourceRequest, ha, State.srcChannel_isSome.2 hs]

theorem State.sourceRequest_period (ha : s.ticksAsked = true) (hs : field s.tick.cfg 2 0 = 4) : s.sourceRequest = s.periodRequest := by
  simp [State.sourceRequest, ha, State.srcChannel_none (s := s) (by omega) (by omega), State.src, hs]

/-- No request where ticks are not asked for, nor of a source that makes none. -/
theorem State.sourceRequest_none (h : s.ticksAsked = false ∨ ((field s.tick.cfg 2 0 = 1 ∨ field s.tick.cfg 2 0 = 2) ∧ s.tick.predict s.tb = none)
    ∨ (field s.tick.cfg 2 0 = 4 ∧ s.tick.allowed = none) ∨ field s.tick.cfg 2 0 = 0 ∨ field s.tick.cfg 2 0 = 3 ∨ 5 ≤ field s.tick.cfg 2 0) :
    s.sourceRequest = none := by
  cases ha : s.ticksAsked
  · simp [State.sourceRequest, ha]
  · rw [ha] at h
    rcases h with h | ⟨hs, hn⟩ | ⟨hs, hn⟩ | h
    · cases h
    · rw [State.sourceRequest_encoder ha hs, hn]
    · rw [State.sourceRequest_period ha hs, State.periodRequest, hn]
    · have other : ¬ field s.tick.cfg 2 0 = 4 := by omega
      simp [State.sourceRequest, State.srcChannel_none (s := s) (by omega) (by omega), State.src, other]

/-- The internal period asks for ticks in one direction (R122). -/
theorem State.periodRequest_dir (h : s.periodRequest = some q) : q.dir = false := by
  unfold State.periodRequest at h
  split at h
  · cases h
  · cases h
    rfl

/-- The tick that a request brings: at the instant asked for, or the minimum LP after the last one (R123). -/
def State.tickFor (s : State) (q : TickReq) : DueTick :=
  { inst := s.lastInst.elim q.inst fun l => Nat.max q.inst (l + s.tickLp), req := q.inst, dir := q.dir, line := none, pos := none, slip := s.tick.slip }

/-- The overspeed policy drops the request (R123): it comes less than the minimum LP after the last tick, under DROP or with more ticks late than LAG. -/
def State.drops (s : State) (q : TickReq) : Bool :=
  (s.lastInst.elim false fun l => decide (q.inst < l + s.tickLp))
    && (s.dropPolicy || decide (s.lagLimit < (s.tick.due.filter fun d => q.inst < d.inst).length))

/-- The tick source after a request is accepted. -/
def State.accepted (s : State) (q : TickReq) : TickSource :=
  let mark := q.boundary.map fun b => (b, !q.dir)
  { s.tick with
    due := s.tick.due ++ [s.tickFor q], slip := false, request := none,
    last := if mark.isSome then mark else s.tick.last, asked := if mark.isSome then mark else s.tick.asked,
    perLast := if s.src = 4 then some (s.tickFor q).inst else s.tick.perLast }

/-- A request whose commit time has come is dropped, or joins the ticks due as the next line and goes down the string (R120, R123, R127). -/
theorem State.commit_eq (s : State) (q : TickReq) : s.commit q = if s.drops q then s.dropRequest q else
    let line := s.nextLine + s.tick.due.length
    let v := s.settleSwitch line
    State.sendTick { v with tick := s.accepted q } (s.tickFor q) line (v.posAhead v.tick.due v.nextLine v.sensor.leadHalf v.sensor.pos false) := by
  unfold State.commit State.drops State.accepted State.tickFor
  cases s.lastInst <;> rfl

theorem State.commit_generated (s : State) (q : TickReq) : s.Generated (s.commit q) := by
  rw [State.commit_eq]
  split
  · exact {}
  · have settled := s.settleSwitch_keepsSource (s.nextLine + s.tick.due.length)
    have sent := State.sendTick_keepsSource { s.settleSwitch (s.nextLine + s.tick.due.length) with tick := s.accepted q }
    exact { tb := (sent _ _ _).tb.trans settled.tb
            mem := (sent _ _ _).mem.trans settled.mem
            enc := (sent _ _ _).enc.trans settled.enc
            edges := (congrArg TickSource.edges (sent _ _ _).tick).trans rfl
            due := (List.prefix_append _ _).trans (by rw [(sent _ _ _).tick]; exact List.prefix_refl _) }

/-- With no tick due, DEFER accepts every request (R123). -/
theorem State.drops_idle (hd : s.tick.due = []) (hp : bit s.tick.cfg 4 = false) (q : TickReq) : s.drops q = false := by
  simp [State.drops, hd, State.dropPolicy, hp]

/-- The first tick due is that of its request. -/
theorem State.commit_due (hd : s.tick.due = []) (hp : bit s.tick.cfg 4 = false) (q : TickReq) : (s.commit q).tick.due = [s.tickFor q] := by
  rw [State.commit_eq, s.drops_idle hd hp]
  refine (congrArg TickSource.due (State.sendTick_keepsSource _ _ _ _).tick).trans ?_
  simp [State.accepted, hd]

theorem State.commitDue_generated (n : Nat) (s : State) : s.Generated (s.commitDue n) := by
  induction n generalizing s with
  | zero => exact {}
  | succ n ih =>
    have refreshed : s.Generated s.refreshRequest := {}
    unfold State.commitDue
    dsimp only
    split
    · exact refreshed
    · split
      · exact (refreshed.trans (State.commit_generated _ _)).trans (ih _)
      · exact refreshed

theorem State.runGenerator_generated (s : State) : s.Generated s.runGenerator := State.commitDue_generated 4096 s

/-- One round of the generator (R120). -/
theorem State.runGenerator_eq (s : State) : s.runGenerator = match s.sourceRequest with
    | none => s.refreshRequest
    | some q => if q.inst ≤ s.tb + s.horizon then (s.refreshRequest.commit q).commitDue 4095 else s.refreshRequest := rfl

/-- Without a request the generator does nothing. -/
theorem State.runGenerator_none (h : s.sourceRequest = none) : s.runGenerator = { s with tick := { s.tick with request := none } } := by
  rw [State.runGenerator_eq, State.refreshRequest_eq, h]

/-- A request beyond the horizon stays a request (R120). -/
theorem State.runGenerator_far (h : s.sourceRequest = some q) (hq : s.tb + s.horizon < q.inst) :
    s.runGenerator = { s with tick := { s.tick with request := some q } } := by
  rw [State.runGenerator_eq, State.refreshRequest_eq, h]
  exact if_neg (by omega)

/-- A request within the horizon becomes the first tick due, where none is (R120, R123). -/
theorem State.runGenerator_due (h : s.sourceRequest = some q) (hq : q.inst ≤ s.tb + s.horizon) (hd : s.tick.due = []) (hp : bit s.tick.cfg 4 = false) :
    s.runGenerator.tick.due.head? = some (s.tickFor q) := by
  have first : (s.refreshRequest.commit q).tick.due = [s.tickFor q] := State.commit_due (s := s.refreshRequest) hd hp q
  obtain ⟨more, rest⟩ := (State.commitDue_generated 4095 (s.refreshRequest.commit q)).due
  rw [State.runGenerator_eq, h]
  simp only [if_pos hq]
  rw [← rest, first]
  rfl

/-- The tick of a request made while none is due: asked for as requested, and no closer to the last tick fired than the minimum LP (R123). -/
theorem State.tickFor_idle (hd : s.tick.due = []) (q : TickReq) : (s.tickFor q).inst =
    if s.sensor.anyTick then Nat.max q.inst (s.sensor.lastTb + s.tickLp) else q.inst := by
  simp only [State.tickFor, State.lastInst, hd, List.getLast?_nil]
  split <;> rfl

/-- What a row that runs the generator does with a request of its source: it waits for the horizon, and within it the tick is committed. -/
theorem exec_generator_asks {z : State} {c : Instr} (hx : exec c s = .next z.runGenerator) (h : z.sourceRequest = some q) :
    (z.tb + z.horizon < q.inst → exec c s = .next { z with tick := { z.tick with request := some q } })
    ∧ (q.inst ≤ z.tb + z.horizon → z.tick.due = [] → bit z.tick.cfg 4 = false → ∃ u e, exec c s = .next u ∧ u.tick.due.head? = some e
        ∧ e.req = q.inst ∧ e.dir = q.dir ∧ u.mem = z.mem
        ∧ e.inst = if z.sensor.anyTick then Nat.max q.inst (z.sensor.lastTb + z.tickLp) else q.inst) :=
  ⟨fun hq => by rw [hx, State.runGenerator_far h hq],
    fun hq hd hp => ⟨_, _, hx, State.runGenerator_due h hq hd hp, rfl, rfl, z.runGenerator_generated.mem, State.tickFor_idle hd q⟩⟩

theorem exec_tickRequest_eq (t : Nat) : exec (.tickRequest t) s = .next (s.stepAt t).runGenerator := by
  rw [exec_tickRequest, execTickRequest, State.newStep_atTb]

theorem exec_tickCommit_eq (t : Nat) : exec (.tickCommit t) s = .next (s.stepAt t).runGenerator := by
  rw [exec_tickCommit, execTickCommit, State.newStep_atTb]

theorem exec_internalPeriod_selected (hs : field s.tick.cfg 2 0 = 4) (t : Nat) : exec (.internalPeriod t) s = .next (s.stepAt t).runGenerator := by
  rw [exec_internalPeriod, execInternalPeriod, State.newStep_atTb]
  exact if_pos hs

/-- The newest edge that the generator has taken is the one it took last. -/
theorem TickSource.take_edges_head (x : TickSource) (e : Edge) : (x.take e).edges.head? = some e := by
  unfold TickSource.take
  dsimp only
  split
  · rfl
  · split <;> rfl

/-- The edge of TRIG that TRIG_EDGE selects is an event, outside BOOT and with PLL-A locked (R121, R356, R372, R438). -/
def State.trigSeen (s : State) (t : Nat) (edgeOn : Bool) : State :=
  if s.mode.mode ≠ .boot ∧ vget s.clk.lock 0 = true ∧ edgeOn = true then (s.stepAt t).event 0x22 else s.stepAt t

theorem State.trigSeen_keeps (s : State) (t : Nat) (edgeOn : Bool) : let v := s.trigSeen t edgeOn
    v.tick = s.tick ∧ v.tb = (s.atTb t).tb ∧ v.sensor = s.sensor ∧ v.sync.switch = s.sync.switch ∧ v.role = s.role
      ∧ v.ticksAsked = (s.stepAt t).ticksAsked := by
  unfold State.trigSeen
  split <;> exact ⟨rfl, rfl, rfl, rfl, rfl, rfl⟩

/-- A trigger row sees its edge and, where the trigger is the source and ticks are asked for, commits a tick of its own (R121). -/
theorem exec_trigEdge_eq (t : Nat) (rising : Bool) : let edgeOn := rising != bit s.tick.cfg 5
    let v := s.trigSeen t edgeOn
    exec (.trigEdge t rising) s = .next (if field s.tick.cfg 2 0 = 3 ∧ (s.stepAt t).ticksAsked = true ∧ edgeOn = true then
      v.commit { inst := if v.isLeader then v.tb + v.leadNs else v.tb + Nat.min (Config.triggerNs v.tb) 4, dir := false, boundary := none } else v) := by
  have seen : (if s.mode.mode ≠ .boot && vget s.clk.lock 0 && (rising != bit s.tick.cfg 5) then (s.stepAt t).event evTrig else s.stepAt t)
      = s.trigSeen t (rising != bit s.tick.cfg 5) := by
    simp only [State.trigSeen, Bool.and_eq_true, decide_eq_true_eq, and_assoc]
    rfl
  obtain ⟨tick, -, -, -, -, asked⟩ := s.trigSeen_keeps t (rising != bit s.tick.cfg 5)
  simp only [exec_trigEdge, execTrigEdge, State.newStep_atTb, State.stepAt_mode, State.stepAt_clk, State.stepAt_tick]
  rw [seen]
  simp only [State.src, tick, asked, Bool.and_eq_true, decide_eq_true_eq, and_assoc]
  split <;> rfl

/-- A tick committed on a device that leads no string, with none due or fired before and no switch under way (R120). -/
theorem State.commit_first (hd : s.tick.due = []) (ha : s.sensor.anyTick = false) (hl : s.isLeader = false) (hw : s.sync.switch = none)
    (hs : field s.tick.cfg 2 0 ≠ 4) (inst : Nat) (dir : Bool) : s.commit { inst := inst, dir := dir, boundary := none } = { s with tick := { s.tick with
      due := [{ inst := inst, req := inst, dir := dir, line := none, pos := none, slip := s.tick.slip }], slip := false, request := none } } := by
  have none_ : s.lastInst = none := by simp [State.lastInst, hd, ha]
  have single (line : Nat) : s.settleSwitch line = s := by simp [State.settleSwitch, hw]
  have alone (x : TickSource) : ({ s with tick := x } : State).isLeader = false := hl
  rw [State.commit_eq]
  simp [State.drops, none_, single, State.sendTick, alone, State.accepted, State.tickFor, hd, State.src, hs]

end Sys2Proof.Machine
end

section
/-! The predictor at constant speed (R118, R119). -/

namespace Sys2Proof.Machine

variable {x : TickSource}

theorem clampRat_zero {m : Rat} (h : 0 ≤ m) : clampRat m 0 = 0 := by
  have h1 : ¬ 0 < -m := by linarith
  have h2 : ¬ m < 0 := by linarith
  simp [clampRat, h1, h2]

theorem TickSource.accMax_nonneg (x : TickSource) : 0 ≤ x.accMax := div_nonneg (Nat.cast_nonneg _) (Nat.cast_nonneg _)

section
variable (ha : x.asked = none) (hq : x.request = none) (hr : 0 < x.ratio.toNat) {p k : Int}
include ha hq hr

/-- Upwards the next boundary is the first above the position (R118). -/
theorem TickSource.nextBoundary_up (h1 : x.p0 + k * (x.ratio.toNat : Int) - x.ratio.toNat ≤ p) (h2 : p < x.p0 + k * (x.ratio.toNat : Int)) :
    x.nextBoundary true p = x.p0 + k * (x.ratio.toNat : Int) := by
  have pos : (0 : Int) < x.ratio.toNat := by exact_mod_cast hr
  have steps : (p - x.p0) / (x.ratio.toNat : Int) = k - 1 :=
    le_antisymm (Int.lt_add_one_iff.1 ((Int.ediv_lt_iff_lt_mul pos).2 (by linarith))) ((Int.le_ediv_iff_mul_le pos).2 (by linarith))
  simp [TickSource.nextBoundary, ha, hq, steps]

/-- Downwards it is the first below it. -/
theorem TickSource.nextBoundary_down (h1 : x.p0 + k * (x.ratio.toNat : Int) < p) (h2 : p ≤ x.p0 + k * (x.ratio.toNat : Int) + x.ratio.toNat) :
    x.nextBoundary false p = x.p0 + k * (x.ratio.toNat : Int) := by
  have pos : (0 : Int) < x.ratio.toNat := by exact_mod_cast hr
  have steps : (x.p0 - p) / (x.ratio.toNat : Int) = -k - 1 :=
    le_antisymm (Int.lt_add_one_iff.1 ((Int.ediv_lt_iff_lt_mul pos).2 (by linarith))) ((Int.le_ediv_iff_mul_le pos).2 (by linarith))
  simp [TickSource.nextBoundary, ha, hq, steps]
end

/-- Where the two windows before the newest edge took the same time, and no more than two edges are overdue, the instant is that at which this
speed reaches the boundary (R119). -/
theorem TickSource.instant_constant {up : Bool} {b : Int} {now tw t2 : Nat} {e : Edge} (he : x.edges.head? = some e) (hw : x.edgeT x.win = some tw)
    (h2 : x.edgeT (2 * x.win) = some t2) (h : tw < e.t) (heq : e.t - tw = tw - t2) (hlt : t2 < tw) (hq : (now - e.t) * x.win ≤ 2 * (e.t - tw)) :
    x.instant up b now = some (Nat.max now ((e.t : Rat) + ((b : Rat) / 65536 - (e.pos : Rat)) * ((e.t - tw : Nat) : Rat) / ((if up then 1 else -1) * (x.win : Rat))
      + 1 / 2).floor.toNat) := by
  have d : (0 : Rat) < ((e.t - tw : Nat) : Rat) := by exact_mod_cast Nat.sub_pos_of_lt h
  have overdue : ((now - e.t : Nat) : Rat) * (x.win : Rat) ≤ 2 * ((e.t - tw : Nat) : Rat) := by exact_mod_cast hq
  have slow : ¬ 2 < ((now - e.t : Nat) : Rat) * ((x.win : Rat) / ((e.t - tw : Nat) : Rat)) := by
    rw [not_lt, ← mul_div_assoc, div_le_iff₀ d]
    exact overdue
  have speed : (if up then (if up then 1 else -1) * (x.win : Rat) / ((e.t - tw : Nat) : Rat)
      else -((if up then 1 else -1) * (x.win : Rat) / ((e.t - tw : Nat) : Rat))) = (x.win : Rat) / ((e.t - tw : Nat) : Rat) := by
    cases up <;> simp [neg_div]
  have quarter (t0 : Rat) : 0 ≤ (if t0 < 0 then -t0 else t0) / 4 := by
    split <;> linarith
  have later : ¬ e.t ≤ tw := by omega
  have later2 : ¬ tw ≤ t2 := by omega
  simp only [TickSource.instant, he, hw, h2, later, later2, if_false, ← heq, sub_self, mul_zero, zero_div, zero_mul, speed, slow,
    clampRat_zero x.accMax_nonneg, clampRat_zero (quarter _), sub_zero, div_div_eq_mul_div]

/-- A valid predictor asks for the next boundary in the direction of the newest edge, at its instant (R118, R119). -/
theorem TickSource.predict_of_instant {e : Edge} {now inst : Nat} {b : Int} (he : x.edges.head? = some e) (hv : x.valid = true) (hr : 0 < x.ratio.toNat)
    (hb : x.nextBoundary e.up (e.pos * 65536) = b) (hi : x.instant e.up b now = some inst) :
    x.predict now = some { inst := inst, dir := !e.up, boundary := some b } := by
  have nonzero : x.ratio ≠ 0#32 := fun z => by simp [z] at hr
  simp [TickSource.predict, he, hv, nonzero, hb, hi]

end Sys2Proof.Machine
end

section
/-! PRE_LT and its pulse (R379). -/

namespace Sys2Proof.Machine

variable {s : State}

/-- Bits set one after the other where `p` says so. -/
theorem bit_foldl_setBit {n : Nat} (p : Fin n → Prop) [DecidablePred p] (ks : List (Fin n)) (l : BitVec n) (i : Fin n) :
    bit (ks.foldl (fun l k => if p k then setBit l k.val true else l) l) i.val = (bit l i.val || decide (i ∈ ks ∧ p i)) := by
  induction ks generalizing l with
  | nil => simp
  | cons k ks ih =>
    rw [List.foldl_cons, ih]
    by_cases hi : i = k
    · subst hi
      by_cases hp : p i <;> simp [hp, bit_setBit _ _ _ _ i.isLt]
    · have ne : i.val ≠ k.val := fun e => hi (Fin.ext e)
      by_cases hp : p k <;> simp [hp, hi, bit_setBit _ _ _ _ k.isLt, ne]

theorem State.strobePulse_eng (s : State) (code : Nat) (e : EngIx) : vget (s.strobePulse code).ts.eng e = (vget s.ts.eng e).latchPulse code := by
  simp [State.strobePulse, vget]

/-- A pulse is latched by the inputs that select it (R379). -/
theorem Engine.latchPulse_bit (g : Engine) (code : Nat) (i : Fin 6) :
    bit (g.latchPulse code).latch i.val = (bit g.latch i.val || decide (g.inCode i = code)) := by
  simp [Engine.latchPulse, bit_foldl_setBit fun i => g.inCode i = code]

/-- PRE_LT of the first tick due, at its instant or late (R379). -/
theorem exec_preLt_due {t : Nat} {d : DueTick} {ds : List DueTick} (hr : s.tbRun = true) (hd : s.tick.due = d :: ds) (hp : d.pre = false)
    (hs : field s.tick.cfg 2 0 ≠ 3) (ht : d.inst - s.ts.preNs.toNat ≤ (s.atTb t).tb) :
    exec (.preLt t) s = .next (State.strobePulse { s.atTb t with
      tick := { s.tick with due := { d with pre := true } :: ds },
      ts := { s.ts with preLate := s.ts.preLate || decide (d.inst - s.ts.preNs.toNat < (s.atTb t).tb) } } 0x12) := by
  obtain ⟨tb, e⟩ := s.atTb_eq t
  rw [e] at ht ⊢
  have final : ¬ tb < d.inst - s.ts.preNs.toNat := by simpa using ht
  simp [exec_preLt, execPreLt, e, hd, hp, hr, hs, final, donePre, pulsePreLt]

end Sys2Proof.Machine
end

section
/-! The encoders and the tick sources, assembled from the rules above. -/

namespace Sys2Proof.Machine

/-- Settles O48: each row is one of the rules above, on the state at the row's instant. -/
theorem encodersAndTicksFollowTheirSource : Obligations.EncodersAndTicksFollowTheirSource := by
  unfold Obligations.EncodersAndTicksFollowTheirSource
  intro s ch a b rising t held q d ds x y z src other one close now edgeOn seen asks
  have atRow : z = s.stepAt t := by
    show ({ s.atTb t with sync := { s.sync with sentUp := [], sentDown := [] } } : State) = s.stepAt t
    obtain ⟨tb, e⟩ := s.atTb_eq t
    rw [State.stepAt, e]
  clear_value z
  subst atRow
  have generator {c : Instr} (hx : exec c s = .next (s.stepAt t).runGenerator) (hq : (s.stepAt t).sourceRequest = some q) : asks c :=
    exec_generator_asks hx hq
  have mine (h : ¬ other) : s.srcChannel = some ch := State.srcChannel_iff.2 (not_not.1 h)
  have notMine (h : other) : ¬ s.srcChannel = some ch := fun e => h (State.srcChannel_iff.1 e)
  have changes (h : one) : (a ≠ x.a ∨ b ≠ x.b) ∧ ¬ (a ≠ x.a ∧ b ≠ x.b) := by
    rcases h with ⟨ha, hb⟩ | ⟨ha, hb⟩
    · exact ⟨.inl ha, fun h => h.2 hb⟩
    · exact ⟨.inr hb, fun h => h.1 ha⟩
  refine ⟨exec_encoderEdge_ignored, fun hp hf hi => ?illegal, fun hp hf ho hc => ⟨fun hq => ?counted, fun hq => ?passed⟩, fun hp => ?zCapture,
    fun e es he hs ht => exec_predictorTimeout_due he (mine hs) ht, fun hl hr ha => ?allowed, fun hs ha hq => ?period, fun hs ha hq => ?encoder,
    fun h => ?noRequest, fun e tw t2 k he hv ha hq hr hw h2 hlt heq hlt2 hn => ?speed, fun h => ?seen, fun hs ha he hd hn hr hw => ?trigger,
    fun hr hd hp hs ht => ⟨_, exec_preLt_due hr hd hp hs ht, rfl, fun e => ?preLt⟩⟩
  case illegal =>
    have moved : a ≠ x.a ∨ b ≠ x.b := hi.elim (fun h => .inl h.1) fun h => (changes h.1).1
    have row := exec_encoderEdge_illegal hp hf moved (hi.imp id And.right)
    exact ⟨fun h => by rw [row, if_neg (notMine h)]; rfl, fun h => by rw [row, if_pos (mine h)]; rfl⟩
  case counted =>
    intro up e
    have row := exec_encoderEdge_counted hp hf (changes ho).1 (changes ho).2 hc (quadCounts_of hq)
    refine ⟨fun h => by rw [row, if_neg (notMine h)], fun h => ⟨_, row.trans (by rw [if_pos (mine h)]), ?_⟩⟩
    have ran := State.runGenerator_generated { s.stepAt t with
      enc := vset s.enc ch e, tick := s.tick.take { pos := e.ext.toInt, t := (s.atTb t).tb, up := up } }
    exact ⟨by rw [ran.enc]; exact vget_vset_self _ _ _, ran.tb, ran.mem, by rw [ran.edges]; exact TickSource.take_edges_head _ _⟩
  case passed => exact exec_encoderEdge_uncounted hp hf (changes ho).1 (changes ho).2 hc (quadCounts_of_not hq)
  case zCapture =>
    rw [exec_zCapture_up hp]
    exact ⟨fun h => by rw [if_pos h], fun h => by rw [if_neg h]⟩
  case allowed =>
    refine ⟨fun ht => ⟨_, exec_ticksAllowed_due hl hr ha ht, fun hb hm => if_pos ?_⟩, fun ht => exec_ticksAllowed_early ht⟩
    simp [State.ticksMayFire, hb, hl, hr, hm]
  case period =>
    have request := (State.sourceRequest_period ha hs).trans hq
    exact ⟨State.periodRequest_dir hq, generator (exec_internalPeriod_selected hs t) request, generator (exec_tickRequest_eq t) request,
      generator (exec_tickCommit_eq t) request⟩
  case encoder =>
    have request := (State.sourceRequest_encoder (s := s.stepAt t) ha hs).trans hq
    exact ⟨generator (exec_tickRequest_eq t) request, generator (exec_tickCommit_eq t) request⟩
  case noRequest =>
    have quiet := State.runGenerator_none (State.sourceRequest_none (s := s.stepAt t) h)
    exact ⟨(exec_tickRequest_eq t).trans (by rw [quiet]; rfl), (exec_tickCommit_eq t).trans (by rw [quiet]; rfl)⟩
  case speed =>
    intro ratio boundary distance at_
    have instant := TickSource.instant_constant (up := e.up) (b := boundary) he hw h2 hlt heq hlt2 hn
    refine ⟨fun up above below => ?_, fun up above below => ?_⟩
    · rw [TickSource.predict_of_instant he hv hr (by rw [up]; exact TickSource.nextBoundary_up ha hq hr above below) instant, up]
      simp only [if_true, one_mul]
      rfl
    · rw [TickSource.predict_of_instant he hv hr (by rw [up]; exact TickSource.nextBoundary_down ha hq hr above below) instant, up]
      simp only [Bool.false_eq_true, if_false, neg_one_mul, div_neg, ← sub_eq_add_neg]
      rfl
  case seen =>
    rw [exec_trigEdge_eq, if_neg]
    · rfl
    · rintro ⟨trig, asked, on⟩
      rcases h with h | h | h
      · exact h trig
      · exact Bool.false_ne_true (h.symm.trans asked)
      · exact Bool.false_ne_true (h.symm.trans on)
  case trigger =>
    obtain ⟨tick, tb, sensor, switch, role, -⟩ := s.trigSeen_keeps t edgeOn
    have alone : (s.trigSeen t edgeOn).isLeader = false := by simp [State.isLeader, role, hr]
    refine ⟨_, Nat.min_le_right (Config.triggerNs (s.trigSeen t edgeOn).tb) 4, ?_⟩
    rw [show y.tb = (s.trigSeen t edgeOn).tb from tb.symm, exec_trigEdge_eq, if_pos ⟨hs, ha, he⟩, alone,
      State.commit_first (by rw [tick, hd]) (by rw [sensor, hn]) alone (by rw [switch, hw]) (by rw [tick]; omega), tick]
    rfl
  case preLt =>
    rw [State.strobePulse_eng]
    exact ⟨rfl, Engine.latchPulse_bit _ _⟩

end Sys2Proof.Machine
end

section
/-! What a report and an answer leave of the units that carry lines (R265, R307, R401). -/

namespace Sys2Proof.Machine

/-- From `s` to `u` the units that carry, groom and send lines stay as they are, and so does the injected charge that MRAM holds. -/
structure State.KeepsUnits (s u : State) : Prop where
  tb : u.tb = s.tb := by rfl
  sensor : u.sensor = s.sensor := by rfl
  groom : u.groom = s.groom := by rfl
  ctx : u.ctx = s.ctx := by rfl
  sync : u.sync = s.sync := by rfl
  mode : u.mode = s.mode := by rfl
  port : u.port = s.port := by rfl
  det : u.det = s.det := by rfl
  fuse : u.fuse = s.fuse := by rfl
  qH : u.nvm.qH = s.nvm.qH := by rfl
  qL : u.nvm.qL = s.nvm.qL := by rfl

variable {s t u : State}

theorem State.KeepsUnits.trans (h : s.KeepsUnits t) (e : t.KeepsUnits u) : s.KeepsUnits u where
  tb := e.tb.trans h.tb
  sensor := e.sensor.trans h.sensor
  groom := e.groom.trans h.groom
  ctx := e.ctx.trans h.ctx
  sync := e.sync.trans h.sync
  mode := e.mode.trans h.mode
  port := e.port.trans h.port
  det := e.det.trans h.det
  fuse := e.fuse.trans h.fuse
  qH := e.qH.trans h.qH
  qL := e.qL.trans h.qL

theorem State.KeepsUnits.ite {c : Prop} [Decidable c] (h : s.KeepsUnits t) (h' : s.KeepsUnits u) : s.KeepsUnits (if c then t else u) := by
  split
  · exact h
  · exact h'

theorem State.noteRise_keepsUnits (s : State) (k : FltClass) : s.KeepsUnits (s.noteRise k) := {}

theorem State.report_keepsUnits (s : State) (k : FltClass) : s.KeepsUnits (s.report k) := .ite (.trans {} (State.noteRise_keepsUnits _ k)) {}

theorem State.level_keepsUnits (s : State) (k : FltClass) (on : Bool) : s.KeepsUnits (s.level k on) :=
  .ite (.trans {} (State.noteRise_keepsUnits _ k)) {}

theorem State.setStale_keepsUnits (s : State) (n : Nat) (b : Bool) : s.KeepsUnits (s.setStale n b) :=
  .trans {} (State.level_keepsUnits _ .chore _)

theorem State.noteLog_keepsUnits (s : State) : s.KeepsUnits s.noteLog := .ite (s.setStale_keepsUnits 5 true) {}

/-- The shadow of the monotonic counter is apart from the injected charge in MRAM (R326). -/
theorem State.monoInc_keepsUnits (s : State) : s.KeepsUnits s.monoInc where
  qH := by unfold State.monoInc; dsimp only; split <;> rfl
  qL := by unfold State.monoInc; dsimp only; split <;> rfl

theorem State.audit_keepsUnits (s : State) (session : Word) (role index slot : Byte) (opcode : BitVec 16) (st : Byte) (param : BitVec 128) :
    s.KeepsUnits (s.audit session role index slot opcode st param) :=
  (s.monoInc_keepsUnits.trans {}).trans (State.noteLog_keepsUnits _)

theorem State.auditSlot_keepsUnits (s : State) (slot : Slot) (st : Byte) : s.KeepsUnits (s.auditSlot slot st) := by
  unfold State.auditSlot
  split
  · exact State.audit_keepsUnits ..
  · exact {}

theorem State.writeAnswer_keepsUnits (s : State) (slot : Slot) (st : Byte) (payload bulk : List Byte) :
    s.KeepsUnits (s.writeAnswer slot st payload bulk) := (s.auditSlot_keepsUnits slot st).trans {}

theorem State.answer_keepsUnits (s : State) (slot : Slot) (st : Byte) (payload : List Byte) : s.KeepsUnits (s.answer slot st payload) :=
  .ite ((s.auditSlot_keepsUnits slot st).trans {}) (s.writeAnswer_keepsUnits slot st payload [])

theorem State.answerTo_keepsUnits (s : State) (slot : Option Slot) (st : Byte) (payload : List Byte) : s.KeepsUnits (s.answerTo slot st payload) := by
  cases slot with
  | none => exact {}
  | some k => exact s.answer_keepsUnits k st payload

end Sys2Proof.Machine
end

section
/-! CTX_CANCEL where the active half would break R52 (R273). -/

namespace Sys2Proof.Machine

variable {s : State} {slot : Slot}

/-- A command posted on a slot leaves the contexts as they are. -/
theorem State.posted_.ctx {u : State} (hu : s.posted_ u slot) : u.ctx = s.ctx := by
  obtain ⟨b, a, y, -, -, rfl⟩ := hu
  rfl

variable {ctx : Byte}

/-- A cancelled swap leaves the active half: where a field sequence cannot take that half, CTX_CANCEL is refused (R52, R266). -/
theorem ctxCancelRun_refused {ses : Option Session} (hc : ctx.toNat < 16) (free : (vget s.ctx (finOf 16 ctx.toNat)).lockUntil = none)
    (scheduled : (vget s.ctx (finOf 16 ctx.toNat)).sched.isSome = true)
    (mixed : s.leadMixed (finOf 16 ctx.toNat) (vget s.ctx (finOf 16 ctx.toNat)).active = true) :
    ctxCancelRun slot ctx ses s = .done 3 [] [] s := by
  have inRange : ¬ 16 ≤ ctx.toNat := by omega
  simp only [ctxCancelRun, inRange, if_false, ctxRun, free, Option.isSome_none, Bool.false_eq_true, State.ctxDo, scheduled, mixed, Bool.and_self,
    if_true]
  rfl

/-- A refused CTX_CANCEL answers BAD_PARAM and changes nothing. -/
theorem ctxCancel_refused {h : CmdHeader} {ses : Option Session} (ha : s.admits slot h 1 anyMode false false ses) (hc : ctx.toNat < 16)
    (free : (vget s.ctx (finOf 16 ctx.toNat)).lockUntil = none) (scheduled : (vget s.ctx (finOf 16 ctx.toNat)).sched.isSome = true)
    (mixed : s.leadMixed (finOf 16 ctx.toNat) (vget s.ctx (finOf 16 ctx.toNat)).active = true) :
    Replies (.ctxCancel slot h ctx) s slot 3 [] [] id := by
  refine Replies.of_done exec_ctxCancel ha id (by simp) (by simp) fun u hu => ?_
  obtain ⟨b, a, y, -, -, rfl⟩ := hu
  exact ctxCancelRun_refused hc free scheduled mixed

/-- A half in format F2 with time-sliced fields, of which context 1 serves field B, and with a pedestal of its own. -/
def sequenceHalf : CtxHalf := vset (vset (vset CtxHalf.reset 0 0x00430001#32) 2 0x00050000#32) 3 0x00010000#32

/-- An operator's session in slot 0. -/
def operatorSession : Session := { id := 1, role := 1, index := 0, nonce := 0, since := 0, held := false }

/-- The header of a command under it. -/
def operatorHeader : CmdHeader := { tag := 0, flags := 0, session := 1, status := 0, elapsed := 0, reserved := 0 }

/-- READY with context 0 in the lead. Its field sequence has the conversion registers that the scheduled swap of context 1 brings; the active half of
context 1 has others. -/
def swapAwaited : State :=
  let z := State.reset
  { z with
    host := { z.host with phase := 5 }, mode := { z.mode with mode := .ready },
    tack := { z.tack with sessions := vset z.tack.sessions 0 (some operatorSession) },
    ctx := vset (vset z.ctx 0 { Ctx.reset with active := sequenceHalf }) 1
      { Ctx.reset with shadow := vset CtxHalf.reset 0 0x00430001#32, sched := some (400, none) } }

theorem swapAwaited_admits : swapAwaited.admits 0 operatorHeader 1 anyMode false false (some operatorSession) := by
  refine ⟨by decide, by decide, rfl, .inr (by decide), .inr ⟨_, rfl, .inr (by decide)⟩, by decide, nofun⟩

/-- With its active half kept, context 1 breaks R52 for the lead's field sequence. -/
theorem swapAwaited_mixed : swapAwaited.leadMixed 1 (vget swapAwaited.ctx 1).active = true := by decide

/-- Refutes O27: CTX_CANCEL is said to drop every scheduled swap with OK, but one whose context's active half breaks R52 is refused with BAD_PARAM, and
the swap stays scheduled. -/
theorem not_contextCommandsMoveHalves : ¬ Obligations.ContextCommandsMoveHalves := by
  unfold Obligations.ContextCommandsMoveHalves
  intro holds
  obtain ⟨-, -, -, cancel, -⟩ := holds swapAwaited 0 0 operatorHeader 1 0 0 0 CtxHalf.reset 0 (some operatorSession) 400 .cancel (by decide)
  obtain ⟨-, unasked, -⟩ := (cancel swapAwaited_admits).1 (by decide)
  obtain ⟨u, -, dropped⟩ := unasked (by decide)
  obtain ⟨v, hv, refused⟩ := ctxCancel_refused (ctx := 1) swapAwaited_admits (by decide) (by decide) (by decide) swapAwaited_mixed
  have same := congrArg (fun z : State => (vget z.ctx 1).sched) (Host.Outcome.next.inj (dropped.symm.trans refused))
  rw [(State.writeAnswer_keepsUnits ..).ctx, (State.writeAnswer_keepsUnits ..).ctx, id_eq, hv.ctx] at same
  have none_left : none = (vget swapAwaited.ctx 1).sched := (congrArg Ctx.sched (vget_vset_self _ _ _)).symm.trans same
  exact absurd none_left (by decide)

end Sys2Proof.Machine
end

section
/-! Stages 1 to 4 of a pixel (R142–R145). -/

namespace Sys2Proof.Machine

/-- A full accumulator of F1: in FRAME the upper half is all ones, else the sticky bit is set; of F2 and F4: the field is all ones (R70, R71). -/
theorem decodeField_full {h : CtxHalf} {frame : Bool} {f : Fin 4} {acc : BitVec 48}
    (full : (cFmt h = 0 ∧ frame = false ∧ bit acc 24 = true) ∨ (cFmt h = 0 ∧ frame = true ∧ field acc 47 24 = 0xFFFFFF)
      ∨ (cFmt h = 1 ∧ acc.extractLsb' (24 * f.val) 24 = 0xFFFFFF#24) ∨ (2 ≤ cFmt h ∧ acc.extractLsb' (12 * f.val) 12 = 0xFFF#12)) :
    (decodeField h frame f acc).2 = true := by
  unfold decodeField
  rcases full with ⟨fmt, rfl, top⟩ | ⟨fmt, rfl, top⟩ | ⟨fmt, top⟩ | ⟨fmt, top⟩
  · simp [fmt, top]
  · simp [fmt, top]
  · simp [fmt, top]
  · have : cFmt h ≠ 0 := by omega
    have : cFmt h ≠ 1 := by omega
    simp [*]

/-- A full field of a pixel is saturated: it has no value, and a column without a contribution is defective too (R141, R142). -/
theorem normPix_full {h : CtxHalf} {rescale defect frame : Bool} {nom : Nat} {f : Fin 4} {tab : Int × Nat} {ofs : Int × Int} {c : Cell}
    (full : (decodeField h frame f c.acc).2 = true) :
    normPix h rescale nom frame f defect tab ofs c = { v := 0, sat := true, unrep := false, bad := defect || decide (vget c.hg f + vget c.lg f = 0) } := by
  simp only [normPix, full, if_true]
  rfl

/-- The value of an unsaturated pixel of F1 (R143, R144): pedestals, ramp offsets and dark value subtracted, rescaled to the nominal count of stages, and
multiplied by the gain. -/
theorem normPix_open {h : CtxHalf} {c : Cell} (fmt : cFmt h = 0) (below : bit c.acc 24 = false) (rescale defect : Bool) (nom : Nat) (tab : Int × Nat)
    (ofs : Int × Int) :
    let au : Int := 8 / 2 ^ (cAu h).val
    let nh : Int := (vget c.hg 0 : Nat)
    let nl : Int := (vget c.lg 0 : Nat)
    let x : Int := 4096 * field c.acc 23 0 - nh * au * (4096 * cPed h 0 + ofs.1) - nl * au * (4096 * cPed h 1 + ofs.2) - 16 * (nh + nl) * tab.1
    let y : Int := if rescale = true ∧ 0 < nh + nl ∧ nh + nl < nom then rheDiv (x * nom) (16 * (nh + nl)) else rhe x 4
    normPix h rescale nom false 0 defect tab ofs c = { v := rhe (y * tab.2) 14, sat := false, unrep := false, bad := defect || decide (nh + nl = 0) } := by
  intro au nh nl x y
  have decoded : decodeField h false 0 c.acc = (field c.acc 23 0, false) := by simp [decodeField, fmt, below]
  have value : 4096 * ((field c.acc 23 0 : Nat) : Int) - nh * (4096 * cPed h 0 * au + ofs.1 * au) - nl * (4096 * cPed h 1 * au + ofs.2 * au)
      - 16 * ((vget c.hg 0 + vget c.lg 0 : Nat) : Int) * tab.1 = x := by
    push_cast
    ring
  have count : nh + nl = ((vget c.hg 0 + vget c.lg 0 : Nat) : Int) := (Nat.cast_add _ _).symm
  simp only [y, count, Nat.cast_pos, Nat.cast_lt, Nat.cast_eq_zero, ← value]
  simp only [normPix, decoded, Bool.false_eq_true, if_false, Bool.and_eq_true, decide_eq_true_eq, and_assoc]
  rfl

variable {x a b e g pa pe po : Pix} {o : Option Pix}

/-- A pixel that can serve a replacement (R145). -/
def Pix.Good (p : Pix) : Prop := p.bad = false ∧ p.sat = false

/-- Only a defective pixel that is not saturated is replaced (R145). -/
theorem replace_kept (h : x.bad = false ∨ x.sat = true) (p2 p1 r1 r2 : Option (Pix × Option Pix)) : replace p2 p1 (x, o) r1 r2 = x := by
  rcases h with h | h <;> simp [replace, h]

section
variable (hb : x.bad = true) (hs : x.sat = false)
include hb hs

/-- A defective column without a candidate stays unreplaced (R145). -/
theorem replace_none : replace none none (x, o) none none = { x with v := 0, unrep := true } := by
  cases o <;> simp [replace, hb, hs]

/-- Of the two sides the one with the smaller gradient serves, the left one where they tie (R145). -/
theorem replace_sides (ha : a.Good) (hb' : b.Good) (he : e.Good) (hg : g.Good) :
    replace (some (b, none)) (some (a, none)) (x, none) (some (e, none)) (some (g, none))
      = { x with v := if (e.v - g.v).natAbs < (a.v - b.v).natAbs then e.v else a.v } := by
  obtain ⟨aGood, aOpen⟩ := ha
  obtain ⟨bGood, bOpen⟩ := hb'
  obtain ⟨eGood, eOpen⟩ := he
  obtain ⟨gGood, gOpen⟩ := hg
  have smaller : 2 * ((e.v - g.v).natAbs : Int) < 2 * ((a.v - b.v).natAbs : Int) ↔ (e.v - g.v).natAbs < (a.v - b.v).natAbs := by omega
  simp only [replace, hb, hs, aGood, aOpen, bGood, bOpen, eGood, eOpen, gGood, gOpen, Option.bind_some, Bool.not_true, Bool.or_false, Bool.false_eq_true,
    if_false, List.foldl_cons, List.foldl_nil, smaller]
  by_cases right : (e.v - g.v).natAbs < (a.v - b.v).natAbs
  · simp only [right, if_true]
  · simp only [right, if_false]

/-- With the left side alone, its column serves. -/
theorem replace_left (ha : a.Good) (hb' : b.Good) : replace (some (b, none)) (some (a, none)) (x, none) none none = { x with v := a.v } := by
  obtain ⟨aGood, aOpen⟩ := ha
  obtain ⟨bGood, bOpen⟩ := hb'
  simp [replace, hb, hs, aGood, aOpen, bGood, bOpen]

/-- With a neighbour on either side, the previous line's column serves (R145). -/
theorem replace_previous (ha : a.Good) (he : e.Good) (hpa : pa.Good) (hpe : pe.Good) (open_ : po.sat = false) (replaced : po.unrep = false) :
    replace none (some (a, some pa)) (x, some po) (some (e, some pe)) none = { x with v := po.v } := by
  obtain ⟨aGood, aOpen⟩ := ha
  obtain ⟨eGood, eOpen⟩ := he
  obtain ⟨paGood, paOpen⟩ := hpa
  obtain ⟨peGood, peOpen⟩ := hpe
  simp [replace, hb, hs, aGood, aOpen, eGood, eOpen, paGood, paOpen, peGood, peOpen, open_, replaced]

end

end Sys2Proof.Machine
end

section
/-! Stages 5 and 7 (R146, R148): rounding, the merge outside the knees, and the output codes. -/

namespace Sys2Proof.Machine

/-- A common factor of dividend and divisor does not show in the rounded quotient. -/
theorem rheDiv_mul_left {k : Int} (hk : 0 < k) (a d : Int) : rheDiv (k * a) (k * d) = rheDiv a d := by
  have up : 2 * (k * (a % d)) < k * d ↔ 2 * (a % d) < d := by
    rw [show 2 * (k * (a % d)) = k * (2 * (a % d)) by ring]
    exact mul_lt_mul_iff_right₀ hk
  have down : k * d < 2 * (k * (a % d)) ↔ d < 2 * (a % d) := by
    rw [show 2 * (k * (a % d)) = k * (2 * (a % d)) by ring]
    exact mul_lt_mul_iff_right₀ hk
  simp only [rheDiv, Int.mul_ediv_mul_of_pos _ _ hk, Int.mul_emod_mul_of_pos _ _ hk, up, down]

section
variable {h : CtxHalf} {na nb fs : Nat} {a b : Pix}

/-- The weight of field B in the merge, where that of both fields is the distance of the knees (R146). -/
def mergeWeight (h : CtxHalf) (na fs : Nat) (a : Pix) : Int :=
  let x : Int := 1000 * 2 ^ (cAu h).val * a.v
  let lo : Int := 8 * cKneeLo h * na * fs
  let hi : Int := 8 * cKneeHi h * na * fs
  if a.sat || hi ≤ x then hi - lo else if x ≤ lo then 0 else x - lo

/-- The rounded weighted mean of the fields (R146). -/
def mergedValue (h : CtxHalf) (na nb fs : Nat) (a b : Pix) : Int :=
  let au : Int := 2 ^ (cAu h).val
  let lo : Int := 8 * cKneeLo h * na * fs
  let hi : Int := 8 * cKneeHi h * na * fs
  let w := mergeWeight h na fs a
  rheDiv (((hi - lo - w) * (au * a.v) * nb + w * (au * b.v) * na) * 256) ((hi - lo) * 8 * na * nb * 2 ^ cMshift h)

theorem mergePix_eq : mergePix h na nb fs a b = if b.sat || 0xFFFFF * 256 < mergedValue h na nb fs a b then
    { v := 0xFFFFF * 256, sat := true, unrep := a.unrep || b.unrep, bad := a.bad || b.bad }
  else { v := mergedValue h na nb fs a b, sat := false, unrep := a.unrep || b.unrep, bad := a.bad || b.bad } := rfl

/-- A saturated field B saturates the merged value (R146). -/
theorem mergePix_saturated (hb : b.sat = true) : (mergePix h na nb fs a b).sat = true ∧ (mergePix h na nb fs a b).v = 0xFFFFF * 256 := by
  simp [mergePix_eq, hb]

theorem mergePix_open (hb : b.sat = false) (fits : mergedValue h na nb fs a b ≤ 0xFFFFF * 256) :
    (mergePix h na nb fs a b).sat = false ∧ (mergePix h na nb fs a b).v = mergedValue h na nb fs a b := by
  rw [mergePix_eq, hb, Bool.false_or, decide_eq_false (by omega), if_neg Bool.false_ne_true]
  exact ⟨rfl, rfl⟩

variable (hna : 0 < na) (hfs : 0 < fs) (hk : cKneeLo h < cKneeHi h)
include hna hfs hk

theorem knees_apart : (8 * cKneeLo h * na * fs : Int) < 8 * cKneeHi h * na * fs := by
  have scale : (0 : Int) < 8 * na * fs := by positivity
  calc (8 * cKneeLo h * na * fs : Int) = 8 * na * fs * cKneeLo h := by ring
    _ < 8 * na * fs * cKneeHi h := by gcongr
    _ = 8 * cKneeHi h * na * fs := by ring

/-- From the upper knee on, and where field A is saturated, it is that of field B (R146). -/
theorem mergedValue_high (hx : a.sat = true ∨ (8 * cKneeHi h * na * fs : Int) ≤ 1000 * 2 ^ (cAu h).val * a.v) :
    mergedValue h na nb fs a b = rheDiv (2 ^ (cAu h).val * b.v * 256) (8 * nb * 2 ^ cMshift h) := by
  have apart := knees_apart hna hfs hk
  have weight : mergeWeight h na fs a = 8 * cKneeHi h * na * fs - 8 * cKneeLo h * na * fs := by
    simp only [mergeWeight, Bool.or_eq_true, decide_eq_true_eq, hx, if_true]
  have span : (0 : Int) < (8 * cKneeHi h * na * fs - 8 * cKneeLo h * na * fs) * na := by
    have := sub_pos.2 apart
    positivity
  rw [← rheDiv_mul_left span]
  simp only [mergedValue, weight]
  congr 1 <;> ring

/-- Below the lower knee the merged value is that of field A (R146). -/
theorem mergedValue_low (hnb : 0 < nb) (ha : a.sat = false) (hx : (1000 * 2 ^ (cAu h).val * a.v : Int) ≤ 8 * cKneeLo h * na * fs) :
    mergedValue h na nb fs a b = rheDiv (2 ^ (cAu h).val * a.v * 256) (8 * na * 2 ^ cMshift h) := by
  have apart := knees_apart hna hfs hk
  have weight : mergeWeight h na fs a = 0 := by
    simp only [mergeWeight, ha, Bool.false_or, decide_eq_true_eq, hx, if_true]
    rw [if_neg (by omega)]
  have span : (0 : Int) < (8 * cKneeHi h * na * fs - 8 * cKneeLo h * na * fs) * nb := by
    have := sub_pos.2 apart
    positivity
  rw [← rheDiv_mul_left span]
  simp only [mergedValue, weight]
  congr 1 <;> ring

end

/-- Every step of the root doubles the precision: the root found with the bits above `b` stays within `2 ^ b` of the true one. -/
theorem isqrtGo_spec {n b root : Nat} (lo : root * root ≤ n) (hi : n < (root + 2 ^ b) * (root + 2 ^ b)) :
    isqrtGo n b root * isqrtGo n b root ≤ n ∧ n < (isqrtGo n b root + 1) * (isqrtGo n b root + 1) := by
  induction b generalizing root with
  | zero => exact ⟨lo, by simpa [isqrtGo] using hi⟩
  | succ b ih =>
    simp only [isqrtGo]
    split
    case isTrue fits => exact ih fits (by rwa [add_assoc, ← two_mul, ← pow_succ'])
    case isFalse above => exact ih lo (by omega)

/-- The integer square root. -/
theorem isqrt_spec (n : Nat) : isqrt n * isqrt n ≤ n ∧ n < (isqrt n + 1) * (isqrt n + 1) := by
  refine isqrtGo_spec (Nat.zero_le n) ?_
  calc n < 2 ^ (n.log2 + 1) := Nat.lt_log2_self
    _ ≤ 2 ^ (n.log2 / 2 + 1 + (n.log2 / 2 + 1)) := Nat.pow_le_pow_right (by decide) (by omega)
    _ = (0 + 2 ^ (n.log2 / 2 + 1)) * (0 + 2 ^ (n.log2 / 2 + 1)) := by rw [zero_add, pow_add]

/-- Half of the root and one, rounded down, is the root of a quarter rounded to nearest. -/
theorem isqrt_rounded (n : Nat) : let r := (isqrt n + 1) / 2
    (2 * r - 1) * (2 * r - 1) ≤ n ∧ n < (2 * r + 1) * (2 * r + 1) := by
  obtain ⟨lo, hi⟩ := isqrt_spec n
  exact ⟨(Nat.mul_self_le_mul_self (by omega)).trans lo, hi.trans_le (Nat.mul_self_le_mul_self (by omega))⟩

theorem clampInt_eq {lo hi : Int} (h : lo ≤ hi) (x : Int) : clampInt lo hi x = max lo (min hi x) := by
  unfold clampInt
  split
  · omega
  · split <;> omega

/-- u of an unsaturated pixel is its scaled value with the black level, clamped (R148). -/
theorem outU16_open {h : CtxHalf} {p : Pix} (hs : p.sat = false) :
    outU16 h p = (max 0 (min 65535 (rhe (p.v * cOscale h) (8 + cOshift h) + cOblack h))).toNat := by
  rw [outU16, hs, if_neg Bool.false_ne_true, clampInt_eq (by decide)]

/-- The SQRT12 code is the root of 256 u, rounded to nearest and capped (R148). -/
theorem outCode_root {h : CtxHalf} (fmt : cOfmt h = 1) (lut : Strip Nat) (u : Nat) :
    ∃ r, outCode h lut u = Nat.min 4095 r ∧ (2 * r - 1) * (2 * r - 1) ≤ 1024 * u ∧ 1024 * u < (2 * r + 1) * (2 * r + 1) :=
  ⟨(isqrt (1024 * u) + 1) / 2, if_pos fmt, isqrt_rounded (1024 * u)⟩

theorem outCode_table {h : CtxHalf} (fmt : cOfmt h = 2) {lut : Strip Nat} {u n : Nat} (found : stripGet? lut (u / 16) = some n) :
    outCode h lut u = n := by
  simp [outCode, fmt, found]

theorem outCode_plain {h : CtxHalf} (h1 : cOfmt h ≠ 1) (h2 : cOfmt h ≠ 2) (lut : Strip Nat) (u : Nat) : outCode h lut u = u := by
  simp [outCode, h1, h2]

end Sys2Proof.Machine
end

section
/-! Run-length strips (R63): what combining and normalising leave at a column. -/

namespace Sys2Proof.Machine

variable {α β γ : Type}

theorem stripGet?_cons (n : Nat) (x : α) (xs : Strip α) (i : Nat) : stripGet? ((n, x) :: xs) i = if i < n then some x else stripGet? xs (i - n) := rfl

/-- Joining equal runs and leaving out empty ones changes no column. -/
theorem stripGet?_stripNorm [DecidableEq α] (xs : Strip α) (i : Nat) : stripGet? (stripNorm xs) i = stripGet? xs i := by
  induction xs generalizing i with
  | nil => rfl
  | cons p xs ih =>
    obtain ⟨n, x⟩ := p
    have step : stripNorm ((n, x) :: xs) = if n = 0 then stripNorm xs else match stripNorm xs with
        | [] => [(n, x)]
        | q :: rest => if x = q.2 then (n + q.1, x) :: rest else (n, x) :: q :: rest := rfl
    rw [step, stripGet?_cons, ← ih]
    split
    case isTrue empty => simp [empty]
    case isFalse =>
      cases stripNorm xs with
      | nil => rfl
      | cons q rest =>
        obtain ⟨m, y⟩ := q
        dsimp only
        split
        case isFalse => rfl
        case isTrue same =>
          subst same
          simp only [stripGet?_cons, Nat.sub_sub]
          by_cases inFirst : i < n
          · rw [if_pos inFirst, if_pos (by omega)]
          · rw [if_neg inFirst]
            by_cases inSecond : i - n < m
            · rw [if_pos inSecond, if_pos (by omega)]
            · rw [if_neg inSecond, if_neg (by omega)]

/-- A strip combined with one run: at each column of both, the function of the two values. -/
theorem stripGet?_stripWith_run (f : α → β → γ) (xs : Strip α) (n : Nat) (c : β) {i : Nat} {a : α} (hi : i < n) (ha : stripGet? xs i = some a) :
    stripGet? (stripWith f xs [(n, c)]) i = some (f a c) := by
  unfold stripWith
  rw [List.length_singleton]
  induction xs generalizing i n with
  | nil => cases ha
  | cons p xs ih =>
    obtain ⟨m, x⟩ := p
    rw [stripGet?_cons] at ha
    rw [List.length_cons, stripZip]
    split
    case isTrue shorter =>
      rw [stripGet?_cons]
      split
      case isTrue here => rw [if_pos here] at ha; cases ha; rfl
      case isFalse later => rw [if_neg later] at ha; exact ih (n - m) (by omega) ha
    case isFalse =>
      rw [if_pos (by omega)] at ha
      cases ha
      split
      · rw [stripGet?_cons, if_pos hi]
      · rw [stripGet?_cons, if_pos (by omega)]

theorem stripSum_eq (f : α → Nat) (xs : Strip α) : stripSum f xs = (xs.map fun p => p.1 * f p.2).sum := by
  rw [stripSum, List.sum_eq_foldl, List.foldl_map]

end Sys2Proof.Machine
end

section
/-! A line joins a frame (R153), and the packets of a line (R230, R231). -/

namespace Sys2Proof.Machine

section
variable (fr : Frame) {flags : BitVec 9} (ofmt n unrep : Nat) (cells : Strip Cell) (c : Code)

/-- The frame after the counts that every line adds to, whatever its flags. -/
def Frame.counted (fr : Frame) (cells : Strip Cell) : Frame :=
  { fr with lines := fr.lines + 1,
            satConv := Nat.min (fr.satConv + (cells.map fun p => p.1 * p.2.ovr).sum) 0xFFFFFFFF,
            masked := Nat.min (fr.masked + (cells.map fun p => p.1 * p.2.masked).sum) 0xFFFFFFFF }

theorem Frame.add_eq (codes : Strip Code) : fr.add flags ofmt cells codes unrep =
    if flagsBar flags then fr.counted cells
    else { fr.counted cells with
      included := fr.included + 1,
      hist := codes.foldl (fun h p => vset h (histBin ofmt p.2) (cap32 (vget h (histBin ofmt p.2) + p.1))) fr.hist,
      lo := codes.foldl (fun m p => Nat.min m p.2.code) fr.lo,
      hi := codes.foldl (fun m p => Nat.max m p.2.code) fr.hi,
      satPix := cap32 (fr.satPix + stripSum (fun c => if c.sat then 1 else 0) codes),
      unrepl := cap32 (fr.unrepl + unrep),
      sums := if fr.colStat then stripNorm (stripWith (fun s c => (s.1 + c.code, s.2 + c.code * c.code)) fr.sums codes) else fr.sums } := by
  simp only [Frame.counted, ← stripSum_eq (fun z : Cell => z.ovr), ← stripSum_eq (fun z : Cell => z.masked)]
  rfl

/-- A line whose flags keep it out of the statistics joins the counts of every line alone (R153). -/
theorem Frame.add_barred (codes : Strip Code) (barred : flagsBar flags = true) : fr.add flags ofmt cells codes unrep = fr.counted cells := by
  rw [Frame.add_eq, if_pos barred]

variable (included : flagsBar flags = false)
include included

/-- A line of one run of codes joins every statistic (R153). -/
theorem Frame.add_run : fr.add flags ofmt cells [(n, c)] unrep = { fr.counted cells with
    included := fr.included + 1,
    hist := vset fr.hist (histBin ofmt c) (Nat.min (vget fr.hist (histBin ofmt c) + n) 0xFFFFFFFF),
    lo := Nat.min fr.lo c.code, hi := Nat.max fr.hi c.code,
    satPix := Nat.min (fr.satPix + if c.sat then n else 0) 0xFFFFFFFF,
    unrepl := Nat.min (fr.unrepl + unrep) 0xFFFFFFFF, sums := (fr.add flags ofmt cells [(n, c)] unrep).sums } := by
  have saturated : stripSum (fun c : Code => if c.sat then 1 else 0) [(n, c)] = if c.sat then n else 0 := by simp [stripSum]
  simp only [Frame.add_eq, included, Bool.false_eq_true, if_false, saturated]
  rfl

/-- Without column statistics the sums stay. -/
theorem Frame.add_sums_off (codes : Strip Code) (off : fr.colStat = false) : (fr.add flags ofmt cells codes unrep).sums = fr.sums := by
  simp [Frame.add_eq, included, off]

/-- With column statistics each column adds its code and the square of it (R153). -/
theorem Frame.add_sums_on (on : fr.colStat = true) {i : Nat} {t : Nat × Nat} (hi : i < n) (ht : stripGet? fr.sums i = some t) :
    stripGet? (fr.add flags ofmt cells [(n, c)] unrep).sums i = some (t.1 + c.code, t.2 + c.code * c.code) := by
  simp only [Frame.add_eq, included, Bool.false_eq_true, if_false, on, if_true, stripGet?_stripNorm]
  exact stripGet?_stripWith_run (fun s (c : Code) => (s.1 + c.code, s.2 + c.code * c.code)) fr.sums n c hi ht

end

theorem packPixels_word_cons (a : Nat) (px : List Nat) : packPixels 0 (a :: px) = bytesLe 2 a ++ packPixels 0 px := by
  cases px <;> rfl

theorem packPixels_byte_cons (a : Nat) (px : List Nat) : packPixels 2 (a :: px) = BitVec.ofNat 8 a :: packPixels 2 px := by
  cases px <;> rfl

/-- U16 codes take two bytes each, least significant first (R231). -/
theorem packPixels_word (px : List Nat) : packPixels 0 px = px.flatMap (bytesLe 2) := by
  induction px with
  | nil => rfl
  | cons a px ih => rw [packPixels_word_cons, ih, List.flatMap_cons]

/-- Codes of a look-up table take one byte each (R231). -/
theorem packPixels_byte (px : List Nat) : packPixels 2 px = px.map (BitVec.ofNat 8) := by
  induction px with
  | nil => rfl
  | cons a px ih => rw [packPixels_byte_cons, ih, List.map_cons]

section
variable {stream seq i : Nat} {x : Formatted} {f : Fin 4} {trunc : Bool} {pos : BitVec 5} {colOfs : BitVec 19} {z : Packet}
  (hz : (linePackets stream seq x f trunc pos colOfs)[i]? = some z)
include hz

/-- Packet i of a line holds segment i (R230, R231). -/
theorem linePackets_payload : (lineSegments (cOfmt (vget x.line.half f)) (x.codes[f.val]?.getD []) x.line.cells x.line.refs)[i]? = some z.payload := by
  simp only [linePackets, List.getElem?_map, List.getElem?_zipIdx, Option.map_map, Option.map_eq_some_iff] at hz
  obtain ⟨payload, found, rfl⟩ := hz
  exact found

theorem linePackets_header : z.header = packetHeader 1 stream (seq + i) x.line.line (z.payload.length / 32)
    (lineSpec i (field x.flags 5 0 + if trunc then 64 else 0) x.line.settle (vget x.line.serve f) pos colOfs) := by
  simp only [linePackets, List.getElem?_map, List.getElem?_zipIdx, Option.map_map, Option.map_eq_some_iff] at hz
  obtain ⟨payload, -, rfl⟩ := hz
  simp [mkPacket]

/-- Segment i holds 4,096 codes of the field from column 4,096 i on (R231). -/
theorem linePackets_pixels (formatted : cOfmt (vget x.line.half f) ≠ 3) : z.payload = packPixels (cOfmt (vget x.line.half f))
    ((((stripExpand (x.codes[f.val]?.getD [])).map (·.code)).drop (4096 * i)).take 4096) := by
  have found := linePackets_payload hz
  simp only [lineSegments, formatted, if_false, List.getElem?_map, Option.map_eq_some_iff] at found
  obtain ⟨j, hj, same⟩ := found
  obtain ⟨_, rfl⟩ := List.getElem?_eq_some_iff.1 hj
  simpa using same.symm

end

end Sys2Proof.Machine
end

section
/-! The statistics frames that a line joins and ends (R151–R154). -/

namespace Sys2Proof.Machine

/-- Entries changed one after another, each by a function of what it holds. -/
theorem vget_foldl_vset {α : Type} {n : Nat} (g : Fin n → α → α) (l : List (Fin n)) (hl : l.Nodup) (v : Vector α n) (i : Fin n) :
    vget (l.foldl (fun v j => vset v j (g j (vget v j))) v) i = if i ∈ l then g i (vget v i) else vget v i := by
  induction l generalizing v with
  | nil => simp
  | cons j l ih =>
    obtain ⟨fresh, nodup⟩ := List.nodup_cons.1 hl
    rw [List.foldl_cons, ih nodup, vget_vset]
    by_cases here : j = i
    · subst here
      simp [fresh]
    · simp [here, Ne.symm here]

section
variable {gr : Groom} {ctxs : Vector Ctx 16} {fields : List (Fin 4)} {counted : List CtxIx} {f : Fin 4} {fr : Frame}

/-- What ends is in progress no more, and the rest goes on. -/
theorem endFrames_frames (hn : fields.Nodup) (f : Fin 4) :
    vget (endFrames gr ctxs fields counted).1.frames f = if f ∈ fields then none else vget gr.frames f :=
  vget_foldl_vset (fun _ _ => none) fields hn gr.frames f

/-- A frame that ends and gathers statistics leaves them due, under the frame number of its context (R152, R154). -/
theorem endFrames_due (hf : f ∈ fields) (open_ : vget gr.frames f = some fr) (enabled : fr.enabled = true) :
    ∃ z ∈ (endFrames gr ctxs fields counted).1.stats, z.frame = fr ∧ z.fld = f ∧ z.next = 0 ∧ z.short = decide (fr.lines < fr.target)
      ∧ z.number = if counted.contains fr.ctx then (vget ctxs fr.ctx).frame - 1 else (vget ctxs fr.ctx).frame := by
  have among : (f, fr) ∈ fields.filterMap fun f => (vget gr.frames f).map fun fr => (f, fr) :=
    List.mem_filterMap.2 ⟨f, hf, by rw [open_]; rfl⟩
  exact ⟨_, List.mem_append_right _ (List.mem_map.2 ⟨(f, fr), List.mem_filter.2 ⟨among, enabled⟩, rfl⟩), rfl, rfl, rfl, rfl, rfl⟩

/-- The context of a frame that ends counts once at the line (R152). -/
theorem endFrames_counts (hf : f ∈ fields) (open_ : vget gr.frames f = some fr) (hc : fr.ctx ∉ counted) :
    (vget (endFrames gr ctxs fields counted).2 fr.ctx).frame = (vget ctxs fr.ctx).frame + 1 := by
  have served : fr.ctx ∈ (((fields.filterMap fun f => (vget gr.frames f).map fun fr => (f, fr)).map fun p => p.2.ctx).filter
      fun c => !counted.contains c).dedup := by
    rw [List.mem_dedup, List.mem_filter]
    refine ⟨List.mem_map.2 ⟨(f, fr), List.mem_filterMap.2 ⟨f, hf, by rw [open_]; rfl⟩, rfl⟩, ?_⟩
    simpa using hc
  exact congrArg Ctx.frame ((vget_foldl_vset (fun _ k => { k with frame := k.frame + 1 }) _ (List.nodup_dedup _) ctxs fr.ctx).trans (if_pos served))

end

section
variable (gr : Groom) (ctxs : Vector Ctx 16) (x : Formatted) (next : Option ExitLine)

/-- The frames in progress before line `x` joins them: a line that opens new ones ends those left. -/
def Groom.ready (gr : Groom) (ctxs : Vector Ctx 16) (x : Formatted) : Groom × Vector Ctx 16 :=
  if x.line.opens then endFrames gr ctxs [0, 1, 2, 3] gr.counted else (gr, ctxs)

/-- A line joins the frame of each field that it carries. -/
def Groom.joined (gr : Groom) (x : Formatted) : Vector (Option Frame) 4 :=
  (lineFields x.line).foldl (fun fs f => vset fs f (some (((vget fs f).getD (Frame.begin_ x.line f)).add x.flags (cOfmt x.line.half[f]) x.line.cells
    (x.codes[f.val]?.getD []) (x.unrep[f.val]?.getD 0)))) gr.frames

/-- Grooming once line `x` has joined its frames. -/
def Groom.taken (gr : Groom) (ctxs : Vector Ctx 16) (x : Formatted) : Groom := { (gr.ready ctxs x).1 with frames := (gr.ready ctxs x).1.joined x }

/-- The fields whose frames end with the line. -/
def Formatted.ending (x : Formatted) (next : Option ExitLine) (frames : Vector (Option Frame) 4) : List (Fin 4) :=
  List.filter (fun f : Fin 4 => match vget frames f with
    | some fr => x.line.cuts next || fr.target ≤ fr.lines
    | none => false) [0, 1, 2, 3]

theorem Formatted.ending_nodup (x : Formatted) (next : Option ExitLine) (frames : Vector (Option Frame) 4) : (x.ending next frames).Nodup :=
  List.Nodup.filter _ (by decide)

/-- The frame of a field that the line has joined. -/
def Groom.lineFrame (gr : Groom) (x : Formatted) (f : Fin 4) : Frame :=
  (if x.line.opens then Frame.begin_ x.line f else (vget gr.frames f).getD (Frame.begin_ x.line f)).add x.flags (cOfmt (vget x.line.half f))
    x.line.cells (x.codes[f.val]?.getD []) (x.unrep[f.val]?.getD 0)

theorem statLine_eq : statLine gr ctxs x next =
    (endFrames (gr.taken ctxs x) (gr.ready ctxs x).2 (x.ending next (gr.taken ctxs x).frames) [],
      { x with firsts := (lineFields x.line).map fun f => (vget (gr.taken ctxs x).frames f).elim true fun fr => fr.lines = 1 }) := by
  unfold statLine Groom.taken Groom.ready
  split <;> rfl

/-- A line's statistics touch the frames in progress, what is due and the contexts' frame numbers alone. -/
theorem statLine_groom : ∃ frames stats counted, (statLine gr ctxs x next).1.1 = { gr with frames := frames, stats := stats, counted := counted } := by
  rw [statLine_eq]
  unfold Groom.taken Groom.ready
  split <;> exact ⟨_, _, _, rfl⟩

theorem lineFields_nodup (x : ExitLine) : (lineFields x).Nodup := by
  unfold lineFields cFields
  split
  · decide
  · split <;> decide

theorem all_fields (f : Fin 4) : f ∈ ([0, 1, 2, 3] : List (Fin 4)) := by revert f; decide

theorem Groom.ready_frames (f : Fin 4) : vget (gr.ready ctxs x).1.frames f = if x.line.opens = true then none else vget gr.frames f := by
  unfold Groom.ready
  split
  · rw [endFrames_frames (by decide), if_pos (all_fields f)]
  · rfl

variable {x} {f : Fin 4} (hf : f ∈ lineFields x.line)
include hf

theorem Groom.taken_frames : vget (gr.taken ctxs x).frames f = some (gr.lineFrame x f) := by
  have joins := vget_foldl_vset (fun f old => some (((old : Option Frame).getD (Frame.begin_ x.line f)).add x.flags (cOfmt x.line.half[f]) x.line.cells
    (x.codes[f.val]?.getD []) (x.unrep[f.val]?.getD 0))) (lineFields x.line) (lineFields_nodup x.line) (gr.ready ctxs x).1.frames f
  rw [if_pos hf, Groom.ready_frames] at joins
  unfold Groom.lineFrame
  split at joins <;> rename_i opens <;> simp only [opens, if_true, Bool.false_eq_true, if_false] <;> exact joins

theorem Formatted.mem_ending : f ∈ x.ending next (gr.taken ctxs x).frames ↔
    x.line.cuts next = true ∨ (gr.lineFrame x f).target ≤ (gr.lineFrame x f).lines := by
  rw [Formatted.ending, List.mem_filter, gr.taken_frames ctxs hf]
  simp only [all_fields, true_and, Bool.or_eq_true, decide_eq_true_eq]

/-- A frame that neither reaches its length nor is cut goes on (R151). -/
theorem statLine_goesOn (goes : ¬ (x.line.cuts next = true ∨ (gr.lineFrame x f).target ≤ (gr.lineFrame x f).lines)) :
    vget (statLine gr ctxs x next).1.1.frames f = some (gr.lineFrame x f) := by
  rw [statLine_eq]
  refine (endFrames_frames (x.ending_nodup _ _) f).trans ((if_neg ?_).trans (gr.taken_frames ctxs hf))
  rwa [Formatted.mem_ending gr ctxs next hf]

/-- A frame that ends leaves its statistics due, and its context counts (R151, R152, R154). -/
theorem statLine_ends (ends : x.line.cuts next = true ∨ (gr.lineFrame x f).target ≤ (gr.lineFrame x f).lines) :
    let fr := gr.lineFrame x f
    vget (statLine gr ctxs x next).1.1.frames f = none
    ∧ (fr.enabled = true → ∃ z ∈ (statLine gr ctxs x next).1.1.stats, z.frame = fr ∧ z.fld = f ∧ z.next = 0 ∧ z.short = decide (fr.lines < fr.target)
        ∧ (x.line.opens = false → z.number = (vget ctxs fr.ctx).frame))
    ∧ (x.line.opens = false → (vget (statLine gr ctxs x next).1.2 fr.ctx).frame = (vget ctxs fr.ctx).frame + 1) := by
  intro fr
  have ending := (Formatted.mem_ending gr ctxs next hf).2 ends
  have joined := gr.taken_frames ctxs hf
  have kept (open_ : x.line.opens = false) : (gr.ready ctxs x).2 = ctxs := by simp [Groom.ready, open_]
  rw [statLine_eq]
  refine ⟨(endFrames_frames (x.ending_nodup _ _) f).trans (if_pos ending), fun enabled => ?_, fun open_ => ?_⟩
  · obtain ⟨z, due, frame, fld, first, short, number⟩ := endFrames_due (ctxs := (gr.ready ctxs x).2) (counted := []) ending joined enabled
    exact ⟨z, due, frame, fld, first, short, fun open_ => by rw [number, kept open_]; rfl⟩
  · rw [endFrames_counts ending joined List.not_mem_nil, kept open_]

end

end Sys2Proof.Machine
end

section
/-! The TICK slot, and what it leaves of the lines in the hub (R21, R50, R136, R139). -/

namespace Sys2Proof.Machine

/-- From `s` to `u` the lines in the hub, the tables that groom them, the characterisation and the frame numbers of the contexts stay, with the mode, the
string and the fuses. -/
structure State.KeepsLines (s u : State) : Prop where
  groom : u.groom = s.groom := by rfl
  sync : u.sync = s.sync := by rfl
  mode : u.mode = s.mode := by rfl
  fuse : u.fuse = s.fuse := by rfl
  tables : u.sensor.tables = s.sensor.tables := by rfl
  rchar : u.sensor.rchar = s.sensor.rchar := by rfl
  lastValid : u.sensor.lastValid = s.sensor.lastValid := by rfl
  qH : u.nvm.qH = s.nvm.qH := by rfl
  qL : u.nvm.qL = s.nvm.qL := by rfl
  frame (c : CtxIx) : (vget u.ctx c).frame = (vget s.ctx c).frame := by intro c; rfl

/-- The ports and the bays stay too. -/
structure State.KeepsSlots (s u : State) : Prop extends State.KeepsLines s u where
  port : u.port = s.port := by rfl
  det : u.det = s.det := by rfl

variable {s t u : State}

theorem State.KeepsLines.trans (h : s.KeepsLines t) (e : t.KeepsLines u) : s.KeepsLines u where
  groom := e.groom.trans h.groom
  sync := e.sync.trans h.sync
  mode := e.mode.trans h.mode
  fuse := e.fuse.trans h.fuse
  tables := e.tables.trans h.tables
  rchar := e.rchar.trans h.rchar
  lastValid := e.lastValid.trans h.lastValid
  qH := e.qH.trans h.qH
  qL := e.qL.trans h.qL
  frame c := (e.frame c).trans (h.frame c)

theorem State.KeepsSlots.trans (h : s.KeepsSlots t) (e : t.KeepsSlots u) : s.KeepsSlots u where
  toKeepsLines := h.toKeepsLines.trans e.toKeepsLines
  port := e.port.trans h.port
  det := e.det.trans h.det

theorem State.KeepsUnits.slots (h : s.KeepsUnits u) : s.KeepsSlots u where
  groom := h.groom
  sync := h.sync
  mode := h.mode
  fuse := h.fuse
  tables := congrArg Sensor.tables h.sensor
  rchar := congrArg Sensor.rchar h.sensor
  lastValid := congrArg Sensor.lastValid h.sensor
  qH := h.qH
  qL := h.qL
  frame c := by rw [h.ctx]
  port := h.port
  det := h.det

theorem State.KeepsSlots.ite {c : Prop} [Decidable c] (h : s.KeepsSlots t) (h' : s.KeepsSlots u) : s.KeepsSlots (if c then t else u) := by
  split
  · exact h
  · exact h'

theorem State.KeepsSlots.foldl {α : Type} {f : State → α → State} (hf : ∀ (s : State) x, s.KeepsSlots (f s x)) (xs : List α) (s : State) :
    s.KeepsSlots (xs.foldl f s) := by
  induction xs generalizing s with
  | nil => exact {}
  | cons x xs ih => exact (hf s x).trans (ih _)

/-- A change of a context that keeps its frame number. -/
theorem State.onCtx_keepsSlots (s : State) (c : CtxIx) (f : Ctx → Ctx) (hf : ∀ x, (f x).frame = x.frame) : s.KeepsSlots (s.onCtx c f) where
  frame c' := by
    rw [State.onCtx_ctx, vmod_eq_vset, vget_vset]
    split
    case isTrue here => subst here; exact hf _
    case isFalse => rfl

theorem State.answerSched_keepsSlots (s : State) (slot : Option Slot) (st : Byte) (line : Nat) : s.KeepsSlots (s.answerSched slot st line) :=
  (s.answerTo_keepsUnits slot st _).slots

theorem State.swapCtx_keepsSlots (s : State) (k : Nat) (c : CtxIx) (applied : Bool) (bad : CtxHalf → Bool) : s.KeepsSlots (s.swapCtx k c applied bad) := by
  unfold State.swapCtx
  dsimp only
  split
  · exact {}
  · refine .ite {} (.ite ?_ ?_)
    · exact ((s.onCtx_keepsSlots c (fun x => { x with sched := none }) fun _ => rfl).trans (State.report_keepsUnits _ .context).slots).trans
        (State.answerSched_keepsSlots _ _ _ _)
    · refine .trans (State.onCtx_keepsSlots _ c _ ?_) (State.answerSched_keepsSlots _ _ _ _)
      exact fun _ => rfl

theorem State.loadMap_keepsSlots (s : State) (m : Fin 16) : s.KeepsSlots (s.loadMap m) := .ite {} {}

theorem State.cancelSwap_keepsSlots (s : State) (c : CtxIx) : s.KeepsSlots (s.cancelSwap c) := by
  unfold State.cancelSwap
  split
  · exact {}
  · refine .trans (State.onCtx_keepsSlots _ c _ ?_) (State.answerSched_keepsSlots _ _ _ _)
    exact fun _ => rfl

/-- A context command touches its context, the stall map in the shadow and the stored contexts alone (R273). -/
theorem State.ctxDo_keepsSlots (s : State) (slot : Slot) (c : CtxIx) (w : CtxWork) : s.KeepsSlots (s.ctxDo slot c w).2 := by
  cases w with
  | write mask values =>
    simp only [State.ctxDo]
    split
    · exact {}
    · split
      · exact {}
      · exact State.onCtx_keepsSlots _ c _ fun _ => rfl
  | schedule line =>
    simp only [State.ctxDo]
    split
    · exact {}
    · split
      · exact {}
      · refine (s.loadMap_keepsSlots _).trans (State.onCtx_keepsSlots _ c _ ?_)
        exact fun _ => rfl
  | cancel =>
    simp only [State.ctxDo]
    split
    · exact {}
    · exact s.cancelSwap_keepsSlots c
  | get active => exact {}
  | store k =>
    simp only [State.ctxDo, State.nvCommit]
    split <;> exact {}

theorem State.runHeld_keepsSlots (s : State) (c : CtxIx) (slot : Slot) : s.KeepsSlots (s.runHeld c slot) := by
  unfold State.runHeld
  split
  case h_1 d w _ =>
    split
    · exact {}
    · have done := s.ctxDo_keepsSlots slot c w
      split <;> rename_i result <;> rw [result] at done
      · exact done.trans (State.answer_keepsUnits _ slot _ _).slots
      · exact done.trans {}
  case h_2 => exact {}

theorem State.unlockCtx_keepsSlots (s : State) (k : Nat) (c : CtxIx) : s.KeepsSlots (s.unlockCtx k c) := by
  unfold State.unlockCtx
  dsimp only
  split
  · exact {}
  · refine .ite {} (.trans (State.onCtx_keepsSlots s c _ ?_) (.foldl (fun s slot => s.runHeld_keepsSlots c slot) _ _))
    exact fun _ => rfl

/-- A context's mark of use is apart from its frame number. -/
theorem State.inUse_keepsSlots (s : State) (inUse : CtxIx → Bool) :
    s.KeepsSlots { s with ctx := Vector.ofFn fun i => { vget s.ctx i with inUse := inUse i } } where
  frame c := by simp [vget]

theorem State.tickSlot_keepsSlots (s : State) (k : Nat) (c : CtxIx) (applied : Bool) (m : Mode) (given : Option (Fin 16)) :
    s.KeepsSlots (s.tickSlot k c applied m given).2 := by
  unfold State.tickSlot
  dsimp only
  refine .trans (.trans (s.swapCtx_keepsSlots k c applied (leadBad m)) ?_) (State.inUse_keepsSlots _ _)
  exact .trans (.ite (State.swapCtx_keepsSlots _ k _ false ctxAloneBad) {}) (.foldl (fun s c => s.unlockCtx_keepsSlots k c) _ _)

theorem State.swapMap_keepsSlots (s : State) (want : Fin 16) : s.KeepsSlots (s.swapMap want) := by
  unfold State.swapMap
  refine .ite {} (.ite {} (.ite {} (.trans ?_ (State.report_keepsUnits _ .context).slots)))
  exact {}

theorem State.switchBanks_keepsSlots (s : State) (h : CtxHalf) : s.KeepsSlots (s.switchBanks h) := by
  unfold State.switchBanks
  exact {}

end Sys2Proof.Machine
end

section
/-! The slots of a line period before COMPOSE, and what they leave to it (R21). -/

namespace Sys2Proof.Machine

/-- A running port with nothing to send. -/
structure Port.Idle (q : Port) : Prop where
  running : q.state = .running
  composed : q.composed = []
  sealedOut : q.sealedOut = []
  fifo : q.fifo = []

/-- Blocks that a port sends leave its state and what it is to send. -/
theorem Port.Idle.sendBlock {q : Port} (h : q.Idle) (p : PortIx) (pol : Vector Bool 8) (b : Block) : (Port.sendBlock p pol q b).Idle := by
  unfold Port.sendBlock
  dsimp only
  split
  · exact ⟨h.running, h.composed, h.sealedOut, h.fifo⟩
  · exact ⟨h.running, h.composed, h.sealedOut, h.fifo⟩

theorem Port.Idle.sendBlocks {q : Port} (h : q.Idle) (p : PortIx) (pol : Vector Bool 8) (bs : List Block) : (bs.foldl (Port.sendBlock p pol) q).Idle := by
  induction bs generalizing q with
  | nil => exact h
  | cons b bs ih => exact ih (h.sendBlock p pol b)

/-- An idle port stays idle through its slots: its lanes send Idle blocks (R224). -/
theorem Port.Idle.slotsOf {q : Port} (h : q.Idle) (p : PortIx) (pol : Vector Bool 8) (t line : Nat) : (q.slotsOf p pol t line).Idle := by
  unfold Port.slotsOf
  split
  · have lanes : (q.lanesSlot p pol t).Idle := by
      unfold Port.lanesSlot
      have quiet : { q with lanes := Vector.replicate 8 [] }.Idle := ⟨h.running, h.composed, h.sealedOut, h.fifo⟩
      obtain ⟨running, composed, sealedOut, -⟩ := quiet.sendBlocks p pol
        ((fifoTake (q.slots (Nat.max 1234 (t - q.sentTb))) q.fifo).1 ++ List.replicate
          (q.slots (Nat.max 1234 (t - q.sentTb)) - (fifoTake (q.slots (Nat.max 1234 (t - q.sentTb))) q.fifo).1.length) idleBlock)
      exact ⟨running, composed, sealedOut, by simp only [h.fifo]; rfl⟩
    have stripe : (q.lanesSlot p pol t).stripeSlot.Idle := by
      refine ⟨lanes.running, lanes.composed, rfl, ?_⟩
      simp [Port.stripeSlot, lanes.fifo, lanes.sealedOut]
    unfold Port.sealSlot
    rw [stripe.composed]
    exact ⟨stripe.running, rfl, stripe.sealedOut, stripe.fifo⟩
  · exact h

/-- From `s` to `u` the lines in the hub and the streams stay, an idle port stays idle, and COMPOSE has the same flaw records to send. -/
structure State.KeepsStreams (s u : State) : Prop extends State.KeepsLines s u where
  stream : u.port.stream = s.port.stream := by rfl
  idle (p : PortIx) : (vget s.port.port p).Idle → (vget u.port.port p).Idle := by exact fun _ h => h
  flawOut : u.det.flawOut = s.det.flawOut := by rfl
  flawLost : u.det.flawLost = s.det.flawLost := by rfl

variable {s t u : State}

theorem State.KeepsStreams.trans (h : s.KeepsStreams t) (e : t.KeepsStreams u) : s.KeepsStreams u where
  toKeepsLines := h.toKeepsLines.trans e.toKeepsLines
  stream := e.stream.trans h.stream
  idle p hp := e.idle p (h.idle p hp)
  flawOut := e.flawOut.trans h.flawOut
  flawLost := e.flawLost.trans h.flawLost

theorem State.KeepsSlots.streams (h : s.KeepsSlots u) : s.KeepsStreams u where
  toKeepsLines := h.toKeepsLines
  stream := by rw [h.port]
  idle p := by rw [h.port]; exact id
  flawOut := by rw [h.det]
  flawLost := by rw [h.det]

theorem State.slotsOf_keepsStreams (s : State) (p : PortIx) (pol : Vector Bool 8) (t line : Nat) :
    s.KeepsStreams (s.onPort p fun q => q.slotsOf p pol t line) where
  idle p' hp := by
    simp only [State.onPort, vmod_eq_vset, vget_vset]
    split
    case isTrue here => subst here; exact hp.slotsOf ..
    case isFalse => exact hp

theorem State.KeepsStreams.foldl {α : Type} {f : State → α → State} (hf : ∀ (s : State) x, s.KeepsStreams (f s x)) (xs : List α) (s : State) :
    s.KeepsStreams (xs.foldl f s) := by
  induction xs generalizing s with
  | nil => exact {}
  | cons x xs ih => exact (hf s x).trans (ih _)

theorem State.portSlots_keepsStreams (s : State) : s.KeepsStreams s.portSlots :=
  .foldl (fun a p => a.slotsOf_keepsStreams p (s.polarity p) a.tb a.lineCnt.toNat) _ s

/-- From `s` to `u` the bays work: the flaw path gains records behind those it has. -/
structure State.Dispatches (s u : State) : Prop where
  det : ∃ det, u = { s with det := det } := by exact ⟨_, rfl⟩
  flawOut : ∃ late, u.det.flawOut = s.det.flawOut ++ late := by exact ⟨[], (List.append_nil _).symm⟩
  flawLost : u.det.flawLost = s.det.flawLost := by rfl

theorem State.Dispatches.trans (h : s.Dispatches t) (e : t.Dispatches u) : s.Dispatches u where
  det := by
    obtain ⟨d, rfl⟩ := h.det
    obtain ⟨d', rfl⟩ := e.det
    exact ⟨d', rfl⟩
  flawOut := by
    obtain ⟨late, first⟩ := h.flawOut
    obtain ⟨later, second⟩ := e.flawOut
    exact ⟨late ++ later, by rw [second, first, List.append_assoc]⟩
  flawLost := e.flawLost.trans h.flawLost

theorem State.Dispatches.ite {c : Prop} [Decidable c] (h : s.Dispatches t) (h' : s.Dispatches u) : s.Dispatches (if c then t else u) := by
  split
  · exact h
  · exact h'

theorem State.Dispatches.foldl {α : Type} {f : State → α → State} (hf : ∀ (s : State) x, s.Dispatches (f s x)) (xs : List α) (s : State) :
    s.Dispatches (xs.foldl f s) := by
  induction xs generalizing s with
  | nil => exact {}
  | cons x xs ih => exact (hf s x).trans (ih _)

theorem State.onBay_dispatches (s : State) (b : BayIx) (f : Bay → Bay) : s.Dispatches (s.onBay b f) := {}

theorem State.marker_dispatches (s : State) (b : BayIx) (j : LineJob) (kernel : BitVec 16) : s.Dispatches (s.marker b j kernel) where
  flawOut := ⟨_, rfl⟩

theorem State.startNext_dispatches (s : State) (b : BayIx) : s.Dispatches (s.startNext b) := by
  unfold State.startNext
  dsimp only
  refine .ite {} ?_
  split
  · exact s.onBay_dispatches b _
  · split
    · exact {}
    · exact .ite (s.onBay_dispatches b _) (s.onBay_dispatches b _)

/-- A job whose deadline has come leaves a marker (R197, R198). -/
theorem State.stopExpired_dispatches (s : State) (b : BayIx) : s.Dispatches (s.stopExpired b) := by
  unfold State.stopExpired
  dsimp only
  refine .trans (.trans ?_ (.foldl (fun s j => (s.marker_dispatches b j _).trans (State.onBay_dispatches _ b _)) _ _)) (State.onBay_dispatches _ b _)
  split
  · exact .ite (((s.marker_dispatches b _ _).trans (State.onBay_dispatches _ b _)).trans (State.onBay_dispatches _ b _)) (s.onBay_dispatches b _)
  · exact {}

theorem State.dispatchBay_dispatches (s : State) (new : BayIx → List LineJob) (b : BayIx) : s.Dispatches (s.dispatchBay new b) :=
  (((s.stopExpired_dispatches b).trans (State.onBay_dispatches _ b _)).trans (State.onBay_dispatches _ b _)).trans (State.startNext_dispatches _ b)

theorem State.feedAndDispatch_dispatches (s : State) (x : Option (RingLine × CtxHalf × CtxIx × Bool)) : s.Dispatches (s.feedAndDispatch x) := by
  unfold State.feedAndDispatch
  refine .trans ?_ (.foldl (fun s b => s.dispatchBay_dispatches _ b) _ _)
  split
  · exact .ite {} {}
  · exact {}

/-- What the bays add to the flaw path waits: COMPOSE has what was there before them (R21). -/
theorem State.Dispatches.held (h : s.Dispatches u) :
    s.KeepsStreams { u with det := { u.det with flawOut := u.det.flawOut.take s.det.flawOut.length } } := by
  obtain ⟨late, flawOut⟩ := h.flawOut
  have flawLost := h.flawLost
  obtain ⟨det, rfl⟩ := h.det
  exact { flawOut := by dsimp only; rw [flawOut, List.take_left], flawLost := flawLost }

end Sys2Proof.Machine
end

section
/-! What COMPOSE leaves of the lines in the hub (R21, R241). -/

namespace Sys2Proof.Machine

/-- From `s` to `u` packets are composed: of grooming, only what is due on the STAT stream and the counts of what no port took change. -/
structure State.Composes (s u : State) : Prop where
  tb : u.tb = s.tb := by rfl
  sensor : u.sensor = s.sensor := by rfl
  ctx : u.ctx = s.ctx := by rfl
  sync : u.sync = s.sync := by rfl
  mode : u.mode = s.mode := by rfl
  fuse : u.fuse = s.fuse := by rfl
  nvm : u.nvm = s.nvm := by rfl
  groom : ∃ stats dropped trunc, u.groom = { s.groom with stats := stats, statDropped := dropped, lineTrunc := trunc } := by exact ⟨_, _, _, rfl⟩

variable {s t u : State}

theorem State.Composes.trans (h : s.Composes t) (e : t.Composes u) : s.Composes u where
  tb := e.tb.trans h.tb
  sensor := e.sensor.trans h.sensor
  ctx := e.ctx.trans h.ctx
  sync := e.sync.trans h.sync
  mode := e.mode.trans h.mode
  fuse := e.fuse.trans h.fuse
  nvm := e.nvm.trans h.nvm
  groom := by
    obtain ⟨_, _, _, first⟩ := h.groom
    obtain ⟨stats, dropped, trunc, second⟩ := e.groom
    exact ⟨stats, dropped, trunc, by rw [second, first]⟩

theorem State.Composes.ite {c : Prop} [Decidable c] (h : s.Composes t) (h' : s.Composes u) : s.Composes (if c then t else u) := by
  split
  · exact h
  · exact h'

theorem State.Composes.foldl {α : Type} {f : State → α → State} (hf : ∀ (s : State) x, s.Composes (f s x)) (xs : List α) (s : State) :
    s.Composes (xs.foldl f s) := by
  induction xs generalizing s with
  | nil => exact {}
  | cons x xs ih => exact (hf s x).trans (ih _)

theorem State.onPort_composes (s : State) (p : PortIx) (f : Port → Port) : s.Composes (s.onPort p f) := {}

theorem State.onStream_composes (s : State) (k : StreamIx) (f : DataStream → DataStream) : s.Composes (s.onStream k f) := {}

theorem State.composeDiscont_composes (s : State) (k : StreamIx) (line : Nat) (reason : Byte) (count first skipped : Nat) :
    s.Composes (s.composeDiscont k line reason count first skipped) := (s.onPort_composes _ _).trans (State.onStream_composes _ k _)

theorem State.flushDue_composes (s : State) (k : StreamIx) (line : Nat) : s.Composes (s.flushDue k line) :=
  (s.onStream_composes k _).trans (.foldl (fun s _ => s.composeDiscont_composes k line _ _ _ _) _ _)

theorem State.composeData_composes (s : State) (k : StreamIx) (ps : List Packet) : s.Composes (s.composeData k ps) :=
  (s.onPort_composes _ _).trans (State.onStream_composes _ k _)

theorem State.notSent_composes (s : State) (k : StreamIx) (line : Nat) : s.Composes (s.notSent k line) := .trans {} (State.onStream_composes _ k _)

theorem State.composeLine_composes (s : State) (k : StreamIx) (x : Formatted) : s.Composes (s.composeLine k x) := by
  unfold State.composeLine
  dsimp only
  refine .ite (s.onStream_composes k _) (.ite (s.notSent_composes k _) ?_)
  exact ((s.onStream_composes k _).trans (State.flushDue_composes _ k _)).trans (State.composeData_composes _ k _)

theorem State.composeFlaw_composes (s : State) (k : StreamIx) (line : Nat) : s.Composes (s.composeFlaw k line) := by
  unfold State.composeFlaw
  extract_lets items stated _ emptied sent
  have hstated : s.Composes stated := .ite {} (s.onStream_composes k _)
  have hemptied : stated.Composes emptied := {}
  refine (hstated.trans hemptied).trans (.ite {} ?_)
  exact (emptied.flushDue_composes k line).trans (sent.composeData_composes k _)

theorem State.composeSummaries_composes (s : State) (k : StreamIx) (fuel : Nat) : s.Composes (s.composeSummaries k fuel) := by
  induction fuel generalizing s with
  | zero => exact {}
  | succ n ih =>
    rw [State.composeSummaries]
    split
    · exact {}
    · extract_lets others old lost more _ taken stated sent
      have htaken : s.Composes taken := {}
      have hstated : taken.Composes stated := .ite {} (taken.onStream_composes k _)
      have hsent : stated.Composes sent := stated.flushDue_composes k _
      exact (((htaken.trans hstated).trans hsent).trans (sent.composeData_composes k _)).trans (ih _)

theorem State.composeColumns_composes (s : State) (k : StreamIx) (fuel left : Nat) : s.Composes (s.composeColumns k fuel left) := by
  induction fuel generalizing s left with
  | zero => exact {}
  | succ n ih =>
    rw [State.composeColumns]
    split
    · exact {}
    · extract_lets flushed sent more
      refine .ite (.trans ?_ (ih _ _)) {}
      have hsent : s.Composes sent := (s.flushDue_composes k _).trans (flushed.composeData_composes k _)
      exact hsent.trans {}

/-- What COMPOSE does for one stream (R241). -/
def State.composeStream (s : State) (x : Option Formatted) (k : StreamIx) : State :=
  if !s.streamOpen k then
    match x with
    | some l => if s.resetHolds k l then s.onStream k fun d => d.countReset l.line.line else s
    | none => s
  else if (s.getStream k).kind = 0 then
    match x with
    | some l => if l.line.mode.toNat ≥ 3 then s.composeLine k l else s
    | none => s
  else if (s.getStream k).kind = 1 then s.composeFlaw k (x.elim 0 fun l => l.line.line)
  else s.composeSummaries k s.groom.stats.length

/-- The streams in ascending number, then the column packets of the open STAT stream (R154, R241). -/
theorem State.composeStreams_eq (s : State) (x : Option Formatted) : s.composeStreams x =
    let u := (List.finRange 16).foldl (fun a k => a.composeStream x k) s
    match (List.finRange 16).find? fun k => u.streamOpen k && (u.getStream k).kind = 2 with
    | none => u
    | some k => u.composeColumns k 16 ((u.getPort (u.getStream k).port).window - (u.getPort (u.getStream k).port).lineBytes) := by
  cases x <;> rfl

theorem State.composeStream_composes (s : State) (x : Option Formatted) (k : StreamIx) : s.Composes (s.composeStream x k) := by
  refine .ite ?_ (.ite ?_ (.ite (s.composeFlaw_composes k _) (s.composeSummaries_composes k _)))
  · split
    · exact .ite (s.onStream_composes k _) {}
    · exact {}
  · split
    · exact .ite (s.composeLine_composes k _) {}
    · exact {}

theorem State.composeStreams_composes (s : State) (x : Option Formatted) : s.Composes (s.composeStreams x) := by
  rw [State.composeStreams_eq]
  extract_lets u
  have streams : s.Composes u := .foldl (fun s k => s.composeStream_composes x k) _ s
  refine streams.trans ?_
  split
  · exact {}
  · exact u.composeColumns_composes _ _ _

theorem State.endStream_composes (s : State) (k : StreamIx) : s.Composes (s.endStream k) := by
  unfold State.endStream
  split
  · exact {}
  · refine .trans (s.onStream_composes k _) (.ite ?_ {})
    exact ((State.onStream_composes _ k _).trans (State.flushDue_composes _ k _)).trans (State.composeDiscont_composes _ k _ _ _ _ _)

theorem State.dueDiscont_composes (s : State) (x : ExitLine) : s.Composes (s.dueDiscont x) :=
  .foldl (fun s _ => .foldl (fun s k => s.onStream_composes k _) _ s) _ s

theorem State.composeTick_composes (s : State) (x : Option Formatted) : s.Composes (s.composeTick x) := by
  unfold State.composeTick
  extract_lets stated composed ended taken
  have hstated : s.Composes stated := by
    cases x with
    | none => exact {}
    | some l => exact s.dueDiscont_composes l.line
  have hended : s.Composes ended :=
    (hstated.trans (stated.composeStreams_composes x)).trans (.foldl (fun s k => s.endStream_composes k) _ composed)
  clear_value ended taken
  exact hended.trans {}

end Sys2Proof.Machine
end

section
/-! The slots of a line tick that begins and ends nothing: what COMPOSE finds, and what the array and the rest leave of the lines (R21). -/

namespace Sys2Proof.Machine

/-- From `s` to `u` nothing of grooming changes but the line on the yard link, and the packets and the characterisation stay. -/
structure State.KeepsGroomed (s u : State) : Prop where
  tb : u.tb = s.tb := by rfl
  ctx : u.ctx = s.ctx := by rfl
  port : u.port = s.port := by rfl
  rchar : u.sensor.rchar = s.sensor.rchar := by rfl
  groom : ∃ link, u.groom = { s.groom with link := link } := by exact ⟨_, rfl⟩

variable {s t u : State}

theorem State.KeepsGroomed.trans (h : s.KeepsGroomed t) (e : t.KeepsGroomed u) : s.KeepsGroomed u where
  tb := e.tb.trans h.tb
  ctx := e.ctx.trans h.ctx
  port := e.port.trans h.port
  rchar := e.rchar.trans h.rchar
  groom := by
    obtain ⟨_, first⟩ := h.groom
    obtain ⟨link, second⟩ := e.groom
    exact ⟨link, by rw [second, first]⟩

theorem State.KeepsUnits.groomed (h : s.KeepsUnits u) : s.KeepsGroomed u where
  tb := h.tb
  ctx := h.ctx
  port := h.port
  rchar := congrArg Sensor.rchar h.sensor
  groom := ⟨_, h.groom⟩

theorem State.captureTick_keepsGroomed (s : State) : s.KeepsGroomed s.captureTick := by
  unfold State.captureTick
  split
  · split <;> exact {}
  · exact {}

theorem State.arrayTick_keepsGroomed (s : State) (p : TickPlan) (light : List LightTerm) : s.KeepsGroomed (s.arrayTick p light) := {}

theorem State.atTb_keepsSlots (s : State) (t : Nat) : s.KeepsSlots (s.atTb t) := .ite {} (.ite {} {})

/-- Grooming is apart from the mode, the ports and the time. -/
theorem State.groomTicks_apart (s : State) : s.groomBTick.groomFTick.mode = s.mode ∧ s.groomBTick.groomFTick.port = s.port
    ∧ s.groomBTick.groomFTick.tb = s.tb := by
  have back : s.groomBTick.mode = s.mode ∧ s.groomBTick.port = s.port ∧ s.groomBTick.tb = s.tb := by
    unfold State.groomBTick
    split <;> exact ⟨rfl, rfl, rfl⟩
  rw [← back.1, ← back.2.1, ← back.2.2]
  unfold State.groomFTick
  split <;> exact ⟨rfl, rfl, rfl⟩

/-- The slots of a line tick while no transition, rejoin or reset of the pipeline is under way (R21): COMPOSE finds the lines and the streams as they
were, and after GROOM-F the line on the yard link alone changes. -/
theorem State.fireTick_stages (d : DueTick) (rest : List DueTick) (light : List LightTerm) (joins : s.sync.joinAt = none) (calm : s.mode.pending = none)
    (whole : s.groom.resetDue = false) : ∃ a t, s.KeepsStreams a
      ∧ (a.composeTick s.groom.back).Composes t ∧ t.port = (a.composeTick s.groom.back).port
      ∧ t.groomBTick.groomFTick.KeepsGroomed (s.fireTick d rest light) := by
  unfold State.fireTick
  extract_lets s0 k join ev last _ _ s1
  have timed : s.KeepsSlots s0 := s.atTb_keepsSlots d.inst
  have noJoin : join = none := by simp only [join, State.rejoinAt, timed.sync, joins]
  have noEvent : ev = .none := by simp only [ev, noJoin, State.tickEvent, timed.mode, calm]; rfl
  have started : s0.KeepsSlots s1 := {}
  clear_value join ev s1
  subst noJoin noEvent
  obtain ⟨c, applied, m⟩ := s0.leadAt k
  dsimp -zeta only
  have served := s1.tickSlot_keepsSlots k c applied m d.pos
  generalize s1.tickSlot k c applied m d.pos = slot at served ⊢
  obtain ⟨pos, s2⟩ := slot
  dsimp -zeta only at served ⊢
  extract_lets banked p mapped back exits ported arriving line held fed late _ found cut framed sent _ waited uncut groomed _ linked run rejoined marked
  have hbanked : s2.KeepsSlots banked := s2.switchBanks_keepsSlots _
  have hmapped : banked.KeepsSlots mapped := banked.swapMap_keepsSlots _
  have still : p.event = .none := rfl
  clear_value p mapped banked
  have hported : ported = mapped.portSlots := by simp only [ported, State.modeTick, still]
  clear_value ported
  subst hported
  have slots : s.KeepsSlots mapped := (timed.trans started).trans (served.trans (hbanked.trans hmapped))
  have ready : s.KeepsStreams mapped.portSlots := slots.streams.trans mapped.portSlots_keepsStreams
  have hline : line = s.groom.back := by
    simp only [line, back, ready.groom, slots.groom]
    cases s.groom.back <;> rfl
  have hfound : s.KeepsStreams found := ready.trans (mapped.portSlots.feedAndDispatch_dispatches _).held
  have hcut : cut = false := (congrArg Groom.resetDue hfound.groom).trans whole
  clear_value cut line found late arriving
  subst hline hcut
  have composes := found.composeTick_composes s.groom.back
  have stillSent : (found.composeTick s.groom.back).mode.pending = none := by rw [composes.mode, hfound.mode, calm]
  have hsent : sent = found.composeTick s.groom.back := by
    simp only [sent, framed, State.drainedTick, Bool.false_eq_true, if_false, stillSent]
  refine ⟨found, waited, hfound, ?_⟩
  rw [← hsent] at stillSent ⊢
  clear_value sent
  refine ⟨{}, rfl, ?_⟩
  have hwhole : uncut = waited := if_neg Bool.false_ne_true
  have stillGroomed : waited.groomBTick.groomFTick.mode.pending = none := by rw [waited.groomTicks_apart.1]; exact stillSent
  have hgroomed : groomed = waited.groomBTick.groomFTick := by simp only [groomed, State.drainTick, hwhole, stillGroomed]
  clear_value groomed uncut
  have hlinked : groomed.KeepsGroomed linked := {}
  clear_value linked
  have hrun : linked.KeepsGroomed run := ((linked.arrayTick_keepsGroomed p light).trans (State.captureTick_keepsGroomed _)).trans {}
  have hrejoined : rejoined = run := if_neg Bool.false_ne_true
  clear_value run rejoined
  have hmarked : rejoined.KeepsGroomed marked := (rejoined.setStale_keepsUnits 0 _).groomed
  clear_value marked
  subst hgroomed hrejoined
  exact ((hlinked.trans hrun).trans hmarked).trans {}

end Sys2Proof.Machine
end

section
/-! The GROOM-B and GROOM-F slots of a line tick (R21, R28, R142–R153). -/

namespace Sys2Proof.Machine

/-- Up to GROOM-B of a line tick the lines in the hub, the tables that groom them, the characterisation and the frame numbers stay. -/
structure State.KeepsHub (s u : State) : Prop where
  groom : ∃ stats dropped trunc, u.groom = { s.groom with stats := stats, statDropped := dropped, lineTrunc := trunc }
  tables : u.sensor.tables = s.sensor.tables
  rchar : u.sensor.rchar = s.sensor.rchar
  lastValid : u.sensor.lastValid = s.sensor.lastValid
  qH : u.nvm.qH = s.nvm.qH
  qL : u.nvm.qL = s.nvm.qL
  frame (c : CtxIx) : (vget u.ctx c).frame = (vget s.ctx c).frame

/-- After GROOM-B the line it has groomed and the frames stay. -/
structure State.KeepsBack (s u : State) : Prop where
  ctx : u.ctx = s.ctx
  back : u.groom.back = s.groom.back
  history : u.groom.history = s.groom.history
  frames : u.groom.frames = s.groom.frames
  stats : u.groom.stats = s.groom.stats

variable {s t u : State}

theorem State.KeepsLines.hub (h : s.KeepsLines t) (e : t.Composes u) : s.KeepsHub u where
  groom := by rw [← h.groom]; exact e.groom
  tables := by rw [e.sensor, h.tables]
  rchar := by rw [e.sensor, h.rchar]
  lastValid := by rw [e.sensor, h.lastValid]
  qH := by rw [e.nvm, h.qH]
  qL := by rw [e.nvm, h.qL]
  frame c := by rw [e.ctx, h.frame]

/-- GROOM-F comes after GROOM-B and leaves its line (R21). -/
theorem State.KeepsGroomed.back (h : s.groomFTick.KeepsGroomed u) : s.KeepsBack u := by
  have front : s.KeepsBack s.groomFTick := by
    unfold State.groomFTick
    split <;> exact ⟨rfl, rfl, rfl, rfl, rfl⟩
  obtain ⟨link, groom⟩ := h.groom
  exact ⟨h.ctx.trans front.ctx, by rw [groom]; exact front.back, by rw [groom]; exact front.history, by rw [groom]; exact front.frames,
    by rw [groom]; exact front.stats⟩

/-- GROOM-B without a line leaves none (R21). -/
theorem State.KeepsHub.back_none (hub : s.KeepsHub t) (later : t.groomBTick.KeepsBack u) (front : s.groom.front = none) : u.groom.back = none := by
  obtain ⟨_, _, _, groom⟩ := hub.groom
  have empty : t.groom.front = none := by rw [groom]; exact front
  rw [later.back, State.groomBTick, empty]

/-- GROOM-B merges, bins and formats its line, which then joins its frames (R21, R146–R153). -/
theorem State.KeepsHub.back_some (hub : s.KeepsHub t) (later : t.groomBTick.KeepsBack u) {g : Groomed} (front : s.groom.front = some g) :
    let merged := mergeFields (vget (vget s.sensor.tables 0) (cTable (vget g.line.half 0) 0)) g.line g.fields
    ∃ l, u.groom.back = some l ∧ l.line = g.line ∧ l.flags = g.flags
      ∧ l.feed = merged.zipIdx.map (fun p => stripNorm (stripMap (outU16 (vget g.line.half (finOf 4 p.2))) p.1))
      ∧ l.codes = merged.zipIdx.map (fun p => formatField s.groom (vget g.line.half (finOf 4 p.2)) p.1)
      ∧ u.groom.history = ((g.line.line, g.flags) :: s.groom.history).take 64
      ∧ ∀ f ∈ lineFields g.line,
        let old : Frame := if g.line.opens then Frame.begin_ g.line f else (vget s.groom.frames f).getD (Frame.begin_ g.line f)
        let fr := old.add g.flags (cOfmt (vget g.line.half f)) g.line.cells (l.codes[f.val]?.getD []) (l.unrep[f.val]?.getD 0)
        let ends : Prop := g.line.cuts s.groom.link = true ∨ fr.target ≤ fr.lines
        (¬ ends → vget u.groom.frames f = some fr)
        ∧ (ends → vget u.groom.frames f = none
          ∧ (fr.enabled = true → ∃ z ∈ u.groom.stats, z.frame = fr ∧ z.fld = f ∧ z.next = 0 ∧ z.short = decide (fr.lines < fr.target)
              ∧ (g.line.opens = false → z.number = (vget s.ctx fr.ctx).frame))
          ∧ (g.line.opens = false → (vget u.ctx fr.ctx).frame = (vget s.ctx fr.ctx).frame + 1)) := by
  intro merged
  obtain ⟨stats, dropped, trunc, groom⟩ := hub.groom
  have present : t.groom.front = some g := by rw [groom]; exact front
  let x := groomBack t.groom (vget (vget t.sensor.tables 0) (cTable (vget g.line.half 0) 0)) g
  have tick : t.groomBTick = { t with
      ctx := (statLine t.groom t.ctx x t.groom.link).1.2,
      groom := { (statLine t.groom t.ctx x t.groom.link).1.1 with
        back := some (statLine t.groom t.ctx x t.groom.link).2,
        history := ((g.line.line, g.flags) :: (statLine t.groom t.ctx x t.groom.link).1.1.history).take 64 } } := by
    rw [State.groomBTick, present]
  have history : (statLine t.groom t.ctx x t.groom.link).1.1.history = s.groom.history := by
    obtain ⟨_, _, _, kept⟩ := statLine_groom t.groom t.ctx x t.groom.link
    rw [kept, groom]
  have link : t.groom.link = s.groom.link := by rw [groom]
  have fields : merged = mergeFields (vget (vget t.sensor.tables 0) (cTable (vget g.line.half 0) 0)) g.line g.fields := by rw [hub.tables]
  refine ⟨{ x with firsts := (statLine t.groom t.ctx x t.groom.link).2.firsts }, ?_, rfl, rfl, ?_, ?_, ?_, fun f hf => ?_⟩
  · rw [later.back, tick, statLine_eq]
  · rw [fields]; rfl
  · rw [fields]
    have luts : t.groom.luts = s.groom.luts := by rw [groom]
    simp only [formatField, ← luts]
    rfl
  · rw [later.history, tick, history]
  · intro old fr ends
    have joined : t.groom.lineFrame x f = fr := by
      have frames : t.groom.frames = s.groom.frames := by rw [groom]
      rw [Groom.lineFrame, frames]
      rfl
    have ends_iff : ends ↔ x.line.cuts t.groom.link = true ∨ (t.groom.lineFrame x f).target ≤ (t.groom.lineFrame x f).lines := by
      rw [joined, link]
      exact Iff.rfl
    refine ⟨fun goes => ?_, fun ended => ?_⟩
    · rw [later.frames, tick]
      exact (statLine_goesOn t.groom t.ctx t.groom.link (x := x) hf (ends_iff.not.1 goes)).trans (congrArg some joined)
    · obtain ⟨gone, due, counts⟩ := statLine_ends t.groom t.ctx t.groom.link (x := x) hf (ends_iff.1 ended)
      rw [joined] at due counts
      rw [hub.frame] at due counts
      rw [later.frames, later.stats, later.ctx, tick]
      exact ⟨gone, due, counts⟩

/-- GROOM-B leaves the line on the yard link, the tables and the line before to GROOM-F (R21). -/
theorem State.groomBTick_leaves (s : State) : s.groomBTick.sensor = s.sensor ∧ s.groomBTick.nvm = s.nvm
    ∧ ∃ back frames counted stats history, s.groomBTick.groom =
      { s.groom with back := back, frames := frames, counted := counted, stats := stats, history := history } := by
  unfold State.groomBTick
  split
  · exact ⟨rfl, rfl, _, _, _, _, _, rfl⟩
  · rename_i g _
    obtain ⟨frames, stats, counted, kept⟩ := statLine_groom s.groom s.ctx
      (groomBack s.groom (vget (vget s.sensor.tables 0) (cTable (vget g.line.half 0) 0)) g) s.groom.link
    exact ⟨rfl, rfl, _, frames, counted, stats, _, by dsimp only; rw [kept]⟩

/-- What GROOM-F finds (R21). -/
structure State.KeepsFront (s u : State) : Prop where
  groom : ∃ back frames counted stats dropped trunc history, u.groom =
    { s.groom with back := back, frames := frames, counted := counted, stats := stats, statDropped := dropped, lineTrunc := trunc, history := history }
  rchar : u.sensor.rchar = s.sensor.rchar
  lastValid : u.sensor.lastValid = s.sensor.lastValid
  qH : u.nvm.qH = s.nvm.qH
  qL : u.nvm.qL = s.nvm.qL

theorem State.KeepsHub.front (hub : s.KeepsHub t) : s.KeepsFront t.groomBTick := by
  obtain ⟨sensor, nvm, back, frames, counted, stats, history, groom⟩ := t.groomBTick_leaves
  obtain ⟨_, dropped, trunc, before⟩ := hub.groom
  refine ⟨⟨back, frames, counted, stats, dropped, trunc, history, ?_⟩, ?_, ?_, ?_, ?_⟩
  · rw [groom, before]
  · rw [sensor, hub.rchar]
  · rw [sensor, hub.lastValid]
  · rw [nvm, hub.qH]
  · rw [nvm, hub.qL]

/-- GROOM-F without a line leaves none, and the characterisation as it was (R21, R55). -/
theorem State.KeepsFront.front_none (found : s.KeepsFront t) (later : t.groomFTick.KeepsGroomed u) (link : s.groom.link = none) :
    u.groom.front = none ∧ u.sensor.rchar = s.sensor.rchar := by
  obtain ⟨_, _, _, _, _, _, _, groom⟩ := found.groom
  have empty : t.groom.link = none := by rw [groom]; exact link
  obtain ⟨_, last⟩ := later.groom
  rw [last, later.rchar, State.groomFTick, empty]
  exact ⟨rfl, found.rchar⟩

theorem State.rampStaleAt_eq (s : State) (t : Nat) : s.rampStaleAt t = s.sensor.lastValid.elim true fun l => decide (l.1 + 100000000 < t) := by
  unfold State.rampStaleAt
  split
  · rename_i tb line valid
    rw [valid, Option.elim_some]
  · rename_i invalid
    rw [invalid, Option.elim_none]

/-- GROOM-F grooms the line on the yard link and characterises the ramps from it (R21, R28, R55, R142–R145). -/
theorem State.KeepsFront.front_some (found : s.KeepsFront t) (later : t.groomFTick.KeepsGroomed u) {x : ExitLine} (link : s.groom.link = some x) :
    ∃ g, u.groom.front = some g ∧ u.groom.prev = some g ∧ g.line = x
      ∧ g.flags = setBit x.flags 3 (bit x.flags 3 || s.sensor.lastValid.elim true fun l => decide (l.1 + 100000000 < x.exitTb))
      ∧ g.fields = (List.range (cFields (vget x.half 0))).map (fun f => groomField s.groom s.sensor.rchar x (prevFor s.groom.prev x (finOf 4 f)) (finOf 4 f))
      ∧ ∀ i, vget u.sensor.rchar i = (characterise s.nvm.qH s.nvm.qL x g.flags i (vget s.sensor.rchar i)).1 := by
  obtain ⟨_, _, _, _, _, _, _, groom⟩ := found.groom
  have present : t.groom.link = some x := by rw [groom]; exact link
  obtain ⟨_, last⟩ := later.groom
  rw [last, later.rchar, State.groomFTick, present]
  refine ⟨groomFront t.groom t.sensor.rchar (t.rampStaleAt x.exitTb) x, rfl, rfl, rfl, ?_, ?_, fun i => ?_⟩
  · rw [← found.lastValid, ← State.rampStaleAt_eq]
    rfl
  · rw [groomFront, groom, found.rchar]
    rfl
  · rw [← found.qH, ← found.qL, ← found.rchar]
    simp [characteriseLine, vget]

end Sys2Proof.Machine
end

section
/-! What one stream composes in a line period where it alone is enabled (R155, R230–R233, R241). -/

namespace Sys2Proof.Machine

/-- A packet as a port has it that composed it at TB `t`. -/
def Packet.at_ (z : Packet) (t : Nat) : Packet := { z with composedTb := t }

/-- From `s` to `u` stream `k` composes packets `ps` on its port. -/
structure State.Sends (s u : State) (k : StreamIx) (ps : List Packet) : Prop where
  tb : u.tb = s.tb := by rfl
  composed : (u.getPort (s.getStream k).port).composed = (s.getPort (s.getStream k).port).composed ++ ps.map (·.at_ s.tb) := by
    exact (List.append_nil _).symm
  seq : (u.getStream k).seq = (s.getStream k).seq + BitVec.ofNat 16 ps.length := by exact (BitVec.add_zero _).symm
  notProduced : (u.getStream k).notProduced = (s.getStream k).notProduced := by rfl
  exitDue : (u.getStream k).exitDue = (s.getStream k).exitDue := by rfl
  cfg (j : StreamIx) : (u.getStream j).cfg = (s.getStream j).cfg := by exact fun _ => rfl

variable {s t u : State} {k : StreamIx} {ps qs : List Packet}

theorem State.Sends.trans (h : s.Sends t k ps) (e : t.Sends u k qs) : s.Sends u k (ps ++ qs) where
  tb := e.tb.trans h.tb
  composed := by
    have port : (t.getStream k).port = (s.getStream k).port := by rw [DataStream.port, h.cfg]; rfl
    rw [← port, e.composed, port, h.composed, h.tb, List.map_append, List.append_assoc]
  seq := by rw [e.seq, h.seq, List.length_append, BitVec.ofNat_add, BitVec.add_assoc]
  notProduced := e.notProduced.trans h.notProduced
  exitDue := e.exitDue.trans h.exitDue
  cfg j := (e.cfg j).trans (h.cfg j)

theorem State.getStream_onStream (s : State) (k j : StreamIx) (f : DataStream → DataStream) :
    (s.onStream k f).getStream j = if k = j then f (s.getStream k) else s.getStream j := by
  rw [State.getStream, State.onStream, vmod_eq_vset, vget_vset]
  rfl

theorem State.getPort_onPort (s : State) (p : PortIx) (f : Port → Port) : (s.onPort p f).getPort p = f (s.getPort p) := by
  rw [State.getPort, State.onPort, vmod_eq_vset, vget_vset_self]
  rfl

/-- A change of another stream, or one that leaves what the stream sends. -/
theorem State.onStream_sends (s : State) (j : StreamIx) (f : DataStream → DataStream) (cfg : (f (s.getStream j)).cfg = (s.getStream j).cfg)
    (seq : j = k → (f (s.getStream j)).seq = (s.getStream j).seq) (notProduced : j = k → (f (s.getStream j)).notProduced = (s.getStream j).notProduced)
    (exitDue : j = k → (f (s.getStream j)).exitDue = (s.getStream j).exitDue) : s.Sends (s.onStream j f) k [] where
  seq := by
    rw [State.getStream_onStream]
    split
    case isTrue here => subst here; exact (seq rfl).trans (BitVec.add_zero _).symm
    case isFalse => exact (BitVec.add_zero _).symm
  notProduced := by
    rw [State.getStream_onStream]
    split
    case isTrue here => subst here; exact notProduced rfl
    case isFalse => rfl
  exitDue := by
    rw [State.getStream_onStream]
    split
    case isTrue here => subst here; exact exitDue rfl
    case isFalse => rfl
  cfg i := by
    rw [State.getStream_onStream]
    split
    case isTrue here => subst here; exact cfg
    case isFalse => rfl

theorem Port.foldl_compose_composed (t : Nat) (ps : List Packet) (q : Port) :
    (ps.foldl (fun q x => q.compose t x) q).composed = q.composed ++ ps.map (·.at_ t) := by
  induction ps generalizing q with
  | nil => exact (List.append_nil _).symm
  | cons x ps ih => exact (ih _).trans (List.append_assoc _ _ _)

/-- A run of packets is composed with the stream's next sequence numbers (R240). -/
theorem State.composeData_sends (s : State) (k : StreamIx) (ps : List Packet) : s.Sends (s.composeData k ps) k ps where
  composed := by
    have port : (s.composeData k ps).getPort (s.getStream k).port = (ps.foldl (fun q x => q.compose s.tb x) (s.getPort (s.getStream k).port)) :=
      s.getPort_onPort _ _
    rw [port, Port.foldl_compose_composed]
  seq := by
    unfold State.composeData
    rw [State.getStream_onStream, if_pos rfl]
    rfl
  notProduced := by
    unfold State.composeData
    rw [State.getStream_onStream, if_pos rfl]
    rfl
  exitDue := by
    unfold State.composeData
    rw [State.getStream_onStream, if_pos rfl]
    rfl
  cfg j := by
    unfold State.composeData
    rw [State.getStream_onStream]
    split
    case isTrue here => subst here; rfl
    case isFalse => rfl

/-- With nothing due on it a stream states nothing before its data (R238). -/
theorem State.flushDue_sends (due : (s.getStream k).due = []) (line : Nat) : s.Sends (s.flushDue k line) k [] := by
  have nothing : s.flushDue k line = s.onStream k fun d => { d with due := [] } := by rw [State.flushDue, due]; rfl
  rw [nothing]
  exact s.onStream_sends k _ rfl (fun _ => rfl) (fun _ => rfl) (fun _ => rfl)

theorem Port.Idle.fill {q : Port} (h : q.Idle) : q.fill = 0 := by simp [Port.fill, h.composed, h.sealedOut, h.fifo]

theorem DataStream.fieldBack_none {d : DataStream} (h : d.notProduced = none) : d.fieldBack = d := by rw [DataStream.fieldBack, h]

theorem DataStream.truncBack_none {d : DataStream} (h : d.truncated = none) : d.truncBack = d := by rw [DataStream.truncBack, h]

theorem State.Composes.stringPos (h : s.Composes t) : t.stringPos = s.stringPos := by rw [State.stringPos, State.stringPos, h.sync]

theorem State.Sends.seq_nil (h : s.Sends t k []) : (t.getStream k).seq = (s.getStream k).seq := h.seq.trans (BitVec.add_zero _)

/-- A field that the line does not carry counts, from the first line on (R232). -/
theorem State.composeLine_notProduced {x : Formatted} (uncarried : cFields (vget x.line.half 0) ≤ (s.getStream k).fld.val) :
    s.composeLine k x = s.onStream k fun d => { d with notProduced := some (match d.notProduced with
      | some (c, first) => (c + 1, first)
      | none => (1, x.line.line)) } := by
  unfold State.composeLine
  exact if_pos uncarried

/-- A LINE stream that carries the line's field sends its segments, where they fit an idle port (R155, R230–R232). -/
theorem State.composeLine_sends {x : Formatted} (due : (s.getStream k).due = []) (notProduced : (s.getStream k).notProduced = none)
    (truncated : (s.getStream k).truncated = none) (idle : (s.getPort (s.getStream k).port).Idle)
    (carried : (s.getStream k).fld.val < cFields (vget x.line.half 0)) (notRaw : cOfmt (vget x.line.half (s.getStream k).fld) ≠ 3)
    (fits : lineBytes x (s.getStream k).fld ≤ 262144) :
    s.Sends (s.composeLine k x) k
      (linePackets k.val (s.getStream k).seq.toNat x (s.getStream k).fld false s.stringPos (s.sync.geo.extractLsb' 0 19)) := by
  let ready := s.onStream k fun d => { d.fieldBack.truncBack with carriedTb := some x.line.exitTb }
  let flushed := ready.flushDue k x.line.line
  have carries : ({ (s.getStream k).fieldBack.truncBack with carriedTb := some x.line.exitTb } : DataStream) =
      { s.getStream k with carriedTb := some x.line.exitTb } := by
    rw [DataStream.fieldBack_none notProduced, DataStream.truncBack_none truncated]
  have readied : s.Sends ready k [] := by
    refine s.onStream_sends k _ ?_ (fun _ => ?_) (fun _ => ?_) (fun _ => ?_) <;> rw [carries]
  have stillDue : (ready.getStream k).due = [] := by
    rw [State.getStream_onStream, if_pos rfl, carries]
    exact due
  have before : s.Sends flushed k [] := readied.trans (ready.flushDue_sends stillDue x.line.line)
  have kept : s.Composes flushed := (s.onStream_composes k _).trans (ready.flushDue_composes k _)
  have takes : s.composeLine k x = flushed.composeData k
      (linePackets k.val (flushed.getStream k).seq.toNat x (s.getStream k).fld false flushed.stringPos flushed.colOfs) := by
    unfold State.composeLine
    simp [carried, truncated, notRaw, idle.fill, fits, flushed, ready]
  rw [takes, before.seq_nil, kept.stringPos, State.colOfs, kept.sync]
  exact before.trans (flushed.composeData_sends k _)

/-- A FLAW stream sends the records that wait, at most 1,023 in a packet (R233). -/
theorem State.composeFlaw_sends (due : (s.getStream k).due = []) (unlost : s.det.flawLost = 0) (records : s.det.flawOut ≠ []) (line : Nat) :
    s.Sends (s.composeFlaw k line) k (flawPackets k.val (s.getStream k).seq.toNat line s.det.flawOut.length
      (s.det.flawOut.map (flawBytes s.stringPos (s.sync.geo.extractLsb' 0 19) s.flagsOf))) := by
  let emptied : State := { s with det := { s.det with flawOut := [], flawLost := 0, flawLostFirst := none } }
  let flushed := emptied.flushDue k line
  have before : s.Sends flushed k [] := State.Sends.trans (t := emptied) (ps := []) {} (emptied.flushDue_sends due line)
  have kept : s.Composes flushed := State.Composes.trans (t := emptied) {} (emptied.flushDue_composes k line)
  have flags : flushed.flagsOf = s.flagsOf := by
    obtain ⟨_, _, _, groom⟩ := kept.groom
    funext n
    rw [State.flagsOf, State.flagsOf, groom]
  have takes : s.composeFlaw k line = flushed.composeData k (flawPackets k.val (flushed.getStream k).seq.toNat line s.det.flawOut.length
      (s.det.flawOut.map (flawBytes flushed.stringPos flushed.colOfs flushed.flagsOf))) := by
    unfold State.composeFlaw
    simp only [unlost, records, if_true, if_false]
    rfl
  rw [takes, before.seq_nil, kept.stringPos, flags, State.colOfs, kept.sync]
  exact before.trans (flushed.composeData_sends k _)

theorem foldl_idle {α β : Type} {f : β → α → β} {b : β} {l : List α} (idle : ∀ j ∈ l, f b j = b) : l.foldl f b = b := by
  induction l with
  | nil => rfl
  | cons j l ih =>
    rw [List.foldl_cons, idle j List.mem_cons_self]
    exact ih fun i hi => idle i (List.mem_cons_of_mem j hi)

/-- A pass over elements of which one alone does anything. -/
theorem foldl_only {α β : Type} {f : β → α → β} {l : List α} {k : α} (hk : k ∈ l) (hl : l.Nodup) {b : β}
    (before : ∀ j, j ≠ k → f b j = b) (after : ∀ j, j ≠ k → f (f b k) j = f b k) : l.foldl f b = f b k := by
  obtain ⟨l₁, l₂, rfl⟩ := List.append_of_mem hk
  have absent := (List.nodup_cons.1 (List.nodup_middle.1 hl)).1
  have first : ∀ j ∈ l₁, f b j = b := fun j hj => before j fun here => absent (here ▸ List.mem_append_left _ hj)
  have last : ∀ j ∈ l₂, f (f b k) j = f b k := fun j hj => after j fun here => absent (here ▸ List.mem_append_right _ hj)
  rw [List.foldl_append, foldl_idle first, List.foldl_cons, foldl_idle last]

/-- A disabled stream composes nothing (R94, R241). -/
theorem State.composeStream_disabled (off : (s.getStream k).en = false) (x : Option Formatted) : s.composeStream x k = s := by
  have closed : s.streamOpen k = false := by simp [State.streamOpen, off]
  unfold State.composeStream
  rw [closed]
  cases x with
  | none => rfl
  | some l => simp [State.resetHolds, off]

/-- The end of a disabled stream states nothing (R101). -/
theorem State.endStream_disabled {j : StreamIx} (hj : j ≠ k) (off : (s.getStream j).en = false) : s.Sends (s.endStream j) k [] := by
  unfold State.endStream
  split
  · exact {}
  · extract_lets ended
    have closed : ended.streamOpen j = false := by
      have stillOff : (ended.getStream j).en = false := by rw [State.getStream_onStream, if_pos rfl]; exact off
      simp [State.streamOpen, stillOff]
    rw [if_neg (Bool.eq_false_iff.1 closed)]
    exact s.onStream_sends j _ rfl (fun here => absurd here hj) (fun here => absurd here hj) (fun here => absurd here hj)

/-- Stream `k` alone is enabled, to send lines or flaw records, and no end of it is due. -/
structure State.Alone (s : State) (k : StreamIx) : Prop where
  others (j : StreamIx) : j ≠ k → (s.getStream j).en = false
  kind : (s.getStream k).kind ≠ 2
  exitDue : (s.getStream k).exitDue = none

theorem State.Alone.keeps (h : s.Alone k) (cfg : ∀ j, (t.getStream j).cfg = (s.getStream j).cfg) (exitDue : (t.getStream k).exitDue = none) :
    t.Alone k where
  others j hj := by rw [DataStream.en, cfg]; exact h.others j hj
  kind := by rw [DataStream.kind, cfg]; exact h.kind
  exitDue := exitDue

theorem State.Alone.endStreams (h : s.Alone k) (js : List StreamIx) : s.Sends (js.foldl State.endStream s) k [] := by
  induction js generalizing s with
  | nil => exact {}
  | cons j js ih =>
    have first : s.Sends (s.endStream j) k [] := by
      by_cases hj : j = k
      · subst hj
        rw [State.endStream, h.exitDue]
        exact {}
      · exact State.endStream_disabled hj (h.others j hj)
    exact first.trans (ih (h.keeps first.cfg (first.exitDue.trans h.exitDue)))

/-- With one stream enabled COMPOSE does what that stream does (R241). -/
theorem State.Alone.composeTick (h : s.Alone k) {x : Option Formatted} (h' : (s.composeStream x k).Alone k)
    (quiet : ∀ l, x = some l → l.line.disconts = []) : (s.composeStream x k).Sends (s.composeTick x) k [] := by
  unfold State.composeTick
  extract_lets stated composed ended taken
  have unstated : stated = s := by
    cases x with
    | none => rfl
    | some l => simp only [stated, State.dueDiscont, quiet l rfl, List.foldl_nil]
  have streams : (List.finRange 16).foldl (fun a k => a.composeStream x k) s = s.composeStream x k :=
    foldl_only (List.mem_finRange k) (List.nodup_finRange 16) (fun j hj => State.composeStream_disabled (h.others j hj) x)
      (fun j hj => State.composeStream_disabled (h'.others j hj) x)
  have noStat : ((List.finRange 16).find? fun j => (s.composeStream x k).streamOpen j && ((s.composeStream x k).getStream j).kind = 2) = none := by
    rw [List.find?_eq_none]
    intro j _
    by_cases hj : j = k
    · subst hj
      simp [h'.kind]
    · simp [State.streamOpen, h'.others j hj]
  have once : composed = s.composeStream x k := by
    simp only [composed, unstated, State.composeStreams_eq, streams, noStat]
  have done : (s.composeStream x k).Sends ended k [] := by
    rw [← once] at h' ⊢
    exact h'.endStreams _
  clear_value ended taken
  exact done.trans (ps := []) (qs := []) {}

end Sys2Proof.Machine
end

section
/-! What follows the array in a line tick (R141–R157, R230–R233). -/

namespace Sys2Proof.Machine

variable {s a u : State} {k : StreamIx} {p : PortIx}

/-- An open LINE stream sends the line that streams (R155, R241). -/
theorem State.composeStream_line (opened : s.streamOpen k = true) (kind : (s.getStream k).kind = 0) {l : Formatted} (ready : 3 ≤ l.line.mode.toNat) :
    s.composeStream (some l) k = s.composeLine k l := by
  unfold State.composeStream
  simp [opened, kind, ready]

/-- An open FLAW stream sends the records that wait (R233, R241). -/
theorem State.composeStream_flaw (opened : s.streamOpen k = true) (kind : (s.getStream k).kind = 1) (x : Option Formatted) :
    s.composeStream x k = s.composeFlaw k (x.elim 0 fun l => l.line.line) := by
  unfold State.composeStream
  simp [opened, kind]

/-- A running port of the variant with stream `k` alone enabled on it, and nothing to send. -/
structure State.Lone (s : State) (k : StreamIx) (p : PortIx) : Prop where
  enabled : bit (vget s.port.stream k).cfg 31 = true
  port : field (vget s.port.stream k).cfg 28 27 = p.val
  others (j : StreamIx) : j ≠ k → bit (vget s.port.stream j).cfg 31 = false
  due : (vget s.port.stream k).due = []
  exitDue : (vget s.port.stream k).exitDue = none
  has : s.hasPort p = true
  idle : (vget s.port.port p).Idle

theorem State.Lone.port_eq (h : s.Lone k p) : (s.getStream k).port = p := by
  rw [DataStream.port, show field (s.getStream k).cfg 28 27 = p.val from h.port]
  simp [finOf]

theorem State.Lone.streamOpen (h : s.Lone k p) : s.streamOpen k = true := by
  simp only [State.streamOpen, h.port_eq, Bool.and_eq_true, decide_eq_true_eq]
  exact ⟨⟨h.enabled, h.idle.running⟩, h.has⟩

theorem State.KeepsStreams.lone (h : s.KeepsStreams a) (e : s.Lone k p) : a.Lone k p where
  enabled := by rw [h.stream]; exact e.enabled
  port := by rw [h.stream]; exact e.port
  others := by rw [h.stream]; exact e.others
  due := by rw [h.stream]; exact e.due
  exitDue := by rw [h.stream]; exact e.exitDue
  has := by rw [State.hasPort, State.isSmall, h.fuse]; exact e.has
  idle := h.idle p e.idle

theorem State.Lone.alone (h : s.Lone k p) (kind : (s.getStream k).kind ≠ 2) : s.Alone k := ⟨h.others, kind, h.exitDue⟩

/-- The packets `ps` stand on port `p` as those of stream `k` that the line period composed. -/
def State.Sent (s u : State) (k : StreamIx) (p : PortIx) (ps : List Packet) : Prop :=
  (vget u.port.port p).composed = ps.map (fun z => { z with composedTb := u.tb })
    ∧ (vget u.port.stream k).seq = (vget s.port.stream k).seq + BitVec.ofNat 16 ps.length

section
variable (found : s.KeepsStreams a) (port : u.port = (a.composeTick s.groom.back).port) (tb : u.tb = (a.composeTick s.groom.back).tb)
  (lone : s.Lone k p) (quiet : ∀ l, s.groom.back = some l → l.line.disconts = [])
include found port lone quiet

/-- A LINE stream whose field the line does not carry sends nothing and counts the line (R232). -/
theorem State.Lone.line_unsent (kind : (s.getStream k).kind = 0) {l : Formatted} (back : s.groom.back = some l) (ready : 3 ≤ l.line.mode.toNat)
    (notProduced : (s.getStream k).notProduced = none) (uncarried : cFields (vget l.line.half 0) ≤ (s.getStream k).fld.val) :
    s.Sent u k p [] ∧ (vget u.port.stream k).notProduced = some (1, l.line.line) := by
  have same : a.getStream k = s.getStream k := by rw [State.getStream, found.stream]; rfl
  have here := found.lone lone
  have alone : a.Alone k := here.alone (by simp [same, kind])
  have counts : a.composeStream s.groom.back k = a.onStream k fun d => { d with notProduced := some (match d.notProduced with
      | some (c, first) => (c + 1, first)
      | none => (1, l.line.line)) } := by
    rw [back, State.composeStream_line here.streamOpen (by rw [same]; exact kind) ready]
    exact State.composeLine_notProduced (by rw [same]; exact uncarried)
  have counted : (a.composeStream s.groom.back k).getStream k = { s.getStream k with notProduced := some (1, l.line.line) } := by
    rw [counts, State.getStream_onStream, if_pos rfl, same, notProduced]
  have still : (a.composeStream s.groom.back k).Alone k := by
    refine alone.keeps (fun j => ?_) (by rw [counted]; exact lone.exitDue)
    rw [counts, State.getStream_onStream]
    split
    case isTrue here => subst here; rfl
    case isFalse => rfl
  have after := alone.composeTick still quiet
  have composed := after.composed
  rw [show ((a.composeStream s.groom.back k).getStream k).port = p by rw [counted]; exact lone.port_eq, counts,
    show ((a.onStream k _).getPort p).composed = [] from here.idle.composed] at composed
  refine ⟨⟨?_, ?_⟩, ?_⟩
  · rw [port]
    exact composed
  · rw [port]
    exact after.seq.trans (by rw [counted]; rfl)
  · rw [port]
    exact after.notProduced.trans (by rw [counted])

include tb

/-- What the one enabled stream sends in COMPOSE stands on its port at the end of the line period (R21, R241). -/
theorem State.Lone.sent (kind : (s.getStream k).kind ≠ 2) {ps : List Packet} (sends : a.Sends (a.composeStream s.groom.back k) k ps) : s.Sent u k p ps := by
  have same : a.getStream k = s.getStream k := by rw [State.getStream, found.stream]; rfl
  have here := found.lone lone
  have alone : a.Alone k := here.alone (by rw [same]; exact kind)
  have all := sends.trans (alone.composeTick (alone.keeps sends.cfg (sends.exitDue.trans alone.exitDue)) quiet)
  rw [List.append_nil] at all
  have composed := all.composed
  rw [here.port_eq, show (a.getPort p).composed = [] from here.idle.composed, List.nil_append] at composed
  refine ⟨?_, ?_⟩
  · rw [port, tb, all.tb]
    exact composed
  · rw [port, ← show a.getStream k = vget s.port.stream k from same]
    exact all.seq

/-- A LINE stream sends the segments of its field (R155, R230–R232). -/
theorem State.Lone.line_sent (kind : (s.getStream k).kind = 0) {l : Formatted} (back : s.groom.back = some l) (ready : 3 ≤ l.line.mode.toNat)
    (notProduced : (s.getStream k).notProduced = none) (truncated : (s.getStream k).truncated = none)
    (carried : (s.getStream k).fld.val < cFields (vget l.line.half 0)) (notRaw : cOfmt (vget l.line.half (s.getStream k).fld) ≠ 3)
    (fits : lineBytes l (s.getStream k).fld ≤ 262144) :
    s.Sent u k p (linePackets k.val (s.getStream k).seq.toNat l (s.getStream k).fld false s.stringPos (s.sync.geo.extractLsb' 0 19)) := by
  have same : a.getStream k = s.getStream k := by rw [State.getStream, found.stream]; rfl
  have here := found.lone lone
  refine lone.sent found port tb quiet (by simp [kind]) ?_
  rw [back, State.composeStream_line here.streamOpen (by rw [same]; exact kind) ready]
  have sends := State.composeLine_sends (x := l) here.due (by rw [same]; exact notProduced) (by rw [same]; exact truncated)
    (by rw [here.port_eq]; exact here.idle) (by rw [same]; exact carried) (by rw [same]; exact notRaw) (by rw [same]; exact fits)
  have place : a.stringPos = s.stringPos := by rw [State.stringPos, State.stringPos, found.sync]
  rwa [same, place, found.sync] at sends

/-- A FLAW stream sends the records that wait (R233). -/
theorem State.Lone.flaw_sent (kind : (s.getStream k).kind = 1) (unlost : s.det.flawLost = 0) (records : s.det.flawOut ≠ []) :
    s.Sent u k p (flawPackets k.val (s.getStream k).seq.toNat (s.groom.back.elim 0 fun l => l.line.line) s.det.flawOut.length
      (s.det.flawOut.map (flawBytes s.stringPos (s.sync.geo.extractLsb' 0 19) s.flagsOf))) := by
  have same : a.getStream k = s.getStream k := by rw [State.getStream, found.stream]; rfl
  have here := found.lone lone
  refine lone.sent found port tb quiet (by simp [kind]) ?_
  rw [State.composeStream_flaw here.streamOpen (by rw [same]; exact kind)]
  have sends := State.composeFlaw_sends (s := a) here.due (by rw [found.flawLost]; exact unlost) (by rw [found.flawOut]; exact records)
    (s.groom.back.elim 0 fun l => l.line.line)
  have place : a.stringPos = s.stringPos := by rw [State.stringPos, State.stringPos, found.sync]
  have flags : a.flagsOf = s.flagsOf := by
    funext n
    rw [State.flagsOf, State.flagsOf, found.groom]
  rwa [same, place, found.sync, found.flawOut, flags] at sends

end

end Sys2Proof.Machine
end

section
/-! O52: the grooming pipeline, its statistics and its packets. -/

namespace Sys2Proof.Machine

/-- The first tick that is due fires (R21, R122). -/
theorem exec_lineTick_fires {s : State} {d : DueTick} {rest : List DueTick} (due : s.tick.due = d :: rest) (fires : s.ticksMayFire = true)
    (light : List LightTerm) : exec (.lineTick light) s = .next (s.fireTick d rest light) := by
  rw [exec_lineTick, execLineTick, due]
  exact if_pos fires

/-- Settles O52, slot by slot along the line tick (`fireTick_stages`) and stage by stage along the pipeline. -/
theorem groomingStatisticsAndPackets : Obligations.GroomingStatisticsAndPackets := by
  unfold Obligations.GroomingStatisticsAndPackets
  refine ⟨fun s light d rest due fires joins calm whole => ?tick, fun h rescale defect nom tab ofs c fmt below => ?open_,
    fun h rescale defect frame nom f tab ofs c full => ?full, fun x a b e g o => ?replaced, fun h na nb fs a b hna hnb hfs knees => ?merged,
    fun h lut p u => ?output, fun fr flags ofmt n unrep cells c => ?frame, fun stream seq i x f trunc pos ofs z hz => ?packets⟩
  case tick =>
    obtain ⟨a, t, found, records, streams, last⟩ := s.fireTick_stages d rest light joins calm whole
    have lines := found.toKeepsLines
    have hub : s.KeepsHub t := lines.hub ((a.composeTick_composes _).trans records)
    refine ⟨s.fireTick d rest light, exec_lineTick_fires due fires light, hub.front.front_none last, hub.back_none last.back, fun x link => ?_,
      fun g front => ?_, fun k p => ?_⟩
    · exact hub.front.front_some last link
    · exact hub.back_some last.back front
    · intro y q enabled port others noneDue noExit running has composed sealedOut fifo quiet
      obtain ⟨-, samePort, sameTb⟩ := t.groomTicks_apart
      have lone : s.Lone k p := ⟨enabled, port, others, noneDue, noExit, has, ⟨running, composed, sealedOut, fifo⟩⟩
      have sentPort : (s.fireTick d rest light).port = (a.composeTick s.groom.back).port := (last.port.trans samePort).trans streams
      have sentTb : (s.fireTick d rest light).tb = (a.composeTick s.groom.back).tb := (last.tb.trans sameTb).trans records.tb
      refine ⟨fun l kind back ready notProduced truncated => ⟨fun carried notRaw fits => ?_, fun uncarried => ?_⟩, fun kind unlost records => ?_⟩
      · exact lone.line_sent found sentPort sentTb quiet kind back ready notProduced truncated carried notRaw fits
      · exact lone.line_unsent found sentPort quiet kind back ready notProduced uncarried
      · exact lone.flaw_sent found sentPort sentTb quiet kind unlost records
  case open_ => exact normPix_open fmt below rescale defect nom tab ofs
  case full => exact normPix_full (decodeField_full full)
  case replaced =>
    intro ok
    exact ⟨fun kept => replace_kept kept, replace_none, fun hb hs ha hb' he hg => ⟨replace_sides hb hs ha hb' he hg, replace_left hb hs ha hb'⟩,
      fun pa pe po hb hs ha he hpa hpe open_ replaced => replace_previous hb hs ha he hpa hpe open_ replaced⟩
  case merged =>
    intro au lo hi low high
    refine ⟨mergePix_saturated, fun hb ha hx fits => ?_, fun hb hx fits => ?_⟩
    · have value : mergedValue h na nb fs a b = low := mergedValue_low (b := b) hna hfs knees hnb ha hx
      rw [← value]
      exact mergePix_open hb (value.trans_le fits)
    · have value : mergedValue h na nb fs a b = high := mergedValue_high (nb := nb) (b := b) hna hfs knees hx
      rw [← value]
      exact mergePix_open hb (value.trans_le fits)
  case output =>
    exact ⟨fun hs => by simp [outU16, hs], outU16_open, fun h1 h2 => outCode_plain h1 h2 lut u, fun fmt n found => outCode_table fmt found,
      fun fmt _ => outCode_root fmt lut u⟩
  case frame =>
    intro ov mk b
    refine ⟨fun barred => fr.add_barred ofmt unrep cells _ ?_, fun b0 b2 b4 b5 => ?_⟩
    · simpa [flagsBar, or_assoc] using barred
    · have included : flagsBar flags = false := by simp [flagsBar, b0, b2, b4, b5]
      exact ⟨fr.add_run ofmt n unrep cells c included, fr.add_sums_off ofmt unrep cells included _,
        fun on i t hi ht => fr.add_sums_on ofmt n unrep cells c included on hi ht⟩
  case packets =>
    exact ⟨linePackets_header hz, fun fmt => by rw [linePackets_pixels hz (by omega), fmt, packPixels_word],
      fun fmt => by rw [linePackets_pixels hz (by omega), fmt, packPixels_byte]⟩

end Sys2Proof.Machine
end

section
/-! The values of the scalar instructions (R171, R172, R190, R191): each function of the model as the tables state it. -/

namespace Sys2Proof.Machine

theorem amount_eq (x : Word) : amount x = x.toNat % 256 := by simp [amount, BitVec.extractLsb'_toNat]

theorem laneAmount_eq {w : Nat} (x : BitVec w) : laneAmount x = x.toNat % 256 := by simp [laneAmount, BitVec.extractLsb'_toNat]

/-- A left shift by the width or more leaves nothing (R191). -/
theorem shl32_eq (x : Word) (n : Nat) : shl32 x n = x <<< n := by
  unfold shl32
  split
  · next beyond => exact (BitVec.shiftLeft_eq_zero beyond).symm
  · rfl

theorem shr32_eq (x : Word) (n : Nat) : shr32 x n = x >>> n := by
  unfold shr32
  split
  · next beyond => exact (BitVec.ushiftRight_eq_zero beyond).symm
  · rfl

/-- An arithmetic right shift by the width or more leaves copies of the sign bit (R191). -/
theorem sar32_eq (x : Word) (n : Nat) : sar32 x n = x.sshiftRight n := by
  unfold sar32
  split
  · next beyond =>
    apply BitVec.eq_of_getLsbD_eq
    intro i hi
    have past : ¬ n + i < 32 := by omega
    rw [BitVec.getLsbD_sshiftRight, if_neg past]
    by_cases sign : x.msb
    · rw [if_pos sign, BitVec.getLsbD_allOnes, sign, decide_eq_true hi, decide_eq_false (by omega : ¬ 32 ≤ i)]; rfl
    · simp [sign]
  · rfl

/-- A rotate is the two shifts of its table row, for every width (R171, R183). -/
theorem rotateLeft_eq_shifts {w : Nat} (x : BitVec w) (n : Nat) :
    x.rotateLeft (n % w) = (x <<< (n % w)) ||| (x >>> ((w - n % w) % w)) := by
  simp only [BitVec.rotateLeft, BitVec.rotateLeftAux, Nat.mod_mod]
  rcases Nat.eq_zero_or_pos (n % w) with zero | pos
  · simp [zero, BitVec.ushiftRight_eq_zero (Nat.le_refl w)]
  · rcases Nat.eq_zero_or_pos w with rfl | wide
    · simp
    · rw [Nat.mod_eq_of_lt (show w - n % w < w by omega)]

theorem rotateRight_eq_shifts {w : Nat} (x : BitVec w) (n : Nat) :
    x.rotateRight (n % w) = (x >>> (n % w)) ||| (x <<< ((w - n % w) % w)) := by
  simp only [BitVec.rotateRight, BitVec.rotateRightAux, Nat.mod_mod]
  rcases Nat.eq_zero_or_pos (n % w) with zero | pos
  · simp [zero, BitVec.shiftLeft_eq_zero (Nat.le_refl w)]
  · rcases Nat.eq_zero_or_pos w with rfl | wide
    · simp
    · rw [Nat.mod_eq_of_lt (show w - n % w < w by omega)]

section
variable {w : Nat} (a b : BitVec w)

theorem ite_slt_eq_min : (if a.slt b then a else b) = BitVec.ofInt w (min a.toInt b.toInt) := by
  rw [BitVec.slt_eq_decide]
  by_cases less : a.toInt < b.toInt
  · simp [less, min_eq_left less.le]
  · simp [less, min_eq_right (not_lt.1 less)]

theorem ite_slt_eq_max : (if a.slt b then b else a) = BitVec.ofInt w (max a.toInt b.toInt) := by
  rw [BitVec.slt_eq_decide]
  by_cases less : a.toInt < b.toInt
  · simp [less, max_eq_right less.le]
  · simp [less, max_eq_left (not_lt.1 less)]

theorem ite_ult_eq_min : (if a.ult b then a else b) = BitVec.ofNat w (min a.toNat b.toNat) := by
  by_cases less : a.toNat < b.toNat
  · simp [BitVec.ult, less, min_eq_left less.le]
  · simp [BitVec.ult, less, min_eq_right (not_lt.1 less)]

theorem ite_ult_eq_max : (if a.ult b then b else a) = BitVec.ofNat w (max a.toNat b.toNat) := by
  by_cases less : a.toNat < b.toNat
  · simp [BitVec.ult, less, max_eq_right less.le]
  · simp [BitVec.ult, less, max_eq_left (not_lt.1 less)]

/-- The absolute difference, whichever side the equal case falls on. -/
theorem ite_ult_sub : (if a.ult b then b - a else a - b) = if a.toNat ≤ b.toNat then b - a else a - b := by
  rcases Nat.lt_trichotomy a.toNat b.toNat with less | same | more
  · simp [BitVec.ult, less, less.le]
  · simp [BitVec.eq_of_toNat_eq same]
  · simp [BitVec.ult, more.not_gt, more.not_ge]

end

theorem mulHighS_eq (a b : Word) : mulHighS a b = (a.signExtend 64 * b.signExtend 64).extractLsb' 32 32 := by
  have wide (x : Word) : x.signExtend 64 = BitVec.ofInt 64 x.toInt := by
    rw [← BitVec.ofInt_toInt (x := x.signExtend 64), BitVec.toInt_signExtend_of_le (by omega)]
  apply BitVec.eq_of_toNat_eq
  rw [wide, wide, ← BitVec.ofInt_mul, mulHighS]
  generalize a.toInt * b.toInt = z
  simp only [BitVec.extractLsb'_toNat, BitVec.toNat_ofInt, Nat.shiftRight_eq_div_pow]
  omega

theorem mulHighU_eq (a b : Word) : mulHighU a b = (a.setWidth 64 * b.setWidth 64).extractLsb' 32 32 := by
  have small : a.toNat * b.toNat < 2 ^ 64 := by
    calc a.toNat * b.toNat < 2 ^ 32 * 2 ^ 32 := Nat.mul_lt_mul'' a.isLt b.isLt
      _ = 2 ^ 64 := by norm_num
  have low (x : Word) : x.toNat % 2 ^ 64 = x.toNat := Nat.mod_eq_of_lt (by have := x.isLt; omega)
  apply BitVec.eq_of_toNat_eq
  rw [mulHighU, BitVec.extractLsb'_toNat, BitVec.toNat_mul, BitVec.toNat_setWidth, BitVec.toNat_setWidth, low, low,
    Nat.mod_eq_of_lt small, BitVec.toNat_ofNat, Nat.shiftRight_eq_div_pow]

/-- The number of 1 bits among the lowest `n`. -/
theorem cpopNatRec_eq_countP {w : Nat} (x : BitVec w) (n acc : Nat) :
    x.cpopNatRec n acc = acc + (List.range n).countP fun i => bit x i := by
  induction n generalizing acc with
  | zero => simp
  | succ n ih => cases h : x.getLsbD n <;> simp [BitVec.cpopNatRec_succ, ih, List.range_succ, bit, h]; omega

theorem popCount_eq (x : Word) : popCount x = x.cpop := by
  rw [popCount, BitVec.cpop, cpopNatRec_eq_countP, Nat.zero_add]

/-- The leading zeros of the lowest `n + 1` bits, counted down from bit `n`. -/
theorem clzAuxRec_eq_takeWhile (x : Word) (n : Nat) (h : n < 32) :
    x.clzAuxRec n = BitVec.ofNat 32 (31 - n + (((List.range (n + 1)).map fun i => bit x (n - i)).takeWhile (! ·)).length) := by
  induction n with
  | zero =>
    rw [BitVec.clzAuxRec_zero, show List.range (0 + 1) = [0] from rfl, List.map_singleton, List.takeWhile_cons]
    cases top : x.getLsbD 0 <;> simp only [bit, top] <;> rfl
  | succ n ih =>
    have tail : (List.range (n + 1)).map ((fun i => bit x (n + 1 - i)) ∘ Nat.succ) = (List.range (n + 1)).map fun i => bit x (n - i) :=
      List.map_congr_left fun i _ => by simp
    rw [BitVec.clzAuxRec_succ, List.range_succ_eq_map, List.map_cons, List.map_map, tail, ih (by omega), List.takeWhile_cons]
    cases top : x.getLsbD (n + 1)
    · have step : 31 - n = 31 - (n + 1) + 1 := by omega
      simp [bit, top, step]; congr 1; omega
    · simp [bit, top]

theorem leadingZeros_eq (x : Word) : leadingZeros x = x.clz := by
  rw [leadingZeros, BitVec.clz, clzAuxRec_eq_takeWhile x 31 (by omega)]
  simp

/-- The corner of R190 needs no case of its own: the quotient wraps to it. -/
theorem divS_eq (a b : Word) :
    divS a b = if b = 0 then (if 0 ≤ a.toInt then 0x7FFFFFFF#32 else 0x80000000#32) else BitVec.ofInt 32 (a.toInt.tdiv b.toInt) := by
  unfold divS
  by_cases zero : b = 0
  · simp only [zero, if_true]
    by_cases sign : 0 ≤ a.toInt
    · simp [sign, BitVec.msb_eq_toInt, not_lt.2 sign]
    · simp [sign, BitVec.msb_eq_toInt, not_le.1 sign]
  · simp only [zero, if_false]
    split
    · next corner =>
      obtain ⟨rfl, rfl⟩ : a = 0x80000000#32 ∧ b = 0xFFFFFFFF#32 := by simpa [divCorner] using corner
      rfl
    · rfl

theorem remS_eq (a b : Word) : remS a b = if b = 0 then a else BitVec.ofInt 32 (a.toInt.tmod b.toInt) := by
  unfold remS
  split
  · rfl
  · split
    · next corner =>
      obtain ⟨rfl, rfl⟩ : a = 0x80000000#32 ∧ b = 0xFFFFFFFF#32 := by simpa [divCorner] using corner
      rfl
    · rfl

theorem divSFlags_eq (a b : Word) :
    divSFlags a b = if b = 0 then 2 else if a = 0x80000000#32 ∧ b = 0xFFFFFFFF#32 then 1 else 0 := by
  simp [divSFlags, divCorner, sfDz, sfOv]

theorem remSFlags_eq (a b : Word) :
    remSFlags a b = if b = 0 then 2 else if a = 0x80000000#32 ∧ b = 0xFFFFFFFF#32 then 1 else 0 := divSFlags_eq a b

theorem flag32_slt (a b : Word) : flag32 (a.slt b) = if decide (a.toInt < b.toInt) then 1 else 0 := by
  rw [flag32, BitVec.slt_eq_decide]

theorem flag32_ult (a b : Word) : flag32 (a.ult b) = if decide (a.toNat < b.toNat) then 1 else 0 := rfl

/-- KHI: the immediate above the low half of `sd` (R172). -/
theorem high_append_low (h : BitVec 16) (x : Word) : h ++ x.extractLsb' 0 16 = (h.setWidth 32 <<< 16) ||| (x &&& 0xFFFF#32) := by
  apply BitVec.eq_of_toNat_eq
  have mask : x.toNat &&& 65535 = x.toNat % 2 ^ 16 := Nat.and_two_pow_sub_one_eq_mod _ 16
  have high := h.isLt
  have fits : h.toNat * 65536 % 4294967296 = h.toNat * 65536 := Nat.mod_eq_of_lt (by omega)
  refine (BitVec.toNat_append h _).trans ?_
  simp [Nat.shiftLeft_eq, mask, fits]

theorem ofInt_mul_four (k : BitVec 19) : BitVec.ofInt 32 (k.toInt * 4) = k.signExtend 32 * 4 := by
  rw [BitVec.ofInt_mul, ← BitVec.ofInt_toInt (x := k.signExtend 32), BitVec.toInt_signExtend_of_le (by omega)]
  rfl

end Sys2Proof.Machine
end

section
/-! The scalar, immediate, branch and predicate instructions complete with the values of the tables (R171–R173, R187, R190). -/

namespace Sys2Proof.Machine

variable {s : State} {b : BayIx} {c : Instr} {i : Myvik} {f : JobRegs → Word} {x : Word}

/-- A legal instruction that writes `f` of the registers to `sd`. -/
theorem runsTo_scalar {sd : SReg} (hc : exec c s = regStep b i (fun r => (r.setS sd (f r)).advance) s) (h : s.executes b)
    (legal : i.legal = true) (value : f (s.regsOf b) = x) : RunsTo c s b (ScalarTo sd x 0) := by
  subst value
  exact runsTo_regStep hc h legal (JobRegs.scalarTo_plain _ _ _)

/-- One that sets flags as well. -/
theorem runsTo_scalar_flags {sd : SReg} {g : JobRegs → Word} {y : Word}
    (hc : exec c s = regStep b i (fun r => ((r.setS sd (f r)).setSflags (g r)).advance) s) (h : s.executes b)
    (legal : i.legal = true) (value : f (s.regsOf b) = x) (flags : g (s.regsOf b) = y) : RunsTo c s b (ScalarTo sd x y) := by
  subst value flags
  exact runsTo_regStep hc h legal (JobRegs.scalarTo_setS _ _ _ _)

/-- Settles O1, row by row of the tables. -/
theorem scalarInstructionsWriteTheirResult : Obligations.ScalarInstructionsWriteTheirResult := by
  intro s b sd sa sb h x y n one corner
  have amt : amount y = n := amount_eq y
  refine ⟨?add, ?sub, ?and, ?or, ?xor, ?andn, ?sll, ?srl, ?sra, ?rol, ?ror, ?setlt, ?setltu, ?min, ?max, ?minu, ?maxu, ?mul, ?mulhs, ?mulhu,
    ?div, ?divu, ?rem, ?remu, ?clz, ?popc⟩
  case add => exact runsTo_scalar exec_add h rfl rfl
  case sub => exact runsTo_scalar exec_sub h rfl rfl
  case and => exact runsTo_scalar exec_and h rfl rfl
  case or => exact runsTo_scalar exec_or h rfl rfl
  case xor => exact runsTo_scalar exec_xor h rfl rfl
  case andn => exact runsTo_scalar exec_andn h rfl rfl
  case sll => exact runsTo_scalar exec_sll h rfl (amt ▸ shl32_eq x _)
  case srl => exact runsTo_scalar exec_srl h rfl (amt ▸ shr32_eq x _)
  case sra => exact runsTo_scalar exec_sra h rfl (amt ▸ sar32_eq x _)
  case rol => exact runsTo_scalar exec_rol h rfl (amt ▸ rotateLeft_eq_shifts x _)
  case ror => exact runsTo_scalar exec_ror h rfl (amt ▸ rotateRight_eq_shifts x _)
  case setlt => exact runsTo_scalar exec_setlt h rfl (flag32_slt x y)
  case setltu => exact runsTo_scalar exec_setltu h rfl (flag32_ult x y)
  case min => exact runsTo_scalar exec_min h rfl (ite_slt_eq_min x y)
  case max => exact runsTo_scalar exec_max h rfl (ite_slt_eq_max x y)
  case minu => exact runsTo_scalar exec_minu h rfl (ite_ult_eq_min x y)
  case maxu => exact runsTo_scalar exec_maxu h rfl (ite_ult_eq_max x y)
  case mul => exact runsTo_scalar exec_mul h rfl rfl
  case mulhs => exact runsTo_scalar exec_mulhs h rfl (mulHighS_eq x y)
  case mulhu => exact runsTo_scalar exec_mulhu h rfl (mulHighU_eq x y)
  case div => exact runsTo_scalar_flags exec_div h rfl (divS_eq x y) (divSFlags_eq x y)
  case divu => exact runsTo_scalar_flags exec_divu h rfl rfl rfl
  case rem => exact runsTo_scalar_flags exec_rem h rfl (remS_eq x y) (remSFlags_eq x y)
  case remu => exact runsTo_scalar_flags exec_remu h rfl rfl rfl
  case clz => exact runsTo_scalar exec_clz h rfl (leadingZeros_eq x)
  case popc => exact runsTo_scalar exec_popc h rfl (popCount_eq x)

/-- The immediate of SETLTK as a word has its own value. -/
theorem flag32_slt_imm (x : Word) (imm : BitVec 14) : flag32 (x.slt (imm.signExtend 32)) = if decide (x.toInt < imm.toInt) then 1 else 0 := by
  rw [flag32_slt, BitVec.toInt_signExtend_of_le (by omega)]

theorem flag32_ult_imm (x : Word) (imm : BitVec 14) : flag32 (x.ult (imm.setWidth 32)) = if decide (x.toNat < imm.toNat) then 1 else 0 := by
  rw [flag32_ult, BitVec.toNat_setWidth_of_le (by omega)]

/-- Settles O2, row by row of the tables. -/
theorem immediateInstructionsWriteTheirResult : Obligations.ImmediateInstructionsWriteTheirResult := by
  intro s b sd sa imm amt k h ex x n one
  refine ⟨?addk, ?andk, ?ork, ?xork, ?setltk, ?setltuk, ?rsubk, ?kset, ?khi, ?pcadd, ?slli, ?srli, ?srai, ?roli, ?rori⟩
  case addk => exact runsTo_scalar exec_addk ex rfl rfl
  case andk => exact runsTo_scalar exec_andk ex rfl rfl
  case ork => exact runsTo_scalar exec_ork ex rfl rfl
  case xork => exact runsTo_scalar exec_xork ex rfl rfl
  case setltk => exact runsTo_scalar exec_setltk ex rfl (flag32_slt_imm x imm)
  case setltuk => exact runsTo_scalar exec_setltuk ex rfl (flag32_ult_imm x imm)
  case rsubk => exact runsTo_scalar exec_rsubk ex rfl rfl
  case kset => exact runsTo_scalar exec_kset ex rfl rfl
  case khi => exact runsTo_scalar exec_khi ex rfl (high_append_low h _)
  case pcadd => exact runsTo_scalar exec_pcadd ex rfl (congrArg (_ + ·) (ofInt_mul_four k))
  case slli => exact runsTo_scalar exec_slli ex rfl (shl32_eq x n)
  case srli => exact runsTo_scalar exec_srli ex rfl (shr32_eq x n)
  case srai => exact runsTo_scalar exec_srai ex rfl (sar32_eq x n)
  case roli => exact runsTo_scalar exec_roli ex rfl (rotateLeft_eq_shifts x n)
  case rori => exact runsTo_scalar exec_rori ex rfl (rotateRight_eq_shifts x n)

end Sys2Proof.Machine
end

section
/-! Branches, jumps and words that are no instruction (R166, R169, R170, R173). -/

namespace Sys2Proof.Machine

variable {s : State} {b : BayIx} {c : Instr} {i : Myvik}

/-- A bay that executes is stopped by no breakpoint (R425). -/
theorem State.executes.no_break (h : s.executes b) :
    (if (s.getBay b).skipBrk then none else s.breakAt b (s.getBay b).regs.pc) = none := by
  rcases h.2 with skip | none_
  · rw [if_pos skip]
  · split
    · rfl
    · exact none_

/-- A word that is no instruction aborts the job (R170). -/
theorem exec_illegal_word {u : Word} (h : s.executes b) (none_ : myvikDecode u = none) :
    exec (.illegalInstruction b u) s = .next ((s.tickCycle b).bayIllegal b u) := by
  simp only [exec_illegalInstruction, execIllegalInstruction, h.1, h.no_break, none_]
  rfl

/-- A word whose opcode and sub-function name no instruction decodes to none. -/
theorem myvikDecode_of_candidate_none {u : Word} (h : myvikCandidate u = none) : myvikDecode u = none := by
  rw [myvikDecode, h]; rfl

theorem field_eq_toNat (u : Word) (hi lo : Nat) : field u hi lo = (u.extractLsb' lo (hi - lo + 1)).toNat := rfl

/-- BC has ten conditions; the others are reserved (R173). -/
theorem candBC_none {u : Word} (h : 0xA ≤ field u 16 13) : candBC u = none := by
  have lt : field u 16 13 < 16 := (u.extractLsb' 13 4).isLt
  rw [candBC, ← field_eq_toNat u 16 13]
  generalize field u 16 13 = n at h lt
  interval_cases n <;> rfl

/-- A jump or branch leaves no register but PC and the link. -/
theorem JobRegs.jumpTo_branch (r : JobRegs) (taken : Bool) (k : Int) :
    JumpTo none (fun pc => (taken = true → pcMoved r.pc k pc) ∧ (taken ≠ true → pcMoved r.pc 1 pc)) r (r.branch taken k) := by
  cases taken
  · exact ⟨rfl, ⟨nofun, fun _ => pcMoved_pcPlus _ _⟩, rfl⟩
  · exact ⟨rfl, ⟨fun _ => pcMoved_pcPlus _ _, fun not => absurd rfl not⟩, rfl⟩

theorem JobRegs.jumpTo_link (r : JobRegs) (sd : SReg) {tgt : BitVec 40 → Prop} {pc : BitVec 40} (h : tgt pc) :
    JumpTo (some sd) tgt r ((r.setS sd (pcLink r.pc)).setPc pc) := by
  refine ⟨fun k => JobRegs.getS_setS r sd k _, h, ?_⟩
  rw [JobRegs.setS_eq]
  rfl

/-- A branch whose condition `t` the model computes. -/
theorem runsTo_branch {t : JobRegs → Bool} {off : Int} {taken : Prop} (hc : exec c s = regStep b i (fun r => r.branch (t r) off) s)
    (h : s.executes b) (legal : i.legal = true) (cond : t (s.regsOf b) = true ↔ taken) :
    RunsTo c s b (JumpTo none fun pc => (taken → pcMoved (s.regsOf b).pc off pc) ∧ (¬ taken → pcMoved (s.regsOf b).pc 1 pc)) := by
  obtain ⟨moved, ⟨yes, no⟩, kept⟩ := (s.regsOf b).jumpTo_branch (t (s.regsOf b)) off
  exact runsTo_regStep hc h legal ⟨moved, ⟨fun holds => yes (cond.2 holds), fun fails => no (mt cond.1 fails)⟩, kept⟩

section
variable {w : Nat} (x y : BitVec w)

theorem slt_iff : x.slt y = true ↔ x.toInt < y.toInt := BitVec.slt_iff_toInt_lt
theorem sle_iff : x.sle y = true ↔ x.toInt ≤ y.toInt := BitVec.sle_iff_toInt_le
theorem ult_iff : x.ult y = true ↔ x.toNat < y.toNat := by simp [BitVec.ult]
theorem ule_iff : x.ule y = true ↔ x.toNat ≤ y.toNat := by simp [BitVec.ule]

end

/-- Settles O3, condition by condition. -/
theorem branchesAndJumpsMoveThePc : Obligations.BranchesAndJumpsMoveThePc := by
  intro s b sa sb sd pa off far imm po u h r x y goes
  refine ⟨?eq, ?ne, ?lt, ?ge, ?ltu, ?geu, ?le, ?gt, ?tz, ?tnz, ?any, ?none_, ?jrel, ?jreg, ?reserved⟩
  case eq => exact runsTo_branch exec_bcEq h rfl beq_iff_eq
  case ne => exact runsTo_branch exec_bcNe h rfl bne_iff_ne
  case lt => exact runsTo_branch exec_bcLt h rfl (slt_iff x y)
  case ge => exact runsTo_branch exec_bcGe h rfl (sle_iff y x)
  case ltu => exact runsTo_branch exec_bcLtu h rfl (ult_iff x y)
  case geu => exact runsTo_branch exec_bcGeu h rfl (ule_iff y x)
  case le => exact runsTo_branch exec_bcLe h rfl (sle_iff x y)
  case gt => exact runsTo_branch exec_bcGt h rfl (slt_iff y x)
  case tz => exact runsTo_branch exec_bcTz h rfl beq_iff_eq
  case tnz => exact runsTo_branch exec_bcTnz h rfl bne_iff_ne
  case any => exact runsTo_branch exec_bpany h rfl bne_iff_ne
  case none_ => exact runsTo_branch exec_bpnone h rfl beq_iff_eq
  case jrel => exact runsTo_regStep exec_jrel h rfl (r.jumpTo_link sd (pcMoved_pcPlus _ _))
  case jreg => exact runsTo_regStep exec_jreg h rfl (r.jumpTo_link sd ⟨hi_append _ _, lo_append _ _⟩)
  case reserved =>
    intro opcode condition
    have none_ : myvikCandidate u = none := by
      rw [myvikCandidate, ← field_eq_toNat u 31 25, opcode]
      exact candBC_none condition
    exact exec_illegal_word h (myvikDecode_of_candidate_none none_)

end Sys2Proof.Machine
end

section
/-! The predicate instructions complete with the values of the table (R162, R187). -/

namespace Sys2Proof.Machine

variable {s : State} {b : BayIx} {c : Instr} {i : Myvik}

/-- A legal instruction that writes `f` of the registers to `pd`. -/
theorem runsTo_pred {pd : PReg} {f : JobRegs → Word} {x : Word} (hc : exec c s = regStep b i (fun r => (r.setP pd (f r)).advance) s)
    (h : s.executes b) (legal : i.legal = true) (value : f (s.regsOf b) = x) : RunsTo c s b (PredTo pd x) := by
  subst value
  exact runsTo_regStep hc h legal (JobRegs.predTo_setP _ _ _)

/-- A bit of `x` above its lowest set bit is lost in `-x`, and the lowest stays. -/
theorem getLsbD_and_neg {w : Nat} (x : BitVec w) (k : Nat) (hk : k < w) :
    (x &&& -x).getLsbD k = (x.getLsbD k && decide (∀ j < k, x.getLsbD j = false)) := by
  rw [BitVec.getLsbD_and, BitVec.getLsbD_neg]
  by_cases below : ∃ j < k, x.getLsbD j = true
  · have some_ : ¬ ∀ j < k, x.getLsbD j = false := fun all => by
      obtain ⟨j, hj, set⟩ := below
      rw [all j hj] at set
      cases set
    cases x.getLsbD k <;> simp [below, some_, hk]
  · have none_ : ∀ j < k, x.getLsbD j = false := fun j hj => by simpa using fun set => below ⟨j, hj, set⟩
    rw [decide_eq_false below, decide_eq_true none_]
    cases x.getLsbD k <;> simp

theorem and_neg_eq_lowest (x : Word) :
    x &&& -x = BitVec.ofFnLE fun i : Fin 32 => bit x i.val && decide (∀ j < i.val, bit x j = false) := by
  apply BitVec.eq_of_getLsbD_eq
  intro k hk
  rw [BitVec.getLsbD_ofFnLE, dif_pos hk]
  exact getLsbD_and_neg x k hk

/-- Settles O11, row by row of the table. -/
theorem predicateInstructionsWriteTheirResult : Obligations.PredicateInstructionsWriteTheirResult := by
  intro s b pd pa pb sc h x y
  refine ⟨?pand, ?por, ?pxor, ?pandn, ?pnot, ?pset, ?pclr, ?pfirst, ?ptos, ?stop, ?pcnt⟩
  case pand => exact runsTo_pred exec_pand h rfl rfl
  case por => exact runsTo_pred exec_por h rfl rfl
  case pxor => exact runsTo_pred exec_pxor h rfl rfl
  case pandn => exact runsTo_pred exec_pandn h rfl rfl
  case pnot => exact runsTo_pred exec_pnot h rfl rfl
  case pset => exact runsTo_pred exec_pset h rfl rfl
  case pclr => exact runsTo_pred exec_pclr h rfl rfl
  case pfirst => exact runsTo_pred exec_pfirst h rfl (and_neg_eq_lowest x)
  case ptos => exact runsTo_scalar exec_ptos h rfl rfl
  case stop => exact runsTo_pred exec_stop h rfl rfl
  case pcnt => exact runsTo_scalar exec_pcnt h rfl (popCount_eq x)

end Sys2Proof.Machine
end

section
/-! What one lane receives: the model's results as the rules of the tables (R163, R180, R181, R183, R189). -/

namespace Sys2Proof.Machine

/-- The result of a lane as a rule of the statements. -/
def LaneOut.rule {w : Nat} (o : LaneOut w) : LaneRule w := (o.val, o.ov, o.sat)

variable {w : Nat}

theorem rule_plain (x : BitVec w) : (plain x).rule = bare x := rfl

theorem outS_eq (x : Int) : outS w x = decide (x < -(2 ^ (w - 1)) ∨ 2 ^ (w - 1) ≤ x) := by
  rw [outS, ← Bool.decide_or]
  exact decide_eq_decide.2 (or_congr_right (by rw [maxS]; omega))

theorem rule_wrapS (x : Int) : (wrapS w x).rule = wrapping x := by
  simp only [LaneOut.rule, wrapS, wrapping, outS_eq]

theorem minS_le_maxS : minS w ≤ maxS w := by
  have pos : (0 : Int) < 2 ^ (w - 1) := by positivity
  simp only [minS, maxS]
  omega

theorem rule_clampS (x : Int) : (clampS w x).rule = clampingS x := by
  simp only [LaneOut.rule, clampS, clampingS, clamping, clampInt_eq minS_le_maxS, outS, Bool.decide_or]
  rfl

theorem rule_clampU (x : Int) : (clampU w x).rule = clampingU x := by
  have pos : (0 : Int) < 2 ^ w := by positivity
  have order : 0 ≤ maxU w := by rw [maxU]; omega
  simp only [LaneOut.rule, clampU, clampingU, clamping, clampInt_eq order, outU, Bool.decide_or]
  rfl

section
variable (hw : 0 < w) (x : BitVec w)

theorem ofInt_neg_toInt : BitVec.ofInt w (-x.toInt) = -x := by
  rw [BitVec.ofInt_neg, BitVec.ofInt_toInt]

theorem ofInt_abs_toInt : BitVec.ofInt w |x.toInt| = if x.toInt < 0 then -x else x := by
  split
  · next neg => rw [abs_of_neg neg, ofInt_neg_toInt]
  · next pos => rw [abs_of_nonneg (not_lt.1 pos), BitVec.ofInt_toInt]

theorem toInt_range : -(2 ^ (w - 1)) ≤ x.toInt ∧ x.toInt < 2 ^ (w - 1) := ⟨BitVec.le_toInt x, BitVec.toInt_lt⟩

include hw

/-- MIN of a width is the one value whose negation has no place (R163). -/
theorem toInt_eq_min_iff : x.toInt = -(2 ^ (w - 1)) ↔ x = BitVec.intMin w := by
  rw [← BitVec.toInt_inj, BitVec.toInt_intMin_of_pos hw]

/-- The negation of a lane, and its absolute value, leave MIN–MAX for MIN alone. -/
theorem outS_neg {y : Int} (h : y = -x.toInt ∨ y = |x.toInt|) : outS w y = decide (x = BitVec.intMin w) := by
  obtain ⟨low, high⟩ := toInt_range x
  have pos : (0 : Int) < 2 ^ (w - 1) := by positivity
  rw [outS_eq]
  refine decide_eq_decide.2 (Iff.trans ?_ (toInt_eq_min_iff hw x))
  rcases h with rfl | rfl
  · omega
  · rcases abs_cases x.toInt with ⟨same, sign⟩ | ⟨negated, sign⟩
    · rw [same]; omega
    · rw [negated]; omega

theorem clampInt_neg {y : Int} (h : y = -x.toInt ∨ y = |x.toInt|) :
    BitVec.ofInt w (clampInt (minS w) (maxS w) y) = if x = BitVec.intMin w then BitVec.intMax w else BitVec.ofInt w y := by
  obtain ⟨low, high⟩ := toInt_range x
  have pos : (0 : Int) < 2 ^ (w - 1) := by positivity
  by_cases least : x = BitVec.intMin w
  · have edge : y = 2 ^ (w - 1) := by
      have value := (toInt_eq_min_iff hw x).2 least
      rcases h with rfl | rfl
      · omega
      · rw [abs_of_neg (by omega)]; omega
    rw [if_pos least, edge, clampInt, if_neg (by rw [minS]; omega), if_pos (by rw [maxS]; omega), maxS, ← BitVec.toInt_intMax (w := w),
      BitVec.ofInt_toInt]
  · have inside : outS w y = false := by rw [outS_neg hw x h]; simpa using least
    obtain ⟨above, below⟩ : minS w ≤ y ∧ y ≤ maxS w := by simpa [outS] using inside
    rw [if_neg least, clampInt, if_neg (not_lt.2 above), if_neg (not_lt.2 below)]

theorem rule_vneg : (wrapS w (-x.toInt)).rule = (-x, decide (x = BitVec.intMin w), false) := by
  simp only [LaneOut.rule, wrapS, ofInt_neg_toInt, outS_neg hw x (.inl rfl)]

theorem rule_vabs : (wrapS w |x.toInt|).rule = (if x.toInt < 0 then -x else x, decide (x = BitVec.intMin w), false) := by
  simp only [LaneOut.rule, wrapS, ofInt_abs_toInt, outS_neg hw x (.inr rfl)]

theorem rule_vnegs : (clampS w (-x.toInt)).rule = if x = BitVec.intMin w then (BitVec.intMax w, false, true) else bare (-x) := by
  simp only [LaneOut.rule, clampS, clampInt_neg hw x (.inl rfl), outS_neg hw x (.inl rfl), ofInt_neg_toInt]
  split <;> simp_all [bare]

theorem rule_vabss : (clampS w |x.toInt|).rule
    = if x = BitVec.intMin w then (BitVec.intMax w, false, true) else bare (if x.toInt < 0 then -x else x) := by
  simp only [LaneOut.rule, clampS, clampInt_neg hw x (.inr rfl), outS_neg hw x (.inr rfl), ofInt_abs_toInt]
  split <;> simp_all [bare]

end

theorem laneWidth_pos (W : Bool) : 0 < laneWidth W := by cases W <;> decide

/-- Sums of products that wrap without a flag (R181). -/
theorem rule_wrapU_mul (d : Word) (x y : BitVec 16) :
    (wrapU 32 (d.toNat + x.toNat * y.toNat)).rule = bare (d + x.setWidth 32 * y.setWidth 32) := by
  have value : BitVec.ofInt 32 (d.toNat + x.toNat * y.toNat) = d + x.setWidth 32 * y.setWidth 32 := by
    simp [BitVec.ofInt_add, BitVec.ofInt_mul]
  simp only [LaneOut.rule, wrapU, value, bare]

theorem rule_wrapU_add (d : Word) (x : BitVec 16) : (wrapU 32 (d.toNat + x.toNat)).rule = bare (d + x.setWidth 32) := by
  have value : BitVec.ofInt 32 (d.toNat + x.toNat) = d + x.setWidth 32 := by
    simp [BitVec.ofInt_add]
  simp only [LaneOut.rule, wrapU, value, bare]

end Sys2Proof.Machine
end

section
/-! The fields of an instruction word, format by format (R167, R168): what a read of each field of an encoded word finds. -/

namespace Sys2Proof

theorem toNat_append_add {a b : Nat} (x : BitVec a) (y : BitVec b) : (x ++ y).toNat = x.toNat * 2 ^ b + y.toNat := by
  rw [BitVec.toNat_append, Nat.shiftLeft_eq, Nat.mul_comm, Nat.two_pow_add_eq_or_of_lt y.isLt]

theorem extract_of_toNat {n k lo : Nat} {w : BitVec n} {x : BitVec k} (h : w.toNat / 2 ^ lo % 2 ^ k = x.toNat) : w.extractLsb' lo k = x := by
  apply BitVec.eq_of_toNat_eq
  rw [BitVec.extractLsb'_toNat, Nat.shiftRight_eq_div_pow, h]

theorem encS3_fields (sd sa sb : SReg) (fn : BitVec 5) : let w := encS3 sd sa sb fn
    w.extractLsb' 25 7 = 0x01#7 ∧ w.extractLsb' 21 4 = sf sd ∧ w.extractLsb' 17 4 = sf sa ∧ w.extractLsb' 13 4 = sf sb
    ∧ w.extractLsb' 0 5 = fn := by
  intro w
  have value : w.toNat = (0x01#7).toNat * 2 ^ 25 + (sf sd).toNat * 2 ^ 21 + (sf sa).toNat * 2 ^ 17 + (sf sb).toNat * 2 ^ 13 + fn.toNat :=
    (toNat_append_add _ _).trans (by simp only [toNat_append_add, BitVec.toNat_zero]; omega)
  refine ⟨?_, ?_, ?_, ?_, ?_⟩ <;> refine extract_of_toNat ?_ <;> rw [value] <;> omega

theorem encSK_fields (sd sa : SReg) (fn : BitVec 3) (imm : BitVec 14) : let w := encSK sd sa fn imm
    w.extractLsb' 25 7 = 0x02#7 ∧ w.extractLsb' 21 4 = sf sd ∧ w.extractLsb' 17 4 = sf sa ∧ w.extractLsb' 14 3 = fn
    ∧ w.extractLsb' 0 14 = imm := by
  intro w
  have value : w.toNat = (0x02#7).toNat * 2 ^ 25 + (sf sd).toNat * 2 ^ 21 + (sf sa).toNat * 2 ^ 17 + fn.toNat * 2 ^ 14 + imm.toNat :=
    (toNat_append_add _ _).trans (by simp only [toNat_append_add]; omega)
  refine ⟨?_, ?_, ?_, ?_, ?_⟩ <;> refine extract_of_toNat ?_ <;> rw [value] <;> omega

theorem encSC_fields (sd : SReg) (fn : BitVec 2) (imm : BitVec 19) : let w := encSC sd fn imm
    w.extractLsb' 25 7 = 0x03#7 ∧ w.extractLsb' 21 4 = sf sd ∧ w.extractLsb' 19 2 = fn ∧ w.extractLsb' 0 19 = imm := by
  intro w
  have value : w.toNat = (0x03#7).toNat * 2 ^ 25 + (sf sd).toNat * 2 ^ 21 + fn.toNat * 2 ^ 19 + imm.toNat :=
    (toNat_append_add _ _).trans (by simp only [toNat_append_add]; omega)
  refine ⟨?_, ?_, ?_, ?_⟩ <;> refine extract_of_toNat ?_ <;> rw [value] <;> omega

theorem encSH_fields (sd sa : SReg) (kind : BitVec 3) (amt : BitVec 8) : let w := encSH sd sa kind amt
    w.extractLsb' 25 7 = 0x08#7 ∧ w.extractLsb' 21 4 = sf sd ∧ w.extractLsb' 17 4 = sf sa ∧ w.extractLsb' 8 3 = kind
    ∧ w.extractLsb' 0 8 = amt := by
  intro w
  have value : w.toNat = (0x08#7).toNat * 2 ^ 25 + (sf sd).toNat * 2 ^ 21 + (sf sa).toNat * 2 ^ 17 + kind.toNat * 2 ^ 8 + amt.toNat :=
    (toNat_append_add _ _).trans (by simp only [toNat_append_add, BitVec.toNat_zero]; omega)
  refine ⟨?_, ?_, ?_, ?_, ?_⟩ <;> refine extract_of_toNat ?_ <;> rw [value] <;> omega

theorem encBC_fields (sa sb : SReg) (cc : BitVec 4) (off : BitVec 13) : let w := encBC sa sb cc off
    w.extractLsb' 25 7 = 0x10#7 ∧ w.extractLsb' 21 4 = sf sa ∧ w.extractLsb' 17 4 = sf sb ∧ w.extractLsb' 13 4 = cc
    ∧ w.extractLsb' 0 13 = off := by
  intro w
  have value : w.toNat = (0x10#7).toNat * 2 ^ 25 + (sf sa).toNat * 2 ^ 21 + (sf sb).toNat * 2 ^ 17 + cc.toNat * 2 ^ 13 + off.toNat :=
    (toNat_append_add _ _).trans (by simp only [toNat_append_add]; omega)
  refine ⟨?_, ?_, ?_, ?_, ?_⟩ <;> refine extract_of_toNat ?_ <;> rw [value] <;> omega

theorem encSJ_fields (sd : SReg) (off : BitVec 21) : let w := encSJ sd off
    w.extractLsb' 25 7 = 0x11#7 ∧ w.extractLsb' 21 4 = sf sd ∧ w.extractLsb' 0 21 = off := by
  intro w
  have value : w.toNat = (0x11#7).toNat * 2 ^ 25 + (sf sd).toNat * 2 ^ 21 + off.toNat :=
    (toNat_append_add _ _).trans (by simp only [toNat_append_add]; omega)
  refine ⟨?_, ?_, ?_⟩ <;> refine extract_of_toNat ?_ <;> rw [value] <;> omega

theorem encJG_fields (sd sa : SReg) (imm : BitVec 14) : let w := encJG sd sa imm
    w.extractLsb' 25 7 = 0x12#7 ∧ w.extractLsb' 21 4 = sf sd ∧ w.extractLsb' 17 4 = sf sa ∧ w.extractLsb' 0 14 = imm := by
  intro w
  have value : w.toNat = (0x12#7).toNat * 2 ^ 25 + (sf sd).toNat * 2 ^ 21 + (sf sa).toNat * 2 ^ 17 + imm.toNat :=
    (toNat_append_add _ _).trans (by simp only [toNat_append_add, BitVec.toNat_zero]; omega)
  refine ⟨?_, ?_, ?_, ?_⟩ <;> refine extract_of_toNat ?_ <;> rw [value] <;> omega

theorem encPB_fields (op : BitVec 7) (pa : PReg) (off : BitVec 17) : let w := encPB op pa off
    w.extractLsb' 25 7 = op ∧ w.extractLsb' 22 3 = pf pa ∧ w.extractLsb' 0 17 = off := by
  intro w
  have value : w.toNat = op.toNat * 2 ^ 25 + (pf pa).toNat * 2 ^ 22 + off.toNat :=
    (toNat_append_add _ _).trans (by simp only [toNat_append_add, BitVec.toNat_zero]; omega)
  refine ⟨?_, ?_, ?_⟩ <;> refine extract_of_toNat ?_ <;> rw [value] <;> omega

theorem encSM_fields (op : BitVec 7) (s sa : SReg) (sz : BitVec 2) (u : BitVec 1) (imm : BitVec 14) : let w := encSM op s sa sz u imm
    w.extractLsb' 25 7 = op ∧ w.extractLsb' 21 4 = sf s ∧ w.extractLsb' 17 4 = sf sa ∧ w.extractLsb' 15 2 = sz ∧ w.extractLsb' 14 1 = u
    ∧ w.extractLsb' 0 14 = imm := by
  intro w
  have value : w.toNat = op.toNat * 2 ^ 25 + (sf s).toNat * 2 ^ 21 + (sf sa).toNat * 2 ^ 17 + sz.toNat * 2 ^ 15 + u.toNat * 2 ^ 14
      + imm.toNat :=
    (toNat_append_add _ _).trans (by simp only [toNat_append_add]; omega)
  refine ⟨?_, ?_, ?_, ?_, ?_, ?_⟩ <;> refine extract_of_toNat ?_ <;> rw [value] <;> omega

theorem encVM_fields (op : BitVec 7) (vd : VReg) (sa : SReg) (pg : PReg) (off : BitVec 13) : let w := encVM op vd sa pg off
    w.extractLsb' 25 7 = op ∧ w.extractLsb' 20 5 = vf vd ∧ w.extractLsb' 16 4 = sf sa ∧ w.extractLsb' 13 3 = pf pg
    ∧ w.extractLsb' 0 13 = off := by
  intro w
  have value : w.toNat = op.toNat * 2 ^ 25 + (vf vd).toNat * 2 ^ 20 + (sf sa).toNat * 2 ^ 16 + (pf pg).toNat * 2 ^ 13 + off.toNat :=
    (toNat_append_add _ _).trans (by simp only [toNat_append_add]; omega)
  refine ⟨?_, ?_, ?_, ?_, ?_⟩ <;> refine extract_of_toNat ?_ <;> rw [value] <;> omega

theorem encVMS_fields (op : BitVec 7) (vd : VReg) (sa sb : SReg) (pg : PReg) : let w := encVMS op vd sa sb pg
    w.extractLsb' 25 7 = op ∧ w.extractLsb' 20 5 = vf vd ∧ w.extractLsb' 16 4 = sf sa ∧ w.extractLsb' 12 4 = sf sb
    ∧ w.extractLsb' 9 3 = pf pg := by
  intro w
  have value : w.toNat = op.toNat * 2 ^ 25 + (vf vd).toNat * 2 ^ 20 + (sf sa).toNat * 2 ^ 16 + (sf sb).toNat * 2 ^ 12
      + (pf pg).toNat * 2 ^ 9 :=
    (toNat_append_add _ _).trans (by simp only [toNat_append_add, BitVec.toNat_zero]; omega)
  refine ⟨?_, ?_, ?_, ?_, ?_⟩ <;> refine extract_of_toNat ?_ <;> rw [value] <;> omega

theorem encLF_fields (vd : VReg) (sa : SReg) (age : BitVec 4) (fld : BitVec 2) : let w := encLF vd sa age fld
    w.extractLsb' 25 7 = 0x30#7 ∧ w.extractLsb' 20 5 = vf vd ∧ w.extractLsb' 16 4 = sf sa ∧ w.extractLsb' 12 4 = age
    ∧ w.extractLsb' 10 2 = fld := by
  intro w
  have value : w.toNat = (0x30#7).toNat * 2 ^ 25 + (vf vd).toNat * 2 ^ 20 + (sf sa).toNat * 2 ^ 16 + age.toNat * 2 ^ 12 + fld.toNat * 2 ^ 10 :=
    (toNat_append_add _ _).trans (by simp only [toNat_append_add, BitVec.toNat_zero]; omega)
  refine ⟨?_, ?_, ?_, ?_, ?_⟩ <;> refine extract_of_toNat ?_ <;> rw [value] <;> omega

theorem encEM_fields (va : VReg) : let w := encEM va
    w.extractLsb' 25 7 = 0x31#7 ∧ w.extractLsb' 20 5 = vf va := by
  intro w
  have value : w.toNat = (0x31#7).toNat * 2 ^ 25 + (vf va).toNat * 2 ^ 20 :=
    (toNat_append_add _ _).trans (by simp only [toNat_append_add, BitVec.toNat_zero]; omega)
  refine ⟨?_, ?_⟩ <;> refine extract_of_toNat ?_ <;> rw [value] <;> omega

theorem encN_fields (op : BitVec 7) : let w := encN op
    w.extractLsb' 25 7 = op := by
  intro w
  have value : w.toNat = op.toNat * 2 ^ 25 :=
    (toNat_append_add _ _).trans (by rw [BitVec.toNat_zero, Nat.add_zero])
  refine extract_of_toNat ?_
  rw [value]
  omega

theorem encCP_fields (sd sa sb : SReg) : let w := encCP sd sa sb
    w.extractLsb' 25 7 = 0x34#7 ∧ w.extractLsb' 21 4 = sf sd ∧ w.extractLsb' 17 4 = sf sa ∧ w.extractLsb' 13 4 = sf sb := by
  intro w
  have value : w.toNat = (0x34#7).toNat * 2 ^ 25 + (sf sd).toNat * 2 ^ 21 + (sf sa).toNat * 2 ^ 17 + (sf sb).toNat * 2 ^ 13 :=
    (toNat_append_add _ _).trans (by simp only [toNat_append_add, BitVec.toNat_zero]; omega)
  refine ⟨?_, ?_, ?_, ?_⟩ <;> refine extract_of_toNat ?_ <;> rw [value] <;> omega

theorem encCW_fields (flag : BitVec 4) : let w := encCW flag
    w.extractLsb' 25 7 = 0x35#7 ∧ w.extractLsb' 0 4 = flag := by
  intro w
  have value : w.toNat = (0x35#7).toNat * 2 ^ 25 + flag.toNat :=
    (toNat_append_add _ _).trans (by simp only [toNat_append_add, BitVec.toNat_zero]; omega)
  refine ⟨?_, ?_⟩ <;> refine extract_of_toNat ?_ <;> rw [value] <;> omega

theorem encCS_fields (op : BitVec 7) (s : SReg) (csr : BitVec 8) : let w := encCS op s csr
    w.extractLsb' 25 7 = op ∧ w.extractLsb' 21 4 = sf s ∧ w.extractLsb' 0 8 = csr := by
  intro w
  have value : w.toNat = op.toNat * 2 ^ 25 + (sf s).toNat * 2 ^ 21 + csr.toNat :=
    (toNat_append_add _ _).trans (by simp only [toNat_append_add, BitVec.toNat_zero]; omega)
  refine ⟨?_, ?_, ?_⟩ <;> refine extract_of_toNat ?_ <;> rw [value] <;> omega

theorem encV3_fields (op : BitVec 7) (vd va vb : BitVec 5) (pg : PReg) (s x : BitVec 1) (fn : BitVec 5) : let w := encV3 op vd va vb pg s x fn
    w.extractLsb' 25 7 = op ∧ w.extractLsb' 20 5 = vd ∧ w.extractLsb' 15 5 = va ∧ w.extractLsb' 10 5 = vb ∧ w.extractLsb' 7 3 = pf pg
    ∧ w.extractLsb' 6 1 = s ∧ w.extractLsb' 5 1 = x ∧ w.extractLsb' 0 5 = fn := by
  intro w
  have value : w.toNat = op.toNat * 2 ^ 25 + vd.toNat * 2 ^ 20 + va.toNat * 2 ^ 15 + vb.toNat * 2 ^ 10 + (pf pg).toNat * 2 ^ 7
      + s.toNat * 2 ^ 6 + x.toNat * 2 ^ 5 + fn.toNat :=
    (toNat_append_add _ _).trans (by simp only [toNat_append_add]; omega)
  refine ⟨?_, ?_, ?_, ?_, ?_, ?_, ?_, ?_⟩ <;> refine extract_of_toNat ?_ <;> rw [value] <;> omega

theorem encVP_fields (vd va : VReg) (vb : BitVec 5) (sc : BitVec 4) (x : Bool) (fn : BitVec 5) : let w := encVP vd va vb sc x fn
    w.extractLsb' 25 7 = 0x44#7 ∧ w.extractLsb' 20 5 = vf vd ∧ w.extractLsb' 15 5 = vf va ∧ w.extractLsb' 10 5 = vb ∧ w.extractLsb' 6 4 = sc
    ∧ w.extractLsb' 5 1 = BitVec.ofBool x ∧ w.extractLsb' 0 5 = fn := by
  intro w
  have value : w.toNat = (0x44#7).toNat * 2 ^ 25 + (vf vd).toNat * 2 ^ 20 + (vf va).toNat * 2 ^ 15 + vb.toNat * 2 ^ 10 + sc.toNat * 2 ^ 6
      + (BitVec.ofBool x).toNat * 2 ^ 5 + fn.toNat :=
    (toNat_append_add _ _).trans (by simp only [toNat_append_add]; omega)
  refine ⟨?_, ?_, ?_, ?_, ?_, ?_, ?_⟩ <;> refine extract_of_toNat ?_ <;> rw [value] <;> omega

theorem encPL_fields (pd pa pb : PReg) (s : SReg) (fn : BitVec 5) : let w := encPL pd pa pb s fn
    w.extractLsb' 25 7 = 0x47#7 ∧ w.extractLsb' 22 3 = pf pd ∧ w.extractLsb' 19 3 = pf pa ∧ w.extractLsb' 16 3 = pf pb
    ∧ w.extractLsb' 12 4 = sf s ∧ w.extractLsb' 0 5 = fn := by
  intro w
  have value : w.toNat = (0x47#7).toNat * 2 ^ 25 + (pf pd).toNat * 2 ^ 22 + (pf pa).toNat * 2 ^ 19 + (pf pb).toNat * 2 ^ 16
      + (sf s).toNat * 2 ^ 12 + fn.toNat :=
    (toNat_append_add _ _).trans (by simp only [toNat_append_add, BitVec.toNat_zero]; omega)
  refine ⟨?_, ?_, ?_, ?_, ?_, ?_⟩ <;> refine extract_of_toNat ?_ <;> rw [value] <;> omega

theorem encVI_fields (vd : VReg) (imm : BitVec 16) : let w := encVI vd imm
    w.extractLsb' 25 7 = 0x48#7 ∧ w.extractLsb' 20 5 = vf vd ∧ w.extractLsb' 0 16 = imm := by
  intro w
  have value : w.toNat = (0x48#7).toNat * 2 ^ 25 + (vf vd).toNat * 2 ^ 20 + imm.toNat :=
    (toNat_append_add _ _).trans (by simp only [toNat_append_add, BitVec.toNat_zero]; omega)
  refine ⟨?_, ?_, ?_⟩ <;> refine extract_of_toNat ?_ <;> rw [value] <;> omega


/-! Fields within a field: a register number below the zeros that fill its place, and single bits. -/

theorem low_append {a b : Nat} (z : BitVec a) (x : BitVec b) : (z ++ x).extractLsb' 0 b = x :=
  extract_of_toNat (by rw [toNat_append_add, Nat.pow_zero, Nat.div_one, Nat.mul_comm, Nat.mul_add_mod, Nat.mod_eq_of_lt x.isLt])

theorem extract_extract {n lo k lo' k' : Nat} (w : BitVec n) (h : lo' + k' ≤ k) :
    (w.extractLsb' lo k).extractLsb' lo' k' = w.extractLsb' (lo + lo') k' := by
  apply BitVec.eq_of_getLsbD_eq
  intro i hi
  have inner : lo' + i < k := by omega
  simp [hi, inner, Nat.add_assoc]

theorem getLsbD_of_extract {n lo : Nat} {w : BitVec n} {x : Bool} (h : w.extractLsb' lo 1 = BitVec.ofBool x) : w.getLsbD lo = x := by
  have value := congrArg (·.getLsbD 0) h
  simpa [BitVec.getLsbD_extractLsb'] using value

end Sys2Proof
end

section
/-! Decoding an encoded instruction finds it again (R167–R169). -/

namespace Sys2Proof

@[simp] theorem sf_toFin (r : SReg) : (sf r).toFin = r := rfl
@[simp] theorem vf_toFin (r : VReg) : (vf r).toFin = r := rfl
@[simp] theorem pf_toFin (r : PReg) : (pf r).toFin = r := rfl

section
variable {op : BitVec 7} {vd va vb : BitVec 5} {pg : PReg} {s x : BitVec 1} {fn : BitVec 5}

/-- A scalar or predicate register in the place of vd, and a scalar one in that of vb (R167). -/
theorem sregAt_encV3_vd (r : SReg) : sregAt (encV3 op (0#1 ++ sf r) va vb pg s x fn) 20 = r := by
  obtain ⟨-, place, -⟩ := encV3_fields op (0#1 ++ sf r) va vb pg s x fn
  rw [sregAt, ← extract_extract _ (by omega : 0 + 4 ≤ 5), place]
  exact congrArg BitVec.toFin (low_append 0#1 (sf r))

theorem pregAt_encV3_vd (r : PReg) : pregAt (encV3 op (0#2 ++ pf r) va vb pg s x fn) 20 = r := by
  obtain ⟨-, place, -⟩ := encV3_fields op (0#2 ++ pf r) va vb pg s x fn
  rw [pregAt, ← extract_extract _ (by omega : 0 + 3 ≤ 5), place]
  exact congrArg BitVec.toFin (low_append 0#2 (pf r))

theorem pregAt_encV3_pg : pregAt (encV3 op vd va vb pg s x fn) 7 = pg := by
  obtain ⟨-, -, -, -, place, -⟩ := encV3_fields op vd va vb pg s x fn
  rw [pregAt, place, pf_toFin]

theorem sregAt_encV3_vb (r : SReg) : sregAt (encV3 op vd va (0#1 ++ sf r) pg s x fn) 10 = r := by
  obtain ⟨-, -, -, place, -⟩ := encV3_fields op vd va (0#1 ++ sf r) pg s x fn
  rw [sregAt, ← extract_extract _ (by omega : 0 + 4 ≤ 5), place]
  exact congrArg BitVec.toFin (low_append 0#1 (sf r))

/-- The second source by its S bit (R167). -/
theorem vsrcAt_encV3 (b : VSrc) : vsrcAt (encV3 op vd va b.regField pg b.isScalar x fn) = b := by
  obtain ⟨-, -, -, place, -, scalar, -⟩ := encV3_fields op vd va b.regField pg b.isScalar x fn
  cases b with
  | v r =>
    have bit6 := getLsbD_of_extract (x := false) scalar
    rw [vsrcAt, bit6, vregAt, place]
    rfl
  | s r =>
    have bit6 := getLsbD_of_extract (x := true) scalar
    rw [vsrcAt, bit6]
    exact congrArg VSrc.s (sregAt_encV3_vb r)

theorem wide_encV3 (w : Bool) : (encV3 op vd va vb pg s (BitVec.ofBool w) fn).getLsbD 5 = w := by
  obtain ⟨-, -, -, -, -, -, wide, -⟩ := encV3_fields op vd va vb pg s (BitVec.ofBool w) fn
  exact getLsbD_of_extract wide

end

theorem wide_encVP (vd va : VReg) (vb : BitVec 5) (sc : BitVec 4) (w : Bool) (fn : BitVec 5) : (encVP vd va vb sc w fn).getLsbD 5 = w := by
  obtain ⟨-, -, -, -, -, wide, -⟩ := encVP_fields vd va vb sc w fn
  exact getLsbD_of_extract wide

/-- KHI's immediate below the zeros of its place (R172). -/
theorem khi_imm (sd : SReg) (fn : BitVec 2) (imm : BitVec 16) : (encSC sd fn (0#3 ++ imm)).extractLsb' 0 16 = imm := by
  obtain ⟨-, -, -, place⟩ := encSC_fields sd fn (0#3 ++ imm)
  rw [← extract_extract (k := 19) _ (by omega : 0 + 16 ≤ 19), place]
  exact low_append 0#3 imm

/-- The two size fields of LD and ST as one number (R174). -/
theorem size_encSM (op : BitVec 7) (s sa : SReg) (sz : BitVec 2) (u : BitVec 1) (imm : BitVec 14) :
    ((encSM op s sa sz u imm).extractLsb' 14 3).toNat = 2 * sz.toNat + u.toNat := by
  obtain ⟨-, -, -, size, unsigned_, -⟩ := encSM_fields op s sa sz u imm
  have high := congrArg BitVec.toNat size
  have low := congrArg BitVec.toNat unsigned_
  simp only [BitVec.extractLsb'_toNat, Nat.shiftRight_eq_div_pow] at high low ⊢
  omega

/-! The opcode of a format leads to the sub-functions of its table (R168). -/

section
variable {vd va vb : BitVec 5} {pg : PReg} {s x : BitVec 1} {fn : BitVec 5}

theorem opcode_candValu : myvikCandidate (encV3 0x40 vd va vb pg s x fn) = candValu (encV3 0x40 vd va vb pg s x fn) := by
  simp only [myvikCandidate, encV3_fields, BitVec.reduceToNat]

theorem opcode_candVmac : myvikCandidate (encV3 0x41 vd va vb pg s x fn) = candVmac (encV3 0x41 vd va vb pg s x fn) := by
  simp only [myvikCandidate, encV3_fields, BitVec.reduceToNat]

theorem opcode_candVcmp : myvikCandidate (encV3 0x42 vd va vb pg s x fn) = candVcmp (encV3 0x42 vd va vb pg s x fn) := by
  simp only [myvikCandidate, encV3_fields, BitVec.reduceToNat]

theorem opcode_candVsh : myvikCandidate (encV3 0x43 vd va vb pg s x fn) = candVsh (encV3 0x43 vd va vb pg s x fn) := by
  simp only [myvikCandidate, encV3_fields, BitVec.reduceToNat]

theorem opcode_candVred : myvikCandidate (encV3 0x45 vd va vb pg s x fn) = candVred (encV3 0x45 vd va vb pg s x fn) := by
  simp only [myvikCandidate, encV3_fields, BitVec.reduceToNat]

theorem opcode_candVmov : myvikCandidate (encV3 0x46 vd va vb pg s x fn) = candVmov (encV3 0x46 vd va vb pg s x fn) := by
  simp only [myvikCandidate, encV3_fields, BitVec.reduceToNat]

end

theorem opcode_candS3 {sd sa sb : SReg} {fn : BitVec 5} : myvikCandidate (encS3 sd sa sb fn) = candS3 (encS3 sd sa sb fn) := by
  simp only [myvikCandidate, encS3_fields, BitVec.reduceToNat]

theorem opcode_candSK {sd sa : SReg} {fn : BitVec 3} {imm : BitVec 14} : myvikCandidate (encSK sd sa fn imm) = candSK (encSK sd sa fn imm) := by
  simp only [myvikCandidate, encSK_fields, BitVec.reduceToNat]

theorem opcode_candSC {sd : SReg} {fn : BitVec 2} {imm : BitVec 19} : myvikCandidate (encSC sd fn imm) = candSC (encSC sd fn imm) := by
  simp only [myvikCandidate, encSC_fields, BitVec.reduceToNat]

theorem opcode_candSH {sd sa : SReg} {kind : BitVec 3} {amt : BitVec 8} : myvikCandidate (encSH sd sa kind amt) = candSH (encSH sd sa kind amt) := by
  simp only [myvikCandidate, encSH_fields, BitVec.reduceToNat]

theorem opcode_candBC {sa sb : SReg} {cc : BitVec 4} {off : BitVec 13} : myvikCandidate (encBC sa sb cc off) = candBC (encBC sa sb cc off) := by
  simp only [myvikCandidate, encBC_fields, BitVec.reduceToNat]

theorem opcode_candLD {s sa : SReg} {sz : BitVec 2} {u : BitVec 1} {imm : BitVec 14} : myvikCandidate (encSM 0x20 s sa sz u imm) = candLD (encSM 0x20 s sa sz u imm) := by
  simp only [myvikCandidate, encSM_fields, BitVec.reduceToNat]

theorem opcode_candST {s sa : SReg} {sz : BitVec 2} {u : BitVec 1} {imm : BitVec 14} : myvikCandidate (encSM 0x21 s sa sz u imm) = candST (encSM 0x21 s sa sz u imm) := by
  simp only [myvikCandidate, encSM_fields, BitVec.reduceToNat]

theorem opcode_candVperm {vd va : VReg} {vb : BitVec 5} {sc : BitVec 4} {w : Bool} {fn : BitVec 5} : myvikCandidate (encVP vd va vb sc w fn) = candVperm (encVP vd va vb sc w fn) := by
  simp only [myvikCandidate, encVP_fields, BitVec.reduceToNat]

theorem opcode_candPlog {pd pa pb : PReg} {s : SReg} {fn : BitVec 5} : myvikCandidate (encPL pd pa pb s fn) = candPlog (encPL pd pa pb s fn) := by
  simp only [myvikCandidate, encPL_fields, BitVec.reduceToNat]

/-- The instruction that an encoded word names is the one encoded. -/
theorem myvikCandidate_encode (i : Myvik) : myvikCandidate (myvikEncode i) = some i := by
  cases i
  case add | sub | and | or | xor | andn | sll | srl | sra | rol | ror | setlt | setltu | min | max | minu | maxu | mul | mulhs | mulhu | div | divu
      | rem | remu | clz | popc =>
    simp only [myvikEncode, opcode_candS3, candS3, encS3_fields, BitVec.reduceToNat, sregAt, sf_toFin]
  case addk | andk | ork | xork | setltk | setltuk | rsubk =>
    simp only [myvikEncode, opcode_candSK, candSK, encSK_fields, BitVec.reduceToNat, sregAt, sf_toFin]
  case kset | khi | pcadd =>
    simp only [myvikEncode, opcode_candSC, candSC, encSC_fields, khi_imm, BitVec.reduceToNat, sregAt, sf_toFin]
  case slli | srli | srai | roli | rori =>
    simp only [myvikEncode, opcode_candSH, candSH, encSH_fields, BitVec.reduceToNat, sregAt, sf_toFin]
  case bcEq | bcNe | bcLt | bcGe | bcLtu | bcGeu | bcLe | bcGt | bcTz | bcTnz =>
    simp only [myvikEncode, opcode_candBC, candBC, encBC_fields, BitVec.reduceToNat, sregAt, sf_toFin]
  case jrel | jreg | bpany | bpnone =>
    simp only [myvikEncode, myvikCandidate, encSJ_fields, encJG_fields, encPB_fields, BitVec.reduceToNat, sregAt, pregAt, sf_toFin, pf_toFin]
  case ldB | ldBu | ldH | ldHu | ldW =>
    simp only [myvikEncode, opcode_candLD, candLD, size_encSM, encSM_fields, BitVec.reduceToNat, sregAt, sf_toFin]
  case stB | stH | stW =>
    simp only [myvikEncode, opcode_candST, candST, size_encSM, encSM_fields, BitVec.reduceToNat, sregAt, sf_toFin]
  case vld | vst | vlds | vsts | vldbu | vstb =>
    simp only [myvikEncode, myvikCandidate, encVM_fields, encVMS_fields, BitVec.reduceToNat, sregAt, vregAt, pregAt, sf_toFin, vf_toFin, pf_toFin]
  case lfr | emit | yield | halt | cpost | cwait | mfc | mtc | fence =>
    simp only [myvikEncode, myvikCandidate, encLF_fields, encEM_fields, encN_fields, encCP_fields, encCW_fields, encCS_fields, BitVec.reduceToNat,
      sregAt, vregAt, sf_toFin, vf_toFin]
  case vadd | vsub | vadds | vsubs | vaddus | vsubus | vneg | vnegs | vabs | vabss | vabsdu | vavgu | vand | vor | vxor | vandn | vmin | vmax | vminu
      | vmaxu | vmul | vmulhs | vmulhu | vmulq | vmulus =>
    simp only [myvikEncode, opcode_candValu, candValu, encV3_fields, BitVec.reduceToNat, vregAt, pregAt, vf_toFin, pf_toFin, vsrcAt_encV3, wide_encV3]
  case vmac | vmacs | vmacus | vmsub | vmacw | vmacwu | vmacws | vsadw =>
    simp only [myvikEncode, opcode_candVmac, candVmac, encV3_fields, BitVec.reduceToNat, vregAt, pregAt, vf_toFin, pf_toFin, vsrcAt_encV3, wide_encV3]
  case vcmpEq | vcmpNe | vcmpLt | vcmpLe | vcmpGt | vcmpGe | vcmpLtu | vcmpLeu | vcmpGtu | vcmpGeu | vcmpTest =>
    simp only [myvikEncode, opcode_candVcmp, candVcmp, encV3_fields, BitVec.reduceToNat, pregAt_encV3_vd, pregAt_encV3_pg, vregAt, vf_toFin,
      vsrcAt_encV3, wide_encV3]
  case vsll | vsrl | vsra | vrol | vror | vsrar | vsrlr | vslls =>
    simp only [myvikEncode, opcode_candVsh, candVsh, encV3_fields, BitVec.reduceToNat, vregAt, pregAt, vf_toFin, pf_toFin, vsrcAt_encV3, wide_encV3]
  case vext | vslup | vsldn | vrot | vrev | vtbl | vsplat | vzipl | vziph | vuzpe | vuzpo =>
    simp only [myvikEncode, opcode_candVperm, candVperm, encVP_fields, BitVec.reduceToNat, sregAt, vregAt, sf_toFin, vf_toFin, wide_encVP]
  case vrsum | vrsumu | vrmin | vrmax | vrminu | vrmaxu | vrband | vrbor | vrargmax | vrargmin =>
    simp only [myvikEncode, opcode_candVred, candVred, encV3_fields, BitVec.reduceToNat, sregAt_encV3_vd, vregAt, pregAt, vf_toFin, pf_toFin,
      wide_encV3]
  case vmov | vsel | viota | vins | vextr | vextru | vwiden | vwidenu | vnarrow | vnarrows | vnarrowus =>
    simp only [myvikEncode, opcode_candVmov, candVmov, encV3_fields, BitVec.reduceToNat, sregAt_encV3_vd, sregAt_encV3_vb, vregAt, pregAt, vf_toFin,
      pf_toFin, vsrcAt_encV3, wide_encV3]
  case pand | por | pxor | pandn | pnot | pset | pclr | pfirst | ptos | stop | pcnt =>
    simp only [myvikEncode, opcode_candPlog, candPlog, encPL_fields, BitVec.reduceToNat, sregAt, pregAt, sf_toFin, pf_toFin]
  case vli => simp only [myvikEncode, myvikCandidate, encVI_fields, BitVec.reduceToNat, vregAt, vf_toFin]

/-- A word decodes to the one legal instruction that has it, if there is one (R169). -/
theorem myvikDecode_eq_some_iff {w : Word} {i : Myvik} : myvikDecode w = some i ↔ i.legal = true ∧ myvikEncode i = w := by
  rw [myvikDecode, Option.filter_eq_some_iff]
  simp only [Bool.and_eq_true, decide_eq_true_eq]
  constructor
  · rintro ⟨-, word, legal⟩
    exact ⟨legal, word⟩
  · rintro ⟨legal, rfl⟩
    exact ⟨myvikCandidate_encode i, rfl, legal⟩

/-- Settles O21: the candidate of an encoded instruction is that instruction, and the two checks of the decoder are the rest. -/
theorem decodeOfEncodeIsTheInstruction : Obligations.DecodeOfEncodeIsTheInstruction :=
  ⟨fun _ legal => myvikDecode_eq_some_iff.2 ⟨legal, rfl⟩, fun _ _ found => myvikDecode_eq_some_iff.1 found⟩

end Sys2Proof
end

section
/-! The lane instructions complete with the results of their tables (R163, R164, R180–R183, R189). -/

namespace Sys2Proof.Machine

variable {s : State} {b : BayIx} {c : Instr} {i : Myvik} {W : Bool} {vd va : VReg} {vb : VSrc} {pg : PReg}

/-- The even registers that a statement asks for are those that R169 asks for. -/
theorem legal_one {v : VReg} (h : evens W [v]) : (!W || even v) = true := by
  cases W
  · rfl
  · exact beq_iff_eq.2 (h rfl v (by simp))

theorem legal_two {u v : VReg} (h : evens W [u, v]) : (!W || (even u && even v)) = true := by
  cases W
  · rfl
  · exact Bool.and_eq_true_iff.2 ⟨beq_iff_eq.2 (h rfl u (by simp)), beq_iff_eq.2 (h rfl v (by simp))⟩

theorem legal_three {u v x : VReg} (h : evens W [u, v, x]) : (!W || (even u && even v && even x)) = true := by
  have two := legal_two (u := u) (v := v) fun hW y hy => h hW y (by simp at hy ⊢; tauto)
  cases W
  · rfl
  · exact Bool.and_eq_true_iff.2 ⟨two, beq_iff_eq.2 (h rfl x (by simp))⟩

theorem legal_two_src {u v : VReg} {x : VSrc} (h : evens W [u, v]) (hx : evenSrc W x) : (!W || (even u && even v && x.even)) = true := by
  have two := legal_two h
  cases W
  · rfl
  · exact Bool.and_eq_true_iff.2 ⟨two, hx rfl⟩

theorem legal_one_src {v : VReg} {x : VSrc} (h : evens W [v]) (hx : evenSrc W x) : (!W || (even v && x.even)) = true := by
  have one := legal_one h
  cases W
  · rfl
  · exact Bool.and_eq_true_iff.2 ⟨one, hx rfl⟩

/-- A legal lane instruction: the active lanes get what `f` gives, stated as the rule `g`. -/
theorem runsTo_lanes {f : JobRegs → Fin 32 → LaneOut (laneWidth W)} {g : JobRegs → Fin 32 → LaneRule (laneWidth W)}
    (hc : exec c s = regStep b i (fun r => (r.laneOp W vd pg (f r)).advance) s) (h : s.executes b) (legal : i.legal = true)
    (value : ∀ r k, (f r k).rule = g r k) : RunsTo c s b (ActiveLanesTo W vd pg g) :=
  runsTo_regStep hc h legal (JobRegs.activeLanesTo_laneOp _ W vd pg f g fun k => value _ k)

/-- One of two sources (R180, R183). -/
theorem runsTo_lane2 {f : (w : Nat) → BitVec w → BitVec w → LaneOut w}
    {g : BitVec (laneWidth W) → BitVec (laneWidth W) → LaneRule (laneWidth W)}
    (hc : exec c s = regStep b i (fun r => (r.lane2 W vd va vb pg f).advance) s) (h : s.executes b) (legal : i.legal = true)
    (value : ∀ x y, (f (laneWidth W) x y).rule = g x y) :
    RunsTo c s b (ActiveLanesTo W vd pg fun r k => g (r.lane W va k) (r.src W vb k)) :=
  runsTo_lanes hc h legal fun _ _ => value _ _

/-- One of one source. -/
theorem runsTo_lane1 {f : (w : Nat) → BitVec w → LaneOut w} {g : BitVec (laneWidth W) → LaneRule (laneWidth W)}
    (hc : exec c s = regStep b i (fun r => (r.lane1 W vd va pg f).advance) s) (h : s.executes b) (legal : i.legal = true)
    (value : ∀ x, (f (laneWidth W) x).rule = g x) : RunsTo c s b (ActiveLanesTo W vd pg fun r k => g (r.lane W va k)) :=
  runsTo_lanes hc h legal fun _ _ => value _

/-- One that adds to the destination lane (R181). -/
theorem runsTo_lane3 {f : (w : Nat) → BitVec w → BitVec w → BitVec w → LaneOut w}
    {g : BitVec (laneWidth W) → BitVec (laneWidth W) → BitVec (laneWidth W) → LaneRule (laneWidth W)}
    (hc : exec c s = regStep b i (fun r => (r.lane3 W vd va vb pg f).advance) s) (h : s.executes b) (legal : i.legal = true)
    (value : ∀ d x y, (f (laneWidth W) d x y).rule = g d x y) :
    RunsTo c s b (ActiveLanesTo W vd pg fun r k => g (r.lane W vd k) (r.lane W va k) (r.src W vb k)) :=
  runsTo_lanes hc h legal fun _ _ => value _ _ _

/-- One that accumulates 16-bit lanes into a pair (R181). -/
theorem runsTo_laneWide {f : Word → BitVec 16 → BitVec 16 → LaneOut 32} {g : Word → BitVec 16 → BitVec 16 → LaneRule 32}
    (hc : exec c s = regStep b i (fun r => (r.laneWide vd va vb pg f).advance) s) (h : s.executes b) (legal : i.legal = true)
    (value : ∀ d x y, (f d x y).rule = g d x y) :
    RunsTo c s b (ActiveLanesTo true vd pg fun r k => g (r.lane32 vd k) (r.lane16 va k) (r.src false vb k)) :=
  runsTo_lanes (W := true) hc h legal fun _ _ => value _ _ _

/-- Settles O4, row by row of the table. -/
theorem laneArithmeticWritesActiveLanes : Obligations.LaneArithmeticWritesActiveLanes := by
  intro s b vd va vb pg W h regs src w two one
  have pos : 0 < w := laneWidth_pos W
  have legal2 : (!W || (even vd && even va && vb.even)) = true := legal_two_src regs src
  have legal1 : (!W || (even vd && even va)) = true := legal_two regs
  refine ⟨?add, ?sub, ?adds, ?subs, ?addus, ?subus, ?neg, ?negs, ?abs, ?abss, ?absdu, ?avgu, ?and, ?or, ?xor, ?andn, ?min, ?max, ?minu, ?maxu,
    ?mul, ?mulhs, ?mulhu, ?mulq, ?mulus⟩
  case add => exact runsTo_lane2 exec_vadd h legal2 fun _ _ => rule_wrapS _
  case sub => exact runsTo_lane2 exec_vsub h legal2 fun _ _ => rule_wrapS _
  case adds => exact runsTo_lane2 exec_vadds h legal2 fun _ _ => rule_clampS _
  case subs => exact runsTo_lane2 exec_vsubs h legal2 fun _ _ => rule_clampS _
  case addus => exact runsTo_lane2 exec_vaddus h legal2 fun _ _ => rule_clampU _
  case subus => exact runsTo_lane2 exec_vsubus h legal2 fun _ _ => rule_clampU _
  case neg => exact runsTo_lane1 exec_vneg h legal1 (rule_vneg pos)
  case negs => exact runsTo_lane1 exec_vnegs h legal1 (rule_vnegs pos)
  case abs => exact runsTo_lane1 exec_vabs h legal1 (rule_vabs pos)
  case abss => exact runsTo_lane1 exec_vabss h legal1 (rule_vabss pos)
  case absdu => exact runsTo_lane2 exec_vabsdu h legal2 fun x y => congrArg bare (ite_ult_sub x y)
  case avgu => exact runsTo_lane2 exec_vavgu h legal2 fun _ _ => rule_plain _
  case and => exact runsTo_lane2 exec_vand h legal2 fun _ _ => rule_plain _
  case or => exact runsTo_lane2 exec_vor h legal2 fun _ _ => rule_plain _
  case xor => exact runsTo_lane2 exec_vxor h legal2 fun _ _ => rule_plain _
  case andn => exact runsTo_lane2 exec_vandn h legal2 fun _ _ => rule_plain _
  case min => exact runsTo_lane2 exec_vmin h legal2 fun x y => congrArg bare (ite_slt_eq_min x y)
  case max => exact runsTo_lane2 exec_vmax h legal2 fun x y => congrArg bare (ite_slt_eq_max x y)
  case minu => exact runsTo_lane2 exec_vminu h legal2 fun x y => congrArg bare (ite_ult_eq_min x y)
  case maxu => exact runsTo_lane2 exec_vmaxu h legal2 fun x y => congrArg bare (ite_ult_eq_max x y)
  case mul => exact runsTo_lane2 exec_vmul h legal2 fun _ _ => rule_wrapS _
  case mulhs => exact runsTo_lane2 exec_vmulhs h legal2 fun _ _ => rule_plain _
  case mulhu => exact runsTo_lane2 exec_vmulhu h legal2 fun _ _ => rule_plain _
  case mulq => exact runsTo_lane2 (W := false) exec_vmulq h rfl fun _ _ => rule_clampS _
  case mulus => exact runsTo_lane2 exec_vmulus h legal2 fun _ _ => rule_clampU _

/-- Settles O5, row by row of the table. -/
theorem multiplyAccumulateAddsToTheDestination : Obligations.MultiplyAccumulateAddsToTheDestination := by
  intro s b vd va vb pg W h w mac wide
  refine ⟨fun regs src => ⟨?mac, ?macs, ?macus, ?msub⟩, fun pair => ⟨?macw, ?macwu, ?macws, ?sadw⟩⟩
  case mac => exact runsTo_lane3 exec_vmac h (legal_two_src regs src) fun _ _ _ => rule_wrapS _
  case macs => exact runsTo_lane3 exec_vmacs h (legal_two_src regs src) fun _ _ _ => rule_clampS _
  case macus => exact runsTo_lane3 exec_vmacus h (legal_two_src regs src) fun _ _ _ => rule_clampU _
  case msub => exact runsTo_lane3 exec_vmsub h (legal_two_src regs src) fun _ _ _ => rule_wrapS _
  case macw => exact runsTo_laneWide exec_vmacw h (beq_iff_eq.2 pair) fun _ _ _ => rule_wrapS _
  case macwu => exact runsTo_laneWide exec_vmacwu h (beq_iff_eq.2 pair) rule_wrapU_mul
  case macws => exact runsTo_laneWide exec_vmacws h (beq_iff_eq.2 pair) fun _ _ _ => rule_clampS _
  case sadw =>
    exact runsTo_laneWide exec_vsadw h (beq_iff_eq.2 pair) fun d x y => (rule_wrapU_add d _).trans (by rw [ite_ult_sub])

theorem bne_eq_decide_ne {α : Type} [DecidableEq α] (x y : α) : (x != y) = decide (x ≠ y) := by
  rw [bne, beq_eq_decide, decide_not]

/-- A compare writes 0 to the bits of inactive lanes (R164, R182). -/
theorem runsTo_compare {pd : PReg} {f : (w : Nat) → BitVec w → BitVec w → Bool} {p : BitVec (laneWidth W) → BitVec (laneWidth W) → Bool}
    (hc : exec c s = regStep b i (fun r => (r.compare W pd va vb pg f).advance) s) (h : s.executes b) (legal : i.legal = true)
    (cond : ∀ x y, f (laneWidth W) x y = p x y) :
    RunsTo c s b (PredTo pd (BitVec.ofFnLE fun k : Fin 32 =>
      (s.regsOf b).active pg k && p ((s.regsOf b).lane W va k) ((s.regsOf b).src W vb k))) :=
  runsTo_pred (f := fun r => laneMask fun k => r.active pg k && f (laneWidth W) (r.lane W va k) (r.src W vb k)) hc h legal
    (by simp only [laneMask, cond])

/-- VCMP has eleven conditions; the others are reserved (R182). -/
theorem candVcmp_none {u : Word} (h : 0xB ≤ field u 4 0) : candVcmp u = none := by
  have lt : field u 4 0 < 32 := (u.extractLsb' 0 5).isLt
  rw [candVcmp, ← field_eq_toNat u 4 0]
  generalize field u 4 0 = n at h lt
  interval_cases n <;> rfl

/-- The candidates of VCMP have its format, with 0 above the predicate register (R167). -/
theorem encode_of_candVcmp {u : Word} {m : Myvik} (h : candVcmp u = some m) :
    ∃ (pd : PReg) (va vb : BitVec 5) (pg : PReg) (k x : BitVec 1) (fn : BitVec 5), myvikEncode m = encV3 0x42 (0#2 ++ pf pd) va vb pg k x fn := by
  unfold candVcmp at h
  split at h <;> cases h <;> exact ⟨_, _, _, _, _, _, _, rfl⟩

theorem high_append {n k : Nat} (z : BitVec n) (x : BitVec k) : (z ++ x).extractLsb' k n = z := by
  have low : (z.toNat * 2 ^ k + x.toNat) / 2 ^ k = z.toNat := by
    rw [Nat.mul_comm, Nat.mul_add_div (Nat.two_pow_pos k), Nat.div_eq_of_lt x.isLt, Nat.add_zero]
  exact extract_of_toNat (by rw [toNat_append_add, low, Nat.mod_eq_of_lt z.isLt])

theorem field_high_of_candVcmp {u : Word} {m : Myvik} (h : candVcmp u = some m) : field (myvikEncode m) 24 23 = 0 := by
  obtain ⟨pd, va, vb, pg, k, x, fn, word⟩ := encode_of_candVcmp h
  obtain ⟨-, place, -⟩ := encV3_fields 0x42 (0#2 ++ pf pd) va vb pg k x fn
  rw [word, field_eq_toNat, ← extract_extract (lo := 20) (k := 5) (lo' := 3) _ (by omega), place]
  exact congrArg BitVec.toNat (high_append 0#2 (pf pd))

/-- A word of VCMP with a reserved condition or a bit above its predicate register is no instruction (R169, R182). -/
theorem myvikDecode_vcmp_reserved {u : Word} (opcode : field u 31 25 = 0x42) (reserved : 0xB ≤ field u 4 0 ∨ field u 24 23 ≠ 0) :
    myvikDecode u = none := by
  have candidate : myvikCandidate u = candVcmp u := by
    rw [myvikCandidate, ← field_eq_toNat u 31 25, opcode]
    rfl
  rw [Option.eq_none_iff_forall_ne_some]
  intro m found
  obtain ⟨-, word⟩ := myvikDecode_eq_some_iff.1 found
  have same := myvikCandidate_encode m
  rw [word, candidate] at same
  rcases reserved with condition | high
  · rw [candVcmp_none condition] at same
    cases same
  · exact high (word ▸ field_high_of_candVcmp same)

/-- Settles O6, condition by condition. -/
theorem comparesWriteThePredicate : Obligations.ComparesWriteThePredicate := by
  intro s b pd pg va vb W u h regs src r w cmp
  have legal : (!W || (even va && vb.even)) = true := legal_one_src regs src
  have run {c : Instr} {i : Myvik} {f : (w : Nat) → BitVec w → BitVec w → Bool} (p : BitVec w → BitVec w → Bool)
      (hc : exec c s = regStep b i (fun r => (r.compare W pd va vb pg f).advance) s) (hi : i.legal = true) (cond : ∀ x y, f w x y = p x y) :
      cmp c p := runsTo_compare hc h hi cond
  refine ⟨?eq, ?ne, ?lt, ?le, ?gt, ?ge, ?ltu, ?leu, ?gtu, ?geu, ?test, ?reserved⟩
  case eq => exact run (fun x y => decide (x = y)) exec_vcmpEq legal fun x y => beq_eq_decide x y
  case ne => exact run (fun x y => decide (x ≠ y)) exec_vcmpNe legal fun x y => bne_eq_decide_ne x y
  case lt => exact run (fun x y => decide (x.toInt < y.toInt)) exec_vcmpLt legal fun _ _ => BitVec.slt_eq_decide
  case le => exact run (fun x y => decide (x.toInt ≤ y.toInt)) exec_vcmpLe legal fun _ _ => BitVec.sle_eq_decide
  case gt => exact run (fun x y => decide (y.toInt < x.toInt)) exec_vcmpGt legal fun _ _ => BitVec.slt_eq_decide
  case ge => exact run (fun x y => decide (y.toInt ≤ x.toInt)) exec_vcmpGe legal fun _ _ => BitVec.sle_eq_decide
  case ltu => exact run (fun x y => decide (x.toNat < y.toNat)) exec_vcmpLtu legal fun _ _ => rfl
  case leu => exact run (fun x y => decide (x.toNat ≤ y.toNat)) exec_vcmpLeu legal fun _ _ => rfl
  case gtu => exact run (fun x y => decide (y.toNat < x.toNat)) exec_vcmpGtu legal fun _ _ => rfl
  case geu => exact run (fun x y => decide (y.toNat ≤ x.toNat)) exec_vcmpGeu legal fun _ _ => rfl
  case test => exact run (fun x y => decide (x &&& y ≠ 0)) exec_vcmpTest legal fun x y => bne_eq_decide_ne (x &&& y) 0
  case reserved => exact fun opcode reserved => exec_illegal_word h (myvikDecode_vcmp_reserved opcode reserved)

end Sys2Proof.Machine
end

section
/-! The lane shifts, permutes, moves and conversions complete with the results of their tables (R163, R164, R183, R184, R186, R188). -/

namespace Sys2Proof.Machine

variable {s : State} {b : BayIx} {c : Instr} {i : Myvik} {W : Bool} {vd va vb : VReg} {src : VSrc} {pg : PReg}

/-- A lane shift reads its amount from bits [7:0] of the second source (R183). -/
theorem runsTo_shift {f : (w : Nat) → BitVec w → Nat → LaneOut w} {g : BitVec (laneWidth W) → Nat → LaneRule (laneWidth W)}
    (hc : exec c s = regStep b i (fun r => (r.lane2 W vd va src pg fun w x y => f w x (laneAmount y)).advance) s) (h : s.executes b)
    (legal : i.legal = true) (value : ∀ x n, (f (laneWidth W) x n).rule = g x n) :
    RunsTo c s b (ActiveLanesTo W vd pg fun r k => g (r.lane W va k) ((r.src W src k).toNat % 256)) :=
  runsTo_lanes hc h legal fun r k => laneAmount_eq (r.src W src k) ▸ value _ _

/-- Settles O7, row by row of the table. -/
theorem laneShiftsFollowTheirTable : Obligations.LaneShiftsFollowTheirTable := by
  intro s b vd va vb pg W h regs even w sh
  have legal : (!W || (Sys2Proof.even vd && Sys2Proof.even va && vb.even)) = true := legal_two_src regs even
  refine ⟨?sll, ?srl, ?sra, ?rol, ?ror, ?srar, ?srlr, ?slls⟩
  case sll => exact runsTo_shift (f := fun _ x n => plain (x <<< n)) exec_vsll h legal fun _ _ => rule_plain _
  case srl => exact runsTo_shift (f := fun _ x n => plain (x >>> n)) exec_vsrl h legal fun _ _ => rule_plain _
  case sra => exact runsTo_shift (f := fun _ x n => plain (x.sshiftRight n)) exec_vsra h legal fun _ _ => rule_plain _
  case rol =>
    exact runsTo_shift (f := fun w x n => plain (x.rotateLeft (n % w))) exec_vrol h legal fun x n => congrArg bare (rotateLeft_eq_shifts x n)
  case ror =>
    exact runsTo_shift (f := fun w x n => plain (x.rotateRight (n % w))) exec_vror h legal fun x n => congrArg bare (rotateRight_eq_shifts x n)
  case srar => exact runsTo_shift (f := fun w x n => plain (BitVec.ofInt w (rhe x.toInt n))) exec_vsrar h legal fun _ _ => rule_plain _
  case srlr => exact runsTo_shift (f := fun w x n => plain (BitVec.ofInt w (rhe x.toNat n))) exec_vsrlr h legal fun _ _ => rule_plain _
  case slls => exact runsTo_shift (f := fun w x n => clampS w (x.toInt * 2 ^ n)) exec_vslls h legal fun _ _ => rule_clampS _

/-- A write of every lane of `vd`. -/
theorem runsTo_setLanes {f : JobRegs → Fin 32 → BitVec (laneWidth W)} {g : Fin 32 → BitVec (laneWidth W)}
    (hc : exec c s = regStep b i (fun r => (r.setLanes W vd (f r)).advance) s) (h : s.executes b) (legal : i.legal = true)
    (value : ∀ k, f (s.regsOf b) k = g k) : RunsTo c s b (LanesTo W vd g (fun _ => false) (fun _ => false)) := by
  obtain rfl : f (s.regsOf b) = g := funext value
  exact runsTo_regStep hc h legal (JobRegs.lanesTo_setLanes _ W vd _)

/-- A predicated write of lanes that sets no flag. -/
theorem runsTo_setActive {f : JobRegs → Fin 32 → BitVec (laneWidth W)}
    (hc : exec c s = regStep b i (fun r => (r.setActive W vd pg (f r)).advance) s) (h : s.executes b) (legal : i.legal = true) :
    RunsTo c s b (ActiveLanesTo W vd pg fun r k => bare (f r k)) :=
  runsTo_regStep hc h legal (JobRegs.activeLanesTo_setActive _ W vd pg f)

section
variable (r : JobRegs)

/-- Lane j of a pair of registers, or 0 past both (R184). -/
theorem JobRegs.catLane_eq (j : Nat) : r.catLane W va vb j =
    if j < 32 then (if h : j < 32 then r.lane W va ⟨j, h⟩ else 0) else if h : j < 64 then r.lane W vb ⟨j - 32, by omega⟩ else 0 := by
  unfold JobRegs.catLane JobRegs.laneAt
  split
  · rfl
  · next past =>
    by_cases second : j < 64
    · rw [dif_pos (by omega : j - 32 < 32), dif_pos second]
    · rw [dif_neg (by omega : ¬ j - 32 < 32), dif_neg second]

/-- The lanes of `vb` follow those of `va`. -/
theorem JobRegs.catLane_add (j : Nat) : r.catLane W va vb (32 + j) = r.laneAt W vb j := by
  rw [JobRegs.catLane, if_neg (by omega), Nat.add_sub_cancel_left]

end

/-- Settles O8, row by row of the table. -/
theorem permutesMoveLanes : Obligations.PermutesMoveLanes := by
  intro s b vd va vb sc W h regs r w k a both mv
  have legal3 : (!W || (even vd && even va && even vb)) = true := legal_three regs
  have legal2 : (!W || (even vd && even va)) = true := legal_two fun hW y hy => regs hW y (by simp at hy ⊢; tauto)
  have amt : permK r sc = k := amount_eq _
  have cat (j : Nat) : r.catLane W va vb j = both j := r.catLane_eq j
  have second (j : Nat) : r.laneAt W vb j = both (32 + j) := by rw [← cat, JobRegs.catLane_add]
  refine ⟨?ext, ?slup, ?sldn, ?rot, ?rev, ?tbl, ?splat, ?zipl, ?ziph, ?uzpe, ?uzpo⟩
  case ext => exact runsTo_setLanes exec_vext h legal3 fun i => amt ▸ cat _
  case slup => exact runsTo_setLanes exec_vslup h legal2 fun i => amt ▸ rfl
  case sldn => exact runsTo_setLanes exec_vsldn h legal2 fun i => amt ▸ rfl
  case rot => exact runsTo_setLanes exec_vrot h legal2 fun i => amt ▸ rfl
  case rev => exact runsTo_setLanes exec_vrev h legal2 fun i => rfl
  case tbl =>
    have inside (i : Fin 32) : r.laneAt W va (r.lane W vb i).toNat = if h : i.val < 32 then a (r.lane W vb ⟨i, h⟩).toNat else 0 := by
      rw [dif_pos i.isLt]
      rfl
    exact runsTo_setLanes exec_vtbl h legal3 inside
  case splat => exact runsTo_setLanes exec_vsplat h legal2 fun i => amt ▸ rfl
  case zipl => exact runsTo_setLanes exec_vzipl h legal3 fun i => congrArg (ite _ _) (second _)
  case ziph =>
    exact runsTo_setLanes exec_vziph h legal3 fun i => congrArg (ite _ _) ((second _).trans (congrArg both (by omega)))
  case uzpe => exact runsTo_setLanes exec_vuzpe h legal3 fun i => cat _
  case uzpo => exact runsTo_setLanes exec_vuzpo h legal3 fun i => cat _

/-- The narrowing clamps have the bounds of 16 bits (R186). -/
theorem rule_clampS_16 (x : Int) : (clampS 16 x).rule = clamping (-32768) 32767 x := rule_clampS x

theorem rule_clampU_16 (x : Int) : (clampU 16 x).rule = clamping 0 65535 x := rule_clampU x

/-- Settles O10, row by row of the tables. -/
theorem movesAndConversionsWriteLanes : Obligations.MovesAndConversionsWriteLanes := by
  intro s b vd va vb sb sd pg k W imm h r w all
  refine ⟨fun regs => ⟨?mov, fun src => ?sel⟩, fun dest => ⟨?iota, ?ins⟩, fun source => ⟨?extr, ?extru⟩, fun pair => ⟨?widen, ?widenu⟩,
    fun pair => ⟨?narrow, ?narrows, ?narrowus⟩, ?vli⟩
  case mov => exact runsTo_lane1 exec_vmov h (legal_two regs) fun x => rule_plain x
  case sel => exact runsTo_setLanes exec_vsel h (legal_two_src regs src) fun _ => rfl
  case iota => exact runsTo_setActive exec_viota h (legal_one dest)
  case ins => exact runsTo_setLanes exec_vins h (legal_one dest) fun _ => rfl
  case extr => exact runsTo_scalar exec_vextr h (legal_one source) rfl
  case extru => exact runsTo_scalar exec_vextru h (legal_one source) rfl
  case widen => exact runsTo_setActive (W := true) exec_vwiden h (beq_iff_eq.2 pair)
  case widenu => exact runsTo_setActive (W := true) exec_vwidenu h (beq_iff_eq.2 pair)
  case narrow => exact runsTo_lanes (W := false) exec_vnarrow h (beq_iff_eq.2 pair) fun _ _ => rule_plain _
  case narrows => exact runsTo_lanes (W := false) exec_vnarrows h (beq_iff_eq.2 pair) fun _ _ => rule_clampS_16 _
  case narrowus => exact runsTo_lanes (W := false) exec_vnarrowus h (beq_iff_eq.2 pair) fun _ _ => rule_clampU_16 _
  case vli => exact runsTo_setLanes (W := false) (f := fun _ _ => imm) exec_vli h rfl fun _ => rfl

end Sys2Proof.Machine
end

section
/-! The reductions over the active lanes (R185): sums, bounds and the lowest lane that reaches one. -/

namespace Sys2Proof.Machine

section
variable {α : Type} {key : α → Int}

theorem foldl_add_eq_sum {β : Type} [AddMonoid β] (f : α → β) (l : List α) (init : β) :
    l.foldl (fun acc x => acc + f x) init = init + (l.map f).sum := by
  induction l generalizing init with
  | nil => simp
  | cons x xs ih => simp [ih, add_assoc]

/-- Folding with a choice of the argument of least key: the result is one of the values and none lies below it. -/
theorem foldl_least {f : α → α → α} (choice : ∀ a b, (f a b = a ∧ key a ≤ key b) ∨ (f a b = b ∧ key b ≤ key a)) (l : List α) (init : α) :
    (l.foldl f init = init ∨ l.foldl f init ∈ l) ∧ key (l.foldl f init) ≤ key init ∧ ∀ x ∈ l, key (l.foldl f init) ≤ key x := by
  induction l generalizing init with
  | nil => simp
  | cons y ys ih =>
    obtain ⟨from_, below, all⟩ := ih (f init y)
    simp only [List.foldl_cons, List.mem_cons, forall_eq_or_imp]
    rcases choice init y with ⟨kept, le⟩ | ⟨taken, le⟩
    · rw [kept] at from_ below all ⊢
      exact ⟨from_.imp_right .inr, below, below.trans le, all⟩
    · rw [taken] at from_ below all ⊢
      exact ⟨.inr from_, below.trans le, below, all⟩

/-- From a value that none lies above, the fold of some values finds one of them. -/
theorem foldl_least_of_top {f : α → α → α} (choice : ∀ a b, (f a b = a ∧ key a ≤ key b) ∨ (f a b = b ∧ key b ≤ key a))
    (inj : Function.Injective key) {top : α} (least : ∀ x, key x ≤ key top) {l : List α} (some_ : l ≠ []) :
    l.foldl f top ∈ l ∧ ∀ x ∈ l, key (l.foldl f top) ≤ key x := by
  obtain ⟨from_, -, all⟩ := foldl_least choice l top
  refine ⟨from_.elim (fun same => ?_) id, all⟩
  obtain ⟨x, hx⟩ := List.exists_mem_of_ne_nil l some_
  have value : x = top := inj (le_antisymm (least x) (same ▸ all x hx))
  rw [same, ← value]
  exact hx

/-- Folding rising indices with a change to a strictly smaller key finds the lowest index of least key. -/
theorem foldl_first_least {k : Fin 32 → Int} (l : List (Fin 32)) (i : Fin 32) (rising : (i :: l).Pairwise (· < ·)) :
    let m := l.foldl (fun best j => if k j < k best then j else best) i
    m ∈ i :: l ∧ (∀ x ∈ i :: l, k m ≤ k x) ∧ ∀ x ∈ i :: l, x < m → k m < k x := by
  induction l generalizing i with
  | nil => simp
  | cons y ys ih =>
    obtain ⟨first, rest⟩ := List.pairwise_cons.1 rising
    obtain ⟨above, tail⟩ := List.pairwise_cons.1 rest
    have next : i < y := first y (by simp)
    intro m
    simp only [List.mem_cons, forall_eq_or_imp] at *
    by_cases less : k y < k i
    · obtain ⟨mem, ⟨least, all⟩, low, lower⟩ := ih y rest
      have value : m = ys.foldl (fun best j => if k j < k best then j else best) y := by simp only [m, List.foldl_cons, if_pos less]
      rw [← value] at mem least all low lower
      exact ⟨.inr mem, ⟨least.trans less.le, least, all⟩, fun _ => least.trans_lt less, low, lower⟩
    · obtain ⟨mem, ⟨least, all⟩, low, lower⟩ := ih i (List.pairwise_cons.2 ⟨first.2, tail⟩)
      have value : m = ys.foldl (fun best j => if k j < k best then j else best) i := by simp only [m, List.foldl_cons, if_neg less]
      rw [← value] at mem least all low lower
      have bound := not_lt.1 less
      exact ⟨mem.imp_right .inr, ⟨least, least.trans bound, all⟩, low, fun past => (low (next.trans past)).trans_le bound, lower⟩

end

section
variable (r : JobRegs) (W : Bool) (va : VReg) (pg : PReg)

theorem JobRegs.mem_actives {r : JobRegs} {pg : PReg} {i : Fin 32} : i ∈ r.actives pg ↔ r.active pg i = true := by simp [JobRegs.actives]

theorem JobRegs.actives_rising : (r.actives pg).Pairwise (· < ·) := (List.pairwise_lt_finRange 32).filter _

theorem JobRegs.reduce_eq_foldl (init : BitVec (laneWidth W)) (f : BitVec (laneWidth W) → BitVec (laneWidth W) → BitVec (laneWidth W)) :
    r.reduce W va pg init f = ((r.actives pg).map (r.lane W va)).foldl f init := by rw [JobRegs.reduce, List.foldl_map]

/-- The lowest active lane of least key, where lanes are compared by a key (R185). -/
theorem JobRegs.argBest_iff {key : BitVec (laneWidth W) → Int} {better : BitVec (laneWidth W) → BitVec (laneWidth W) → Bool}
    (compares : ∀ x y, better x y = true ↔ key x < key y) (i : Fin 32) (active : r.active pg i = true) :
    BitVec.ofNat 32 (r.argBest W va pg better) = BitVec.ofNat 32 i.val ↔
      (∀ j, r.active pg j = true → key (r.lane W va i) ≤ key (r.lane W va j))
      ∧ ∀ j, r.active pg j = true → j < i → ¬ key (r.lane W va j) ≤ key (r.lane W va i) := by
  have mem (j : Fin 32) : r.active pg j = true ↔ j ∈ r.actives pg := JobRegs.mem_actives.symm
  simp only [mem] at active ⊢
  have rising := r.actives_rising pg
  rw [JobRegs.argBest]
  cases lanes : r.actives pg with
  | nil => rw [lanes] at active; cases active
  | cons a as =>
    rw [lanes] at active rising
    simp only [compares]
    obtain ⟨found, least, lowest⟩ := foldl_first_least (k := fun j => key (r.lane W va j)) as a rising
    set m := as.foldl (fun best j => if key (r.lane W va j) < key (r.lane W va best) then j else best) a
    have same : BitVec.ofNat 32 m.val = BitVec.ofNat 32 i.val ↔ m = i := by
      refine ⟨fun e => Fin.ext ?_, fun e => e ▸ rfl⟩
      have value := congrArg BitVec.toNat e
      rwa [BitVec.toNat_ofNat, BitVec.toNat_ofNat, Nat.mod_eq_of_lt (by omega), Nat.mod_eq_of_lt (by omega)] at value
    refine same.trans ⟨fun e => e ▸ ⟨least, fun j hj below => not_le.2 (lowest j hj below)⟩, fun ⟨best, first⟩ => ?_⟩
    rcases lt_trichotomy m i with before | e | after
    · exact absurd (least i active) (first m found before)
    · exact e
    · exact absurd (best m found) (not_le.2 (lowest i active after))

theorem JobRegs.argBest_none {better : BitVec (laneWidth W) → BitVec (laneWidth W) → Bool} (none_ : (r.actives pg).map (r.lane W va) = []) :
    r.argBest W va pg better = 32 := by
  rw [JobRegs.argBest, List.map_eq_nil_iff.1 none_]

end

section
variable {w : Nat} (x y : BitVec w)

/-- What each minimum and maximum chooses, by a key that it makes least. -/
theorem choice_slt_min : ((if x.slt y then x else y) = x ∧ x.toInt ≤ y.toInt) ∨ ((if x.slt y then x else y) = y ∧ y.toInt ≤ x.toInt) := by
  rw [BitVec.slt_eq_decide]
  by_cases less : x.toInt < y.toInt
  · exact .inl ⟨if_pos (decide_eq_true less), less.le⟩
  · exact .inr ⟨if_neg (by simpa using less), not_lt.1 less⟩

theorem choice_slt_max : ((if x.slt y then y else x) = x ∧ -x.toInt ≤ -y.toInt) ∨ ((if x.slt y then y else x) = y ∧ -y.toInt ≤ -x.toInt) := by
  rw [BitVec.slt_eq_decide]
  by_cases less : x.toInt < y.toInt
  · exact .inr ⟨if_pos (decide_eq_true less), neg_le_neg less.le⟩
  · exact .inl ⟨if_neg (by simpa using less), neg_le_neg (not_lt.1 less)⟩

theorem choice_ult_min : ((if x.ult y then x else y) = x ∧ (x.toNat : Int) ≤ y.toNat) ∨ ((if x.ult y then x else y) = y ∧ (y.toNat : Int) ≤ x.toNat) := by
  by_cases less : x.toNat < y.toNat
  · exact .inl ⟨if_pos (decide_eq_true less), by omega⟩
  · exact .inr ⟨if_neg (by simpa [BitVec.ult] using less), by omega⟩

theorem choice_ult_max :
    ((if x.ult y then y else x) = x ∧ -(x.toNat : Int) ≤ -y.toNat) ∨ ((if x.ult y then y else x) = y ∧ -(y.toNat : Int) ≤ -x.toNat) := by
  by_cases less : x.toNat < y.toNat
  · exact .inr ⟨if_pos (decide_eq_true less), by omega⟩
  · exact .inl ⟨if_neg (by simpa [BitVec.ult] using less), by omega⟩

end

theorem toInt_injective {w : Nat} : Function.Injective (@BitVec.toInt w) := fun _ _ => BitVec.eq_of_toInt_eq
theorem toNat_injective {w : Nat} : Function.Injective fun x : BitVec w => (x.toNat : Int) :=
  fun _ _ h => BitVec.eq_of_toNat_eq (Int.ofNat_inj.1 h)

/-- A minimum or maximum of the active lanes: the table's value with none active, else one of them and a bound of all (R185). -/
theorem reduce_best {r : JobRegs} {W : Bool} {va : VReg} {pg : PReg} {f : BitVec (laneWidth W) → BitVec (laneWidth W) → BitVec (laneWidth W)}
    {key : BitVec (laneWidth W) → Int} (choice : ∀ x y, (f x y = x ∧ key x ≤ key y) ∨ (f x y = y ∧ key y ≤ key x))
    (inj : Function.Injective key) {top : BitVec (laneWidth W)} (least : ∀ x, key x ≤ key top) {le : BitVec (laneWidth W) → BitVec (laneWidth W) → Prop}
    (order : ∀ m l, key m ≤ key l → le m l) (ext : BitVec (laneWidth W) → Word) :
    let lanes := (r.actives pg).map (r.lane W va)
    let x := ext (r.reduce W va pg top f)
    (lanes = [] → x = ext top) ∧ (lanes ≠ [] → ∃ m ∈ lanes, x = ext m ∧ ∀ l ∈ lanes, le m l) := by
  intro lanes x
  have value : x = ext (lanes.foldl f top) := congrArg ext (r.reduce_eq_foldl W va pg top f)
  refine ⟨fun none_ => by rw [value, none_]; rfl, fun some_ => ?_⟩
  obtain ⟨mem, all⟩ := foldl_least_of_top choice inj least some_
  exact ⟨_, mem, value, fun l hl => order _ _ (all l hl)⟩

/-- The values for no active lane (R185): none lies beyond them. -/
theorem ofInt_maxS {w : Nat} : BitVec.ofInt w (maxS w) = BitVec.intMax w := by
  rw [maxS, ← BitVec.toInt_intMax (w := w), BitVec.ofInt_toInt]

theorem ofInt_minS {w : Nat} (pos : 0 < w) : BitVec.ofInt w (minS w) = BitVec.intMin w := by
  rw [minS, ← BitVec.toInt_intMin_of_pos pos, BitVec.ofInt_toInt]

theorem toInt_le_intMax {w : Nat} (x : BitVec w) : x.toInt ≤ (BitVec.intMax w).toInt := by
  rw [BitVec.toInt_intMax]
  exact Int.le_sub_one_of_lt BitVec.toInt_lt

theorem intMin_le_toInt {w : Nat} (pos : 0 < w) (x : BitVec w) : (BitVec.intMin w).toInt ≤ x.toInt := by
  rw [BitVec.toInt_intMin_of_pos pos]
  exact BitVec.le_toInt x

theorem toNat_le_allOnes {w : Nat} (x : BitVec w) : x.toNat ≤ (BitVec.allOnes w).toNat := by
  rw [BitVec.toNat_allOnes]
  exact Nat.le_sub_one_of_lt x.isLt

/-- OV of VRSUM (R185). -/
theorem flag_outS (x : Int) : (if outS 32 x then sfOv else 0) = if x < -(2 ^ 31) ∨ 2 ^ 31 ≤ x then 1 else (0 : Word) := by
  rw [outS_eq]
  by_cases out : x < -(2 ^ 31) ∨ 2 ^ 31 ≤ x
  · rw [if_pos out, if_pos (decide_eq_true out)]; rfl
  · rw [if_neg out, if_neg (by simpa using out)]

/-- Settles O9: sums, bounds and bitwise combinations are folds of the active lanes, and an index is the first of least key. -/
theorem reductionsCombineActiveLanes : Obligations.ReductionsCombineActiveLanes := by
  intro s b sd va pg W h regs r w lanes gets best arg sum sumU
  have legal : (!W || even va) = true := legal_one regs
  have pos : 0 < w := laneWidth_pos W
  have total : (r.actives pg).foldl (fun acc i => acc + (r.lane W va i).toInt) (0 : Int) = sum := by
    rw [foldl_add_eq_sum, Int.zero_add]
    simp only [sum, lanes, List.map_map, Function.comp_def]
  have totalU : (r.actives pg).foldl (fun acc i => acc + (r.lane W va i).toNat) 0 = sumU := by
    rw [foldl_add_eq_sum, Nat.zero_add]
    simp only [sumU, lanes, List.map_map, Function.comp_def]
  have index {c : Instr} {i : Myvik} {key : BitVec w → Int} {better : BitVec w → BitVec w → Bool}
      (hc : exec c s = regStep b i (fun r => (r.setS sd (BitVec.ofNat 32 (r.argBest W va pg better))).advance) s) (hi : i.legal = true)
      (compares : ∀ x y, better x y = true ↔ key x < key y) : arg c fun m l => key m ≤ key l :=
    ⟨_, ⟨fun none_ => congrArg (BitVec.ofNat 32) (r.argBest_none W va pg none_), r.argBest_iff W va pg compares⟩,
      runsTo_scalar hc h hi rfl⟩
  refine ⟨?rsum, ?rsumu, ?rmin, ?rmax, ?rminu, ?rmaxu, ?rband, ?rbor, ?argmax, ?argmin⟩
  case rsum =>
    refine runsTo_scalar_flags exec_vrsum h legal (congrArg (BitVec.ofInt 32) total) ?_
    rw [← flag_outS sum, ← total]
  case rsumu =>
    refine runsTo_scalar_flags exec_vrsumu h legal (congrArg (BitVec.ofNat 32) totalU) ?_
    rw [← totalU]
    rfl
  case rmin =>
    refine ⟨_, reduce_best choice_slt_min toInt_injective toInt_le_intMax (fun _ _ => id) _, runsTo_scalar exec_vrmin h legal ?_⟩
    rw [ofInt_maxS]
  case rmax =>
    refine ⟨_, reduce_best choice_slt_max (neg_injective.comp toInt_injective) (fun x => neg_le_neg (intMin_le_toInt pos x))
      (fun _ _ => neg_le_neg_iff.1) _, runsTo_scalar exec_vrmax h legal ?_⟩
    rw [ofInt_minS pos]
  case rminu =>
    exact ⟨_, reduce_best choice_ult_min toNat_injective (fun x => Int.ofNat_le.2 (toNat_le_allOnes x)) (fun _ _ => Int.ofNat_le.1) _,
      runsTo_scalar exec_vrminu h legal rfl⟩
  case rmaxu =>
    refine ⟨_, reduce_best choice_ult_max (neg_injective.comp toNat_injective) (fun x => ?_) (fun _ _ le => Int.ofNat_le.1 (neg_le_neg_iff.1 le)) _,
      runsTo_scalar exec_vrmaxu h legal rfl⟩
    exact neg_le_neg (Int.natCast_nonneg _)
  case rband =>
    refine runsTo_scalar exec_vrband h legal (congrArg (BitVec.setWidth 32) ?_)
    rw [JobRegs.reduce_eq_foldl, List.foldl_eq_foldr]
  case rbor =>
    refine runsTo_scalar exec_vrbor h legal (congrArg (BitVec.setWidth 32) ?_)
    rw [JobRegs.reduce_eq_foldl, List.foldl_eq_foldr]
  case argmax =>
    have order : (fun m l : BitVec w => l.toInt ≤ m.toInt) = fun m l => -m.toInt ≤ -l.toInt := by
      funext m l
      rw [neg_le_neg_iff]
    rw [order]
    exact index exec_vrargmax legal fun x y => (slt_iff y x).trans neg_lt_neg_iff.symm
  case argmin => exact index exec_vrargmin legal fun x y => slt_iff x y

end Sys2Proof.Machine
end

section
/-! What reads leave behind (R211): words are corrected in place, so every byte reads as before, and telemetry is all that grows. -/

namespace Sys2Proof.Machine

theorem State.telemetry_keepsUnits (s : State) (kind : BitVec 16) (data : List Byte) : s.KeepsUnits (s.telemetry kind data) :=
  .ite {} (.trans {} (State.noteLog_keepsUnits _))

theorem State.telemetry_sideEffect (s : State) (kind : BitVec 16) (data : List Byte) : s.SideEffect (s.telemetry kind data) :=
  .ite {} (.trans {} (State.noteLog_sideEffect _))

@[simp] theorem State.eccEvent_det (s : State) (c : Byte) (u : Bool) (a : Nat) : (s.eccEvent c u a).det = s.det :=
  (s.telemetry_keepsUnits _ _).det

@[simp] theorem State.eccEvent_mem (s : State) (c : Byte) (u : Bool) (a : Nat) : (s.eccEvent c u a).mem = s.mem :=
  (s.telemetry_sideEffect _ _).mem

/-- Memory that reads as `m` does, poison and canonical form included. -/
structure Memory.ReadsAs (m m' : Memory) : Prop where
  poison : m'.poison = m.poison
  wf : m.wf = true → m'.wf = true
  get : m.wf = true → ∀ a, m'.get a = m.get a

theorem Memory.ReadsAs.refl (m : Memory) : m.ReadsAs m := ⟨rfl, id, fun _ _ => rfl⟩

theorem Memory.ReadsAs.trans {m m' m'' : Memory} (h : m.ReadsAs m') (e : m'.ReadsAs m'') : m.ReadsAs m'' where
  poison := e.poison.trans h.poison
  wf := e.wf ∘ h.wf
  get := fun canon a => (e.get (h.wf canon) a).trans (h.get canon a)

theorem Memory.puts_poison (m : Memory) (cs : List Host.Cell) : (m.puts cs).poison = m.poison := by
  induction cs generalizing m with
  | nil => rfl
  | cons c cs ih => exact ih _

/-- Bytes written with the values that they had. -/
theorem Memory.puts_readsAs (m : Memory) (cs : List Host.Cell) (same : ∀ c ∈ cs, c.2 = m.get c.1) : m.ReadsAs (m.puts cs) := by
  induction cs generalizing m with
  | nil => exact .refl m
  | cons c cs ih =>
    have one (canon : m.wf = true) (a : Nat) : (m.put c.1 c.2).get a = m.get a := by
      rw [Memory.get_put canon]
      split
      · next e => rw [e, same c (by simp)]
      · rfl
    refine ⟨Memory.puts_poison m _, fun canon => Memory.wf_puts canon _, fun canon => ?_⟩
    have rest := ih (m.put c.1 c.2) fun d hd => by rw [one canon, same d (by simp [hd])]
    exact fun a => (rest.get (Memory.wf_put canon _ _) a).trans (one canon a)

theorem cellsAt_append (a : Nat) (xs ys : List Byte) : cellsAt a (xs ++ ys) = cellsAt a xs ++ cellsAt (a + xs.length) ys := by
  induction xs generalizing a with
  | nil => rfl
  | cons x xs ih => simp [cellsAt, ih, Nat.add_assoc, Nat.add_comm 1]

theorem mem_cellsAt_iff {a : Nat} {bs : List Byte} {c : Host.Cell} : c ∈ cellsAt a bs ↔ ∃ k, bs[k]? = some c.2 ∧ c.1 = a + k := by
  induction bs generalizing a with
  | nil => simp [cellsAt]
  | cons b bs ih =>
    rw [cellsAt, List.mem_cons, ih]
    constructor
    · rintro (rfl | ⟨k, byte, place⟩)
      · exact ⟨0, rfl, rfl⟩
      · exact ⟨k + 1, byte, by omega⟩
    · rintro ⟨k, byte, place⟩
      cases k with
      | zero => exact .inl (Prod.ext place (Option.some.inj byte).symm)
      | succ k => exact .inr ⟨k, byte, by omega⟩

theorem State.correctWord_det (s : State) (w : Nat) : (s.correctWord w).det = s.det := by
  unfold State.correctWord
  split
  · exact State.eccEvent_det _ _ _ _
  · rfl

theorem State.correctWord_readsAs (s : State) (w : Nat) : s.mem.ReadsAs (s.correctWord w).mem := by
  unfold State.correctWord
  split
  · rw [State.eccEvent_mem]
    refine Memory.puts_readsAs _ _ fun c hc => ?_
    obtain ⟨k, byte, place⟩ := mem_cellsAt_iff.1 hc
    rw [Memory.gets, List.getElem?_map, Option.map_eq_some_iff] at byte
    obtain ⟨i, at_, value⟩ := byte
    obtain ⟨-, rfl⟩ : k < 8 ∧ k = i := by simpa [List.getElem?_range] using List.getElem?_eq_some_iff.1 at_
    rw [place, value]
  · exact .refl _

theorem State.correct_det (s : State) (ws : List Nat) : (s.correct ws).det = s.det := by
  induction ws generalizing s with
  | nil => rfl
  | cons w ws ih => exact (ih _).trans (s.correctWord_det w)

theorem State.correct_readsAs (s : State) (ws : List Nat) : s.mem.ReadsAs (s.correct ws).mem := by
  induction ws generalizing s with
  | nil => exact .refl _
  | cons w ws ih => exact (s.correctWord_readsAs w).trans (ih _)

section
variable (s : State) (b : BayIx) (vas : List (BitVec 40)) (data : List Nat)

@[simp] theorem State.afterReads_det : (s.afterReads b vas data).det = s.det := s.correct_det _

theorem State.afterReads_readsAs : s.mem.ReadsAs (s.afterReads b vas data).mem := s.correct_readsAs _

@[simp] theorem State.afterReads_getBay : (s.afterReads b vas data).getBay b = s.getBay b := by
  simp only [State.getBay, State.afterReads_det]

@[simp] theorem State.afterReads_regsOf : (s.afterReads b vas data).regsOf b = s.regsOf b := by
  simp only [State.regsOf, State.afterReads_getBay]

/-- The end of a memory instruction: its registers and TLB, and one cycle. -/
theorem State.tickCycle_onBay_ranTlb (g : JobRegs → JobRegs) (tl : List TlbEntry) :
    (s.onBay b fun y => { y with regs := g y.regs, tlb := tl }).tickCycle b = s.ranTlb b (g (s.regsOf b)) tl := by
  simp [State.tickCycle, State.ranTlb, State.ran, State.onBay, State.getBay, State.regsOf]

end

end Sys2Proof.Machine
end

section
/-! The addresses of the memory instructions (R174, R175) as the statements write them. -/

namespace Sys2Proof.Machine

variable (r : JobRegs) (sa sb : SReg) (n : Nat) (i : Fin 32)

theorem ofInt_mul_natCast {k : Nat} (x : BitVec k) (h : k ≤ 32) :
    BitVec.ofInt 32 (x.toInt * (n : Int)) = x.signExtend 32 * BitVec.ofNat 32 n := by
  rw [BitVec.ofInt_mul, BitVec.ofInt_natCast, ← BitVec.ofInt_toInt (x := x.signExtend 32), BitVec.toInt_signExtend_of_le h]

theorem JobRegs.memAddr_eq (imm : BitVec 14) : r.memAddr sa imm n = scalarVa r sa imm n := by
  rw [JobRegs.memAddr, ofInt_mul_natCast n imm (by omega)]
  rfl

theorem JobRegs.vecAddr_eq (off : BitVec 13) : r.vecAddr sa off i = blockVa r sa off 2 i := by
  rw [JobRegs.vecAddr, JobRegs.blockAddr, ofInt_mul_natCast 64 off (by omega)]
  rfl

theorem JobRegs.byteAddr_eq (off : BitVec 13) : r.byteAddr sa off i = blockVa r sa off 1 i := by
  rw [JobRegs.byteAddr, JobRegs.blockAddr, ofInt_mul_natCast 32 off (by omega), blockVa, Nat.one_mul]
  rfl

theorem JobRegs.strideAddr_eq : r.strideAddr sa sb i = strideVa r sa sb i := by
  rw [JobRegs.strideAddr, ofInt_mul_natCast i.val _ (by omega), BitVec.signExtend_eq, BitVec.mul_comm]
  rfl

end Sys2Proof.Machine
end

section
/-! Loads (R165, R174, R175): every access is checked before a byte moves, and memory reads as before. -/

namespace Sys2Proof.Machine

variable {s : State} {b : BayIx} {c : Instr} {i : Myvik} {n : Nat}

/-- Accesses that reach their addresses and find no poison load. -/
theorem State.loads_of_reaches {vas : List (BitVec 40)} {pas : List Nat} {tl : List TlbEntry} (reach : s.reaches b .load vas pas tl)
    (clean : ∀ a ∈ pas, s.mem.poisoned (a / 8) = false) : s.loads ((s.getBay b).requester b) (s.getBay b).tlb vas = .ok (pas, tl) := by
  have none_ : ((vas.zip pas).find? fun x => s.mem.poisoned (x.2 / 8)) = none := by
    rw [List.find?_eq_none]
    intro x hx
    rw [clean _ (List.of_mem_zip hx).2]
    exact Bool.false_ne_true
  rw [State.reaches] at reach
  simp only [State.loads, reach, none_]

/-- A load instruction whose accesses succeed and that meets no watchpoint. -/
theorem loadStep_executes {addrs : JobRegs → List (BitVec 40)} {f : JobRegs → List Nat → JobRegs} {vas : List (BitVec 40)} {pas : List Nat}
    {tl : List TlbEntry} (h : s.executes b) (legal : i.legal = true) (at_ : addrs (s.regsOf b) = vas) (reach : s.reaches b .load vas pas tl)
    (clean : ∀ a ∈ pas, s.mem.poisoned (a / 8) = false) (watch : s.watchAt b (vas.map fun va => (va, n, false)) = none) :
    loadStep b i n addrs f s = .next ((s.afterReads b vas (pas.map (· / 8))).ranTlb b
      (f (s.regsOf b) (pas.map fun a => s.mem.num a n)).advance tl) := by
  subst at_
  have loads := State.loads_of_reaches reach clean
  rw [loadStep, issue_executes h legal]
  simp only [State.regsOf] at loads watch ⊢
  simp only [loads, watch]
  exact congrArg Host.Outcome.next
    ((s.afterReads b (addrs (s.getBay b).regs) (pas.map (· / 8))).tickCycle_onBay_ranTlb b
      (fun r => (f r (pas.map fun a => s.mem.num a n)).advance) tl |>.trans
      (by rw [State.afterReads_regsOf, State.regsOf]))

theorem natLe_lt (bs : List Byte) : natLe bs < 256 ^ bs.length := by
  induction bs with
  | nil => simp [natLe]
  | cons b bs ih =>
    have byte := b.isLt
    rw [natLe, List.length_cons, Nat.pow_succ]
    omega

theorem Memory.num_lt (m : Memory) (a n : Nat) : m.num a n < 256 ^ n := by
  have bound := natLe_lt (m.gets a n)
  rwa [Memory.gets, List.length_map, List.length_range] at bound

theorem setWidth_ofNat_of_lt {m w x : Nat} (h : x < 2 ^ m) : (BitVec.ofNat m x).setWidth w = BitVec.ofNat w x := by
  apply BitVec.eq_of_toNat_eq
  rw [BitVec.toNat_setWidth, BitVec.toNat_ofNat, Nat.mod_eq_of_lt h, BitVec.toNat_ofNat]

/-- A scalar load whose value the model extends as `f`, and the table as `ext`. -/
theorem loadsScalar {sd sa : SReg} {imm : BitVec 14} {f ext : Nat → Word} (hc : exec c s = scalarLoad b i n sd sa imm f s) (h : s.executes b)
    (legal : i.legal = true) (value : ∀ x < 256 ^ n, f x = ext x) : LoadsScalar c s b n sd sa imm ext := by
  intro pa tl reach clean watch
  refine ⟨_, _, rfl, ?_, JobRegs.scalarTo_plain _ sd _, (s.afterReads_readsAs b _ _).get⟩
  rw [hc, scalarLoad, loadStep_executes h legal (congrArg (fun va => [va]) (JobRegs.memAddr_eq _ sa n imm)) reach (by simpa using clean) watch,
    ← value _ (s.mem.num_lt pa n)]
  rfl

/-- The values read, written one after the other to the lanes of one register. -/
theorem foldl_putLane (r : JobRegs) (vd : VReg) (g : Fin 32 → BitVec 16) (l : List (Fin 32)) :
    l.foldl (fun r k => { r with v := vmod r.v vd fun x => vset x k (g k) }) r
      = { r with v := vset r.v vd (l.foldl (fun x k => vset x k (g k)) (vget r.v vd)) } := by
  induction l generalizing r with
  | nil => rw [List.foldl_nil, List.foldl_nil, vset_vget]
  | cons k l ih => rw [List.foldl_cons, ih, vmod_eq_vset, vset_vset, vget_vset_self, List.foldl_cons]

theorem JobRegs.nodup_actives (r : JobRegs) (pg : PReg) : (r.actives pg).Nodup :=
  (List.nodup_finRange 32).filter _

theorem zip_map_self {α β : Type} (f : α → β) (l : List α) : l.zip (l.map f) = l.map fun x => (x, f x) := by
  induction l with
  | nil => rfl
  | cons x l ih => rw [List.map_cons, List.zip_cons_cons, ih, List.map_cons]

theorem JobRegs.putLanes_eq_setV (r : JobRegs) (vd : VReg) (pg : PReg) (g : Fin 32 → Nat) :
    r.putLanes vd pg ((r.actives pg).map g) = r.setV vd fun k => if r.active pg k then BitVec.ofNat 16 (g k) else r.lane16 vd k := by
  have lanes : (r.actives pg).foldl (fun x k => vset x k (BitVec.ofNat 16 (g k))) (vget r.v vd)
      = Vector.ofFn fun k => if r.active pg k then BitVec.ofNat 16 (g k) else r.lane16 vd k := by
    refine Vector.ext fun k lt => ?_
    have lane := vget_foldl_vset (fun k _ => BitVec.ofNat 16 (g k)) _ (r.nodup_actives pg) (vget r.v vd) ⟨k, lt⟩
    rw [Vector.getElem_ofFn]
    simp only [JobRegs.mem_actives] at lane
    exact lane
  rw [JobRegs.putLanes, zip_map_self, List.foldl_map, foldl_putLane r vd fun k => BitVec.ofNat 16 (g k), lanes]
  rfl

/-- A vector load. -/
theorem loadsLanes {vd : VReg} {pg : PReg} {addr : JobRegs → Fin 32 → BitVec 40} {va : Fin 32 → BitVec 40}
    (hc : exec c s = vectorLoad b i n vd pg addr s) (h : s.executes b) (legal : i.legal = true) (place : addr (s.regsOf b) = va) :
    LoadsLanes c s b n vd pg va := by
  subst place
  intro pa tl reach clean watch
  refine ⟨_, _, rfl, ?_, JobRegs.lanesTo_setLanes _ false vd _, (s.afterReads_readsAs b _ _).get⟩
  rw [hc, vectorLoad, loadStep_executes h legal rfl reach (by simpa using clean) (by simpa [Function.comp_def] using watch), List.map_map, List.map_map,
    JobRegs.putLanes_eq_setV]
  rfl

/-- Settles O12, form by form. -/
theorem loadsReadMemory : Obligations.LoadsReadMemory := by
  intro s b sd sa sb vd pg imm off h r
  refine ⟨?ldB, ?ldBu, ?ldH, ?ldHu, ?ldW, ?vld, ?vlds, ?vldbu⟩
  case ldB => exact loadsScalar exec_ldB h rfl fun _ _ => rfl
  case ldBu => exact loadsScalar exec_ldBu h rfl fun x lt => (setWidth_ofNat_of_lt (m := 8) lt).symm
  case ldH => exact loadsScalar exec_ldH h rfl fun _ _ => rfl
  case ldHu => exact loadsScalar exec_ldHu h rfl fun x lt => (setWidth_ofNat_of_lt (m := 16) lt).symm
  case ldW => exact loadsScalar exec_ldW h rfl fun _ _ => rfl
  case vld => exact loadsLanes exec_vld h rfl (funext fun k => JobRegs.vecAddr_eq _ sa k off)
  case vlds => exact loadsLanes exec_vlds h rfl (funext fun k => JobRegs.strideAddr_eq _ sa sb k)
  case vldbu => exact loadsLanes exec_vldbu h rfl (funext fun k => JobRegs.byteAddr_eq _ sa k off)

end Sys2Proof.Machine
end

section
/-! Where accesses reach (R160, R203, R204, R208): translation keeps the place in the 64 KiB page, and so the alignment. -/

namespace Sys2Proof.Machine

variable {small : Bool} {a pa off : Nat} {b : BayIx} {s : State} {q : Requester} {va : BitVec 40}

/-- The place in a loft, if it is one, is `off`. -/
def Place.At (off : Nat) : Place → Prop
  | .loft _ o | .ownLoft o => o = off
  | _ => True

theorem Place.At.ite {c : Prop} [Decidable c] {x y : Place} (hx : x.At off) (hy : y.At off) : (if c then x else y).At off := by
  split
  · exact hx
  · exact hy

theorem placeOf_at (small : Bool) (a : Nat) : (placeOf small a).At (a % 0x10000) :=
  .ite trivial <| .ite trivial <| .ite trivial <| .ite trivial <| .ite trivial <| .ite (.ite trivial rfl) <| .ite trivial <| .ite rfl <|
    .ite trivial <| .ite trivial <| .ite trivial <| .ite trivial trivial

theorem loftAddr_mod (b : BayIx) (off : Nat) : loftAddr b off % 0x10000 = off % 0x10000 := by
  unfold loftAddr
  omega

/-- An address reached lies at the same place of its page as the address asked for. -/
theorem State.reach_mod (h : s.reach q va pa = .ok a) : a % 0x10000 = pa % 0x10000 := by
  have place := placeOf_at s.isSmall pa
  have page (b : BayIx) : loftAddr b (pa % 0x10000) % 0x10000 = pa % 0x10000 := by rw [loftAddr_mod, Nat.mod_mod]
  unfold State.reach at h
  dsimp only at h
  generalize placeOf s.isSmall pa = p at place h
  cases p with
  | hbm =>
    dsimp only at h
    split at h
    · cases h
    · cases h; rfl
  | hayloft => cases h; rfl
  | loft b o => 
    cases place
    dsimp only at h
    repeat' split at h
    all_goals cases h
    all_goals exact page _
  | ownLoft o => 
    cases place
    dsimp only at h
    repeat' split at h
    all_goals cases h
    all_goals exact page _
  | regs =>
    dsimp only at h
    split at h
    · cases h; rfl
    · cases h
  | device => cases h
  | mram => cases h
  | hole => cases h

theorem leafPa_mod (big : Bool) (leaf : BitVec 64) : leafPa big leaf va % 0x10000 = va.toNat % 0x10000 := by
  cases big <;> simp [leafPa, field, BitVec.extractLsb'_toNat]

theorem State.access_mod {t t' : List TlbEntry} {k : Access} (h : s.access q t k va = .ok (a, t')) : a % 0x10000 = va.toNat % 0x10000 := by
  unfold State.access at h
  split at h
  · split at h
    · cases h
    next reached =>
      cases h
      exact State.reach_mod reached
  · extract_lets found at h
    clear_value found
    cases found with
    | error f => cases h
    | ok e =>
      dsimp only at h
      split at h
      · cases h
      split at h
      · cases h
      split at h
      · cases h
      next reached =>
        cases h
        exact (State.reach_mod reached).trans (leafPa_mod _ _)

theorem State.accessAll_mod {k : Access} {t t' : List TlbEntry} {vas : List (BitVec 40)} {pas : List Nat} (h : s.accessAll q k t vas = .ok (pas, t')) :
    List.Forall₂ (fun va a => a % 0x10000 = va.toNat % 0x10000) vas pas := by
  induction vas generalizing t pas with
  | nil => 
    cases h
    exact .nil
  | cons va vas ih =>
    unfold State.accessAll at h
    split at h
    · cases h
    next first =>
    split at h
    · cases h
    next rest =>
    cases h
    exact .cons (State.access_mod first) (ih rest)

end Sys2Proof.Machine
end

section
/-! What a store writes (R165, R174, R175, R211): the low bytes of one number per access, in the order of the accesses. -/

namespace Sys2Proof.Machine

theorem cellsAt_length (a : Nat) (bs : List Byte) : (cellsAt a bs).length = bs.length := by
  induction bs generalizing a with
  | nil => rfl
  | cons b bs ih => rw [cellsAt, List.length_cons, ih, List.length_cons]

theorem bytesLe_getElem? (n v k : Nat) : (bytesLe n v)[k]? = if k < n then some (BitVec.ofNat 8 (v / 256 ^ k)) else none := by
  induction n generalizing v k with
  | zero => simp [bytesLe]
  | succ n ih =>
    cases k with
    | zero => simp [bytesLe]
    | succ k => simp [bytesLe, ih, Nat.div_div_eq_div_mul, Nat.pow_succ']

/-- A byte of a number cut to the bytes that are stored. -/
theorem ofNat_mod_div_pow {n k : Nat} (x : Nat) (h : k < n) : BitVec.ofNat 8 (x % 2 ^ (8 * n) / 256 ^ k) = BitVec.ofNat 8 (x / 256 ^ k) := by
  have split : 2 ^ (8 * n) = 256 ^ k * 256 ^ (n - k) := by rw [← Nat.pow_add, Nat.add_sub_cancel' h.le, Nat.pow_mul]
  apply BitVec.eq_of_toNat_eq
  rw [split, Nat.mod_mul_right_div_self, BitVec.toNat_ofNat, BitVec.toNat_ofNat, Nat.mod_mod_of_dvd]
  exact dvd_pow_self 256 (by omega)

theorem mem_wordsOf {cs : List Host.Cell} {w : Nat} : w ∈ wordsOf cs ↔ ∃ c ∈ cs, c.1 / 8 = w := by
  simp [wordsOf]

theorem covers_iff {cs : List Host.Cell} {w : Nat} : covers cs w = true ↔ ∀ k < 8, ∃ c ∈ cs, c.1 = 8 * w + k := by
  simp [covers]

theorem mem_wordsOf_of_covers {cs : List Host.Cell} {w : Nat} (h : covers cs w = true) : w ∈ wordsOf cs := by
  obtain ⟨c, hc, first⟩ := covers_iff.1 h 0 (by omega)
  exact mem_wordsOf.2 ⟨c, hc, by omega⟩

theorem Memory.store_poison (m : Memory) (cs : List Host.Cell) : (m.store cs).poison = m.poison.filter fun w => !covers cs w := by
  rw [Memory.store, Memory.unmark, Memory.puts_poison]
  refine List.filter_congr fun w _ => congrArg (!·) ?_
  rw [Bool.eq_iff_iff, List.contains_iff_mem, List.mem_filter]
  exact and_iff_right_of_imp mem_wordsOf_of_covers

theorem Memory.puts_append (m : Memory) (cs ds : List Host.Cell) : m.puts (cs ++ ds) = (m.puts cs).puts ds := by
  induction cs generalizing m with
  | nil => rfl
  | cons c cs ih => exact ih _

/-- A byte written last holds what was written. -/
theorem Memory.get_puts_last {m : Memory} (canon : m.wf = true) (pre post : List Host.Cell) (c : Host.Cell) (last : ∀ d ∈ post, d.1 ≠ c.1) :
    (m.puts (pre ++ c :: post)).get c.1 = c.2 := by
  have canon := Memory.wf_puts canon pre
  rw [Memory.puts_append, Memory.puts, Memory.get_puts_of_notMem (Memory.wf_put canon _ _) _ _ last, Memory.get_put canon, if_pos rfl]

section
variable {ι : Type} (n : Nat) (pa : ι → Nat) (x : ι → Nat) (l : List ι)

/-- The bytes of the accesses `l` that store `n` bytes each, of `x i` at `pa i`. -/
def storeCells : List Host.Cell := l.flatMap fun i => cellsAt (pa i) (bytesLe n (x i % 2 ^ (8 * n)))

variable {n pa x l}

theorem mem_storeCells {c : Host.Cell} :
    c ∈ storeCells n pa x l ↔ ∃ i ∈ l, ∃ k < n, c = (pa i + k, BitVec.ofNat 8 (x i / 256 ^ k)) := by
  simp only [storeCells, List.mem_flatMap, mem_cellsAt_iff, bytesLe_getElem?]
  refine exists_congr fun i => and_congr_right fun _ => exists_congr fun k => ?_
  by_cases lt : k < n
  · rw [if_pos lt, ofNat_mod_div_pow _ lt, Option.some_inj, Prod.ext_iff, and_comm, eq_comm (b := c.2)]
    simp [lt]
  · simp [lt]

theorem storeCells_addr {a : Nat} : (∃ c ∈ storeCells n pa x l, c.1 = a) ↔ ∃ i ∈ l, pa i ≤ a ∧ a < pa i + n := by
  simp only [mem_storeCells]
  constructor
  · rintro ⟨-, ⟨i, hi, k, lt, rfl⟩, rfl⟩
    exact ⟨i, hi, by omega⟩
  · rintro ⟨i, hi, lo, hi'⟩
    exact ⟨_, ⟨i, hi, a - pa i, by omega, rfl⟩, by omega⟩

theorem covers_storeCells {w : Nat} : covers (storeCells n pa x l) w = true ↔ ∀ k < 8, ∃ i ∈ l, pa i ≤ 8 * w + k ∧ 8 * w + k < pa i + n := by
  simp only [covers_iff, storeCells_addr]

theorem Memory.get_storeCells_of_not {m : Memory} (canon : m.wf = true) {a : Nat} (h : ∀ i ∈ l, ¬ (pa i ≤ a ∧ a < pa i + n)) :
    (m.store (storeCells n pa x l)).get a = m.get a :=
  Memory.get_store_of_notMem canon _ _ fun c hc at_ =>
    have ⟨i, hi, within⟩ := storeCells_addr.1 ⟨c, hc, at_⟩
    h i hi within

theorem storeCells_append (l' : List ι) : storeCells n pa x (l ++ l') = storeCells n pa x l ++ storeCells n pa x l' :=
  List.flatMap_append

theorem storeCells_cons (i : ι) : storeCells n pa x (i :: l) = storeCells n pa x [i] ++ storeCells n pa x l :=
  storeCells_append (l := [i]) l

theorem bytesLe_append (j k v : Nat) : bytesLe (j + k) v = bytesLe j v ++ bytesLe k (v / 256 ^ j) := by
  induction j generalizing v with
  | zero => simp [bytesLe]
  | succ j ih => simp [Nat.add_right_comm, bytesLe, ih, Nat.div_div_eq_div_mul, Nat.pow_succ']

/-- A byte that no later access stores holds that of the access. -/
theorem Memory.get_storeCells {m : Memory} (canon : m.wf = true) {pre post : List ι} {i : ι} {k : Nat} (split : l = pre ++ i :: post) (lt : k < n)
    (last : ∀ j ∈ post, ¬ (pa j ≤ pa i + k ∧ pa i + k < pa j + n)) :
    (m.store (storeCells n pa x l)).get (pa i + k) = BitVec.ofNat 8 (x i / 256 ^ k) := by
  have own : storeCells n pa x [i] = cellsAt (pa i) (bytesLe k (x i % 2 ^ (8 * n)))
      ++ (pa i + k, BitVec.ofNat 8 (x i / 256 ^ k)) :: cellsAt (pa i + k + 1) (bytesLe (n - k - 1) (x i % 2 ^ (8 * n) / 256 ^ k / 256)) := by
    have parts : n = k + ((n - k - 1) + 1) := by omega
    rw [← ofNat_mod_div_pow _ lt, storeCells, List.flatMap_singleton]
    generalize x i % 2 ^ (8 * n) = v
    conv_lhs => rw [parts, bytesLe_append, cellsAt_append, bytesLe_length, bytesLe, cellsAt]
  rw [split, storeCells_append, storeCells_cons, own, Memory.store, Memory.get_unmark]
  simp only [List.append_assoc, List.cons_append]
  rw [← List.append_assoc]
  refine Memory.get_puts_last canon _ _ (pa i + k, _) fun d hd at_ => ?_
  obtain own | later := List.mem_append.1 hd
  · have := (mem_cellsAt own).1
    omega
  · obtain ⟨j, hj, within⟩ := storeCells_addr.1 ⟨d, later, at_⟩
    exact last j hj within

end

end Sys2Proof.Machine
end

section
/-! Alignment (R165, R174, R175): the accesses of an instruction lie at multiples of their width, and so does every address that they reach. -/

namespace Sys2Proof.Machine

/-- The widths of memory accesses: 1, 2 or 4 bytes. -/
def IsWidth (n : Nat) : Prop := n = 1 ∨ n = 2 ∨ n = 4

theorem and_not_mod (x : Word) (k : Nat) : (x &&& ~~~(BitVec.ofNat 32 (2 ^ k - 1))).toNat % 2 ^ k = 0 := by
  apply Nat.eq_of_testBit_eq
  intro i
  rw [Nat.testBit_mod_two_pow, ← BitVec.getLsbD, BitVec.getLsbD_and, BitVec.getLsbD_not, BitVec.getLsbD_ofNat, Nat.testBit_two_pow_sub_one,
    Nat.zero_testBit]
  by_cases low : i < k <;> by_cases inside : i < 32 <;> simp [low, inside]

theorem append_mod {n : Nat} (hn : IsWidth n) (x : BitVec 8) (y : Word) : (x ++ y : BitVec 40).toNat % n = y.toNat % n := by
  rw [toNat_append_add]
  obtain rfl | rfl | rfl := hn <;> omega

variable {r : JobRegs} {sa sb : SReg} {n : Nat}

theorem scalarVa_mod {imm : BitVec 14} (hn : IsWidth n) : (scalarVa r sa imm n).toNat % n = 0 := by
  rw [scalarVa, append_mod hn]
  obtain rfl | rfl | rfl := hn
  · exact and_not_mod _ 0
  · exact and_not_mod _ 1
  · exact and_not_mod _ 2

theorem strideVa_mod (i : Fin 32) : (strideVa r sa sb i).toNat % 2 = 0 := by
  rw [strideVa, append_mod (.inr (.inl rfl))]
  exact and_not_mod _ 1

theorem blockVa_mod {off : BitVec 13} (hn : n = 1 ∨ n = 2) (i : Fin 32) : (blockVa r sa off n i).toNat % n = 0 := by
  obtain rfl | rfl := hn
  · exact Nat.mod_one _
  · rw [blockVa, append_mod (.inr (.inl rfl)), BitVec.toNat_add, BitVec.toNat_ofNat]
    have base : ((r.getS sa + off.signExtend 32 * BitVec.ofNat 32 (32 * 2)) &&& ~~~(BitVec.ofNat 32 (32 * 2 - 1))).toNat % 64 = 0 := and_not_mod _ 6
    omega

theorem reaches_mod {s : State} {b : BayIx} {k : Access} {ι : Type} {va : ι → BitVec 40} {pa : ι → Nat} {l : List ι} {tl : List TlbEntry} (hn : IsWidth n)
    (aligned : ∀ i, (va i).toNat % n = 0) (reach : s.reaches b k (l.map va) (l.map pa) tl) : ∀ i ∈ l, pa i % n = 0 := by
  have pages := State.accessAll_mod reach
  rw [List.forall₂_map_left_iff, List.forall₂_map_right_iff, List.forall₂_same] at pages
  intro i hi
  have page := pages i hi
  have at_ := aligned i
  obtain rfl | rfl | rfl := hn <;> omega

end Sys2Proof.Machine
end

section
/-! Stores (R165, R174, R175, R211). -/

namespace Sys2Proof.Machine

variable {s : State} {b : BayIx} {c : Instr} {i : Myvik} {n : Nat}

section
variable {ι : Type} {l : List ι} {va : ι → BitVec 40} {pa x : ι → Nat} {tl : List TlbEntry}

/-- The words of the bytes stored are those of the addresses. -/
theorem storeCells_words (hn : IsWidth n) (aligned : ∀ i ∈ l, pa i % n = 0) :
    (storeCells n pa x l).map (fun c => c.1 / 8) = l.flatMap fun i => List.replicate n (pa i / 8) := by
  rw [storeCells, List.map_flatMap]
  refine List.flatMap_congr fun i hi => ?_
  have at_ := aligned i hi
  refine List.eq_replicate_iff.2 ⟨by rw [List.length_map, cellsAt_length, bytesLe_length], fun w hw => ?_⟩
  obtain ⟨c, hc, rfl⟩ := List.mem_map.1 hw
  obtain ⟨lo, hi⟩ := mem_cellsAt hc
  rw [bytesLe_length] at hi
  obtain rfl | rfl | rfl := hn <;> omega

theorem wordsOf_storeCells (hn : IsWidth n) (aligned : ∀ i ∈ l, pa i % n = 0) :
    wordsOf (storeCells n pa x l) = (l.flatMap fun i => List.replicate n (pa i / 8)).reverse.dedup.reverse := by
  rw [wordsOf, storeCells_words hn aligned]

theorem mem_wordsOf_storeCells (hn : IsWidth n) (aligned : ∀ i ∈ l, pa i % n = 0) {w : Nat} (h : w ∈ wordsOf (storeCells n pa x l)) :
    ∃ i ∈ l, pa i / 8 = w := by
  rw [wordsOf_storeCells hn aligned] at h
  simp only [List.mem_reverse, List.mem_dedup, List.mem_flatMap] at h
  obtain ⟨i, hi, hw⟩ := h
  exact ⟨i, hi, (List.eq_of_mem_replicate hw).symm⟩

/-- Nothing is stored of a poisoned word but all of it. -/
theorem storeBlocked_none {m : Memory} (hn : IsWidth n) (aligned : ∀ i ∈ l, pa i % n = 0)
    (whole : ∀ i ∈ l, m.poisoned (pa i / 8) = true → covers (storeCells n pa x l) (pa i / 8) = true) : m.storeBlocked (storeCells n pa x l) = none := by
  refine List.find?_eq_none.2 fun w hw => ?_
  obtain ⟨i, hi, rfl⟩ := mem_wordsOf_storeCells hn aligned hw
  cases poison : m.poisoned (pa i / 8) with
  | false => simp
  | true => simp [whole i hi poison]

theorem State.stores_of_reaches {q : Requester} {t : List TlbEntry} (reach : s.accessAll q .store t (l.map va) = .ok (l.map pa, tl))
    (whole : s.mem.storeBlocked (storeCells n pa x l) = none) :
    s.stores q t n (l.map fun i => (va i, x i % 2 ^ (8 * n))) = .ok (storeCells n pa x l, tl) := by
  have vas : (l.map fun i => (va i, x i % 2 ^ (8 * n))).map (·.1) = l.map va := by rw [List.map_map]; rfl
  have cells : ((l.map pa).zip (l.map fun i => (va i, x i % 2 ^ (8 * n)))).flatMap (fun x => cellsAt x.1 (bytesLe n x.2.2)) = storeCells n pa x l := by
    rw [List.zip_map', List.flatMap_map, storeCells]
  rw [State.stores, vas, reach]
  simp only [cells, whole]

/-- A store instruction whose accesses succeed, that stores no poisoned word in part and meets no watchpoint. -/
theorem storeStep_executes {xs : JobRegs → List (BitVec 40 × Nat)} (h : s.executes b) (legal : i.legal = true)
    (at_ : xs (s.regsOf b) = l.map fun i => (va i, x i % 2 ^ (8 * n))) (reach : s.reaches b .store (l.map va) (l.map pa) tl)
    (whole : s.mem.storeBlocked (storeCells n pa x l) = none) (watch : s.watchAt b (l.map fun i => (va i, n, true)) = none) :
    storeStep b i n xs s = .next ({ s.afterReads b (l.map va) (partWords (storeCells n pa x l)) with
      mem := (s.afterReads b (l.map va) (partWords (storeCells n pa x l))).mem.store (storeCells n pa x l) }.ranTlb b (s.regsOf b).advance tl) := by
  have stores := State.stores_of_reaches reach whole
  rw [storeStep, issue_executes h legal]
  simp only [State.regsOf] at at_ ⊢
  simp only [at_, stores, List.map_map, Function.comp_def, watch]
  exact congrArg Host.Outcome.next (State.tickCycle_onBay_ranTlb
      { s.afterReads b (l.map va) (partWords (storeCells n pa x l)) with
        mem := (s.afterReads b (l.map va) (partWords (storeCells n pa x l))).mem.store (storeCells n pa x l) } b JobRegs.advance tl |>.trans
      (congrArg (fun r : JobRegs => State.ranTlb _ b r.advance tl) (s.afterReads_regsOf b _ _)))

end

section
variable {pa : Nat} {x : Nat}

/-- One access stores bytes of one word, and not all of them. -/
theorem covers_one (hn : IsWidth n) (w : Nat) : covers (storeCells n (fun _ => pa) (fun _ => x) [()]) w = false := by
  rw [Bool.eq_false_iff, ne_eq, covers_storeCells]
  intro all
  obtain ⟨-, -, lo, -⟩ := all 0 (by omega)
  obtain ⟨-, -, -, hi⟩ := all 7 (by omega)
  obtain rfl | rfl | rfl := hn <;> omega

theorem wordsOf_one (hn : IsWidth n) (aligned : pa % n = 0) : wordsOf (storeCells n (fun _ => pa) (fun _ => x) [()]) = [pa / 8] := by
  rw [wordsOf_storeCells hn fun _ _ => aligned, List.flatMap_singleton, List.reverse_replicate, List.replicate_dedup, List.reverse_singleton]
  obtain rfl | rfl | rfl := hn <;> decide

theorem partWords_one (hn : IsWidth n) (aligned : pa % n = 0) : partWords (storeCells n (fun _ => pa) (fun _ => x) [()]) = [pa / 8] := by
  rw [partWords, wordsOf_one hn aligned, List.filter_singleton, covers_one hn]
  rfl

end

/-- A scalar store. -/
theorem storesScalar {s_ sa : SReg} {imm : BitVec 14} (hc : exec c s = scalarStore b i n s_ sa imm s) (h : s.executes b) (legal : i.legal = true)
    (hn : IsWidth n) : StoresScalar c s b n sa imm ((s.regsOf b).getS s_) := by
  intro canon pa tl reach clean watch
  have aligned : pa % n = 0 := reaches_mod (ι := Unit) (va := fun _ => scalarVa (s.regsOf b) sa imm n) (pa := fun _ => pa) (l := [()]) hn (fun _ => scalarVa_mod hn) reach () (by simp)
  have whole : s.mem.storeBlocked (storeCells n (fun _ => pa) (fun _ => ((s.regsOf b).getS s_).toNat) [()]) = none := by
    rw [Memory.storeBlocked, wordsOf_one hn aligned]
    simp [clean]
  have reads := s.afterReads_readsAs b [scalarVa (s.regsOf b) sa imm n] [pa / 8]
  refine ⟨(s.regsOf b).advance, (s.afterReads b [scalarVa (s.regsOf b) sa imm n] [pa / 8]).mem.store
      (storeCells n (fun _ => pa) (fun _ => ((s.regsOf b).getS s_).toNat) [()]), ?_, rfl, pcMoved_pcPlus _ 1, fun k lt => ?_, fun a outside => ?_, ?_⟩
  · rw [hc, scalarStore, storeStep_executes (ι := Unit) (l := [()]) (va := fun _ => scalarVa (s.regsOf b) sa imm n) (pa := fun _ => pa)
      (x := fun _ => ((s.regsOf b).getS s_).toNat) h legal (by rw [JobRegs.memAddr_eq]; rfl) reach whole watch, partWords_one hn aligned]
    rfl
  · exact Memory.get_storeCells (reads.wf canon) (pre := []) (post := []) (i := ()) rfl lt (by simp)
  · exact (Memory.get_storeCells_of_not (reads.wf canon) fun _ _ => by omega).trans (reads.get canon a)
  · rw [Memory.store_poison]
    simp [covers_one hn, reads.poison]

theorem JobRegs.actives_split {r : JobRegs} {pg : PReg} {i : Fin 32} (h : r.active pg i = true) :
    ∃ pre post, r.actives pg = pre ++ i :: post ∧ (∀ j ∈ pre, j < i) ∧ ∀ j ∈ post, i < j := by
  obtain ⟨pre, post, split⟩ := List.append_of_mem (JobRegs.mem_actives.2 h)
  have rising := r.actives_rising pg
  rw [split, List.pairwise_append, List.pairwise_cons] at rising
  obtain ⟨-, ⟨above, -⟩, below⟩ := rising
  exact ⟨pre, post, split, fun j hj => below j hj i (by simp), above⟩

theorem storesWhole_eq {r : JobRegs} {pg : PReg} {pa x : Fin 32 → Nat} (w : Nat) :
    storesWhole r pg pa n w = covers (storeCells n pa x (r.actives pg)) w := by
  rw [Bool.eq_iff_iff, covers_storeCells]
  simp [storesWhole]

/-- A vector store. -/
theorem storesLanes {vs : VReg} {pg : PReg} {addr : JobRegs → Fin 32 → BitVec 40} {va : Fin 32 → BitVec 40}
    (hc : exec c s = vectorStore b i n vs pg addr s) (h : s.executes b) (legal : i.legal = true) (place : addr (s.regsOf b) = va) 
    (hn : IsWidth n) (aligned : ∀ k, (va k).toNat % n = 0) : StoresLanes c s b n vs pg va := by
  subst place
  intro canon pa tl reach whole watch
  let x (k : Fin 32) : Nat := ((s.regsOf b).lane16 vs k).toNat
  have free : s.mem.storeBlocked (storeCells n pa x ((s.regsOf b).actives pg)) = none := by
    refine storeBlocked_none hn (reaches_mod hn aligned reach) fun k hk poison => ?_
    rw [← storesWhole_eq]
    exact whole k hk poison
  have reads := s.afterReads_readsAs b ((s.regsOf b).actives pg |>.map (addr (s.regsOf b)))
    (partWords (storeCells n pa x ((s.regsOf b).actives pg)))
  refine ⟨(s.regsOf b).advance, (s.afterReads b (((s.regsOf b).actives pg).map (addr (s.regsOf b)))
      (partWords (storeCells n pa x ((s.regsOf b).actives pg)))).mem.store (storeCells n pa x ((s.regsOf b).actives pg)), ?_, rfl, pcMoved_pcPlus _ 1,
    ?_, fun k j active lt last => ?_, fun a outside => ?_⟩
  · rw [hc, vectorStore]
    exact storeStep_executes h legal rfl reach free watch
  · rw [Memory.store_poison, reads.poison]
    exact List.filter_congr fun w _ => by rw [storesWhole_eq]
  · obtain ⟨pre, post, split, -, above⟩ := JobRegs.actives_split active
    have later : ∀ j ∈ post, (s.regsOf b).active pg j = true := fun j hj => JobRegs.mem_actives.1 (by rw [split]; simp [hj])
    exact Memory.get_storeCells (reads.wf canon) split lt fun j hj => last j (later j hj) (above j hj)
  · exact (Memory.get_storeCells_of_not (reads.wf canon) fun k hk => outside k (JobRegs.mem_actives.1 hk)).trans (reads.get canon a)

/-- Settles O13, form by form. -/
theorem storesWriteOnlyTheirBytes : Obligations.StoresWriteOnlyTheirBytes := by
  intro s b sc sa sb vs pg imm off h r
  refine ⟨?stB, ?stH, ?stW, ?vst, ?vsts, ?vstb⟩
  case stB => exact storesScalar exec_stB h rfl (.inl rfl)
  case stH => exact storesScalar exec_stH h rfl (.inr (.inl rfl))
  case stW => exact storesScalar exec_stW h rfl (.inr (.inr rfl))
  case vst => exact storesLanes exec_vst h rfl (funext fun k => JobRegs.vecAddr_eq _ sa k off) (.inr (.inl rfl)) (blockVa_mod (.inr rfl))
  case vsts => exact storesLanes exec_vsts h rfl (funext fun k => JobRegs.strideAddr_eq _ sa sb k) (.inr (.inl rfl)) strideVa_mod
  case vstb => exact storesLanes exec_vstb h rfl (funext fun k => JobRegs.byteAddr_eq _ sa k off) (.inl rfl) (blockVa_mod (.inl rfl))

end Sys2Proof.Machine
end

section
/-! Accesses that fail (R165, R208, R211, R217): the job takes the fault of the first, and the instruction has no other effect. -/

namespace Sys2Proof.Machine

variable {s : State} {b : BayIx} {c : Instr} {i : Myvik} {n : Nat} {e : AccFault} {vas : List (BitVec 40)} {pas : List Nat} {tl : List TlbEntry}

/-- The instruction faults with `e`, and that is all that it does. -/
def FaultsWith (c : Instr) (s : State) (b : BayIx) (e : AccFault) : Prop :=
  ∃ i, c.toMyvik = some (b, i) ∧ exec c s = .next ((s.tickCycle b).bayFault b e 0 (myvikEncode i))

/-- The fault of an access at `va` that finds the word `w` poisoned. -/
def poisonFault (va : BitVec 40) (w : Nat) : AccFault := { AccFault.of .ecc va with found := some w }

theorem loadStep_fault {addrs : JobRegs → List (BitVec 40)} {f : JobRegs → List Nat → JobRegs} (h : s.executes b) (legal : i.legal = true)
    (at_ : addrs (s.regsOf b) = vas) (bad : s.loads ((s.getBay b).requester b) (s.getBay b).tlb vas = .error e) :
    loadStep b i n addrs f s = .next ((s.tickCycle b).bayFault b e 0 (myvikEncode i)) := by
  subst at_
  rw [loadStep, issue_executes h legal]
  simp only [State.regsOf] at bad
  simp only [bad]

theorem storeStep_fault {xs : JobRegs → List (BitVec 40 × Nat)} {ys : List (BitVec 40 × Nat)} (h : s.executes b) (legal : i.legal = true)
    (at_ : xs (s.regsOf b) = ys) (bad : s.stores ((s.getBay b).requester b) (s.getBay b).tlb n ys = .error e) :
    storeStep b i n xs s = .next ((s.tickCycle b).bayFault b e 0 (myvikEncode i)) := by
  subst at_
  rw [storeStep, issue_executes h legal]
  simp only [State.regsOf] at bad
  simp only [bad]

section
variable {q : Requester} {t : List TlbEntry}

theorem State.loads_fails (h : s.accessAll q .load t vas = .error e) : s.loads q t vas = .error e := by
  simp only [State.loads, h]

theorem State.stores_fails {xs : List (BitVec 40 × Nat)} (h : s.accessAll q .store t (xs.map (·.1)) = .error e) : s.stores q t n xs = .error e := by
  simp only [State.stores, h]

/-- Loads of which access `k` is the first to read a poisoned word. -/
theorem State.loads_poison {k : Nat} {va : BitVec 40} {pa : Nat} (reach : s.accessAll q .load t vas = .ok (pas, tl)) (hva : vas[k]? = some va)
    (hpa : pas[k]? = some pa) (poison : s.mem.poisoned (pa / 8) = true) (first : ∀ j < k, ∀ p, pas[j]? = some p → s.mem.poisoned (p / 8) = false) :
    s.loads q t vas = .error (poisonFault va (pa / 8)) := by
  obtain ⟨inVas, atVas⟩ := List.getElem?_eq_some_iff.1 hva
  obtain ⟨inPas, atPas⟩ := List.getElem?_eq_some_iff.1 hpa
  have found : (vas.zip pas).find? (fun x => s.mem.poisoned (x.2 / 8)) = some (va, pa) := by
    refine List.find?_eq_some_iff_getElem.2 ⟨poison, k, by rw [List.length_zip]; omega, by rw [List.getElem_zip, atVas, atPas], fun j lt => ?_⟩
    rw [List.getElem_zip, first j lt _ (List.getElem?_eq_getElem _)]
    rfl
  simp only [State.loads, reach, found]
  rfl

end

/-- A load instruction faults with the first access that fails, and else with the first that reads a poisoned word. -/
theorem loadFaults {addrs : JobRegs → List (BitVec 40)} {f : JobRegs → List Nat → JobRegs} (hc : exec c s = loadStep b i n addrs f s)
    (name : c.toMyvik = some (b, i)) (h : s.executes b) (legal : i.legal = true) (at_ : addrs (s.regsOf b) = vas) :
    (s.accessAll ((s.getBay b).requester b) .load (s.getBay b).tlb vas = .error e → FaultsWith c s b e) ∧ PoisonFaults c s b vas :=
  ⟨fun bad => ⟨i, name, hc.trans (loadStep_fault h legal at_ (State.loads_fails bad))⟩,
    fun _ _ _ _ _ reach hva hpa poison first => ⟨i, name, hc.trans (loadStep_fault h legal at_ (State.loads_poison reach hva hpa poison first))⟩⟩

theorem scalarLoadFaults {sd sa : SReg} {imm : BitVec 14} {f : Nat → Word} (hc : exec c s = scalarLoad b i n sd sa imm f s)
    (name : c.toMyvik = some (b, i)) (h : s.executes b) (legal : i.legal = true) :
    (s.accessAll ((s.getBay b).requester b) .load (s.getBay b).tlb [scalarVa (s.regsOf b) sa imm n] = .error e → FaultsWith c s b e)
      ∧ PoisonFaults c s b [scalarVa (s.regsOf b) sa imm n] :=
  loadFaults (addrs := fun r => [r.memAddr sa imm n]) hc name h legal (congrArg (fun va => [va]) (JobRegs.memAddr_eq _ sa n imm))

theorem vectorLoadFaults {vd : VReg} {pg : PReg} {addr : JobRegs → Fin 32 → BitVec 40} {va : Fin 32 → BitVec 40}
    (hc : exec c s = vectorLoad b i n vd pg addr s) (name : c.toMyvik = some (b, i)) (h : s.executes b) (legal : i.legal = true)
    (place : addr (s.regsOf b) = va) :
    (s.accessAll ((s.getBay b).requester b) .load (s.getBay b).tlb (((s.regsOf b).actives pg).map va) = .error e → FaultsWith c s b e)
      ∧ PoisonFaults c s b (((s.regsOf b).actives pg).map va) :=
  loadFaults (addrs := fun r => (r.actives pg).map (addr r)) hc name h legal (congrArg ((s.regsOf b).actives pg).map place)

/-- A store instruction faults with the first access that fails. -/
theorem storeFaults {xs : JobRegs → List (BitVec 40 × Nat)} (hc : exec c s = storeStep b i n xs s) (name : c.toMyvik = some (b, i)) (h : s.executes b)
    (legal : i.legal = true) (at_ : (xs (s.regsOf b)).map (·.1) = vas)
    (bad : s.accessAll ((s.getBay b).requester b) .store (s.getBay b).tlb vas = .error e) : FaultsWith c s b e := by
  subst at_
  exact ⟨i, name, hc.trans (storeStep_fault h legal rfl (State.stores_fails bad))⟩

section
variable {ι : Type} {l pre post : List ι} {va : ι → BitVec 40} {pa x : ι → Nat} {k : ι}

theorem find?_reverse_dedup_reverse {α : Type} [DecidableEq α] (p : α → Bool) (l : List α) : l.reverse.dedup.reverse.find? p = l.find? p := by
  induction l using List.reverseRecOn with
  | nil => rfl
  | append_singleton l a ih =>
    rw [List.reverse_append, List.reverse_singleton, List.singleton_append, List.find?_append]
    by_cases seen : a ∈ l.reverse
    · rw [List.dedup_cons_of_mem seen, ih]
      cases found : l.find? p with
      | some _ => rfl
      | none => simp [List.find?_eq_none.1 found a (List.mem_reverse.1 seen)]
    · rw [List.dedup_cons_of_notMem seen, List.reverse_cons, List.find?_append, ih]

/-- The first access that stores a poisoned word in part is where the store is blocked. -/
theorem storeBlocked_first {m : Memory} (hn : IsWidth n) (aligned : ∀ j ∈ l, pa j % n = 0) (split : l = pre ++ k :: post)
    (poison : m.poisoned (pa k / 8) = true) (part : covers (storeCells n pa x l) (pa k / 8) = false)
    (first : ∀ j ∈ pre, m.poisoned (pa j / 8) = true → covers (storeCells n pa x l) (pa j / 8) = true) :
    m.storeBlocked (storeCells n pa x l) = some (pa k / 8) := by
  obtain ⟨n', rfl⟩ : ∃ n', n = n' + 1 := ⟨n - 1, by obtain rfl | rfl | rfl := hn <;> rfl⟩
  generalize hp : covers (storeCells (n' + 1) pa x l) = p at part first
  rw [Memory.storeBlocked, wordsOf_storeCells hn aligned, find?_reverse_dedup_reverse, hp, split, List.flatMap_append, List.flatMap_cons,
    List.find?_append, List.replicate_succ, List.cons_append]
  have before : (pre.flatMap fun j => List.replicate (n' + 1) (pa j / 8)).find? (fun w => !p w && m.poisoned w) = none := by
    refine List.find?_eq_none.2 fun w hw => ?_
    obtain ⟨j, hj, hw⟩ := List.mem_flatMap.1 hw
    obtain rfl := List.eq_of_mem_replicate hw
    cases poison : m.poisoned (pa j / 8) with
    | false => simp
    | true => simp [first j hj poison]
  rw [before, List.find?_cons_of_pos (by simp [part, poison]), Option.none_or]

theorem State.stores_poison {q : Requester} {t : List TlbEntry} (hn : IsWidth n) (aligned : ∀ j ∈ l, pa j % n = 0)
    (reach : s.accessAll q .store t (l.map va) = .ok (l.map pa, tl)) (split : l = pre ++ k :: post)
    (poison : s.mem.poisoned (pa k / 8) = true) (part : covers (storeCells n pa x l) (pa k / 8) = false)
    (first : ∀ j ∈ pre, s.mem.poisoned (pa j / 8) = true → covers (storeCells n pa x l) (pa j / 8) = true) :
    s.stores q t n (l.map fun i => (va i, x i % 2 ^ (8 * n))) = .error (poisonFault (va k) (pa k / 8)) := by
  have vas : (l.map fun i => (va i, x i % 2 ^ (8 * n))).map (·.1) = l.map va := by rw [List.map_map]; rfl
  have cells : ((l.map pa).zip (l.map fun i => (va i, x i % 2 ^ (8 * n)))).flatMap (fun x => cellsAt x.1 (bytesLe n x.2.2)) = storeCells n pa x l := by
    rw [List.zip_map', List.flatMap_map, storeCells]
  have other : ∀ j ∈ pre, ¬ pa j / 8 = pa k / 8 := fun j hj same => by
    have := first j hj (same ▸ poison)
    rw [same, part] at this
    exact Bool.false_ne_true this
  have access : (((l.map fun i => (va i, x i % 2 ^ (8 * n))).zip (l.map pa)).find? fun x => x.2 / 8 = pa k / 8)
      = some ((va k, x k % 2 ^ (8 * n)), pa k) := by
    rw [List.zip_map', split, List.map_append, List.find?_append, List.find?_eq_none.2, Option.none_or, List.map_cons, List.find?_cons_of_pos (by simp)]
    simpa using other
  rw [State.stores, vas, reach]
  simp only [cells, storeBlocked_first hn aligned split poison part first, access]
  rfl

end

/-- A scalar store of part of a poisoned word. -/
theorem scalarStore_poison {s_ sa : SReg} {imm : BitVec 14} {pa : Nat} (hc : exec c s = scalarStore b i n s_ sa imm s) (name : c.toMyvik = some (b, i))
    (h : s.executes b) (legal : i.legal = true) (hn : IsWidth n) (reach : s.reaches b .store [scalarVa (s.regsOf b) sa imm n] [pa] tl)
    (poison : s.mem.poisoned (pa / 8) = true) : FaultsWith c s b (poisonFault (scalarVa (s.regsOf b) sa imm n) (pa / 8)) := by
  have aligned : pa % n = 0 :=
    reaches_mod (ι := Unit) (va := fun _ => scalarVa (s.regsOf b) sa imm n) (pa := fun _ => pa) (l := [()]) hn (fun _ => scalarVa_mod hn) reach () (by simp)
  have bad := State.stores_poison (ι := Unit) (l := [()]) (pre := []) (post := []) (k := ()) (va := fun _ => scalarVa (s.regsOf b) sa imm n)
    (pa := fun _ => pa) (x := fun _ => ((s.regsOf b).getS s_).toNat) hn (fun _ _ => aligned) reach rfl poison (covers_one hn _) (by simp)
  exact ⟨i, name, hc.trans (storeStep_fault h legal (by rw [JobRegs.memAddr_eq]; rfl) bad)⟩

theorem scalarStore_fails {s_ sa : SReg} {imm : BitVec 14} (hc : exec c s = scalarStore b i n s_ sa imm s) (name : c.toMyvik = some (b, i))
    (h : s.executes b) (legal : i.legal = true)
    (bad : s.accessAll ((s.getBay b).requester b) .store (s.getBay b).tlb [scalarVa (s.regsOf b) sa imm n] = .error e) : FaultsWith c s b e :=
  storeFaults (xs := fun r => [(r.memAddr sa imm n, (r.getS s_).toNat % 2 ^ (8 * n))]) hc name h legal
    (congrArg (fun va => [va]) (JobRegs.memAddr_eq _ sa n imm)) bad

/-- A vector store faults with the first access that fails, and else with the first lane that stores a poisoned word in part. -/
theorem vectorStoreFaults {vs : VReg} {pg : PReg} {addr : JobRegs → Fin 32 → BitVec 40} {va : Fin 32 → BitVec 40}
    (hc : exec c s = vectorStore b i n vs pg addr s) (name : c.toMyvik = some (b, i)) (h : s.executes b) (legal : i.legal = true)
    (place : addr (s.regsOf b) = va) (hn : IsWidth n) (aligned : ∀ k, (va k).toNat % n = 0) :
    (s.accessAll ((s.getBay b).requester b) .store (s.getBay b).tlb (((s.regsOf b).actives pg).map va) = .error e → FaultsWith c s b e)
      ∧ PartPoisonFaults c s b n pg va := by
  subst place
  refine ⟨storeFaults hc name h legal (by rw [List.map_map]; rfl), fun pa tl k reach active poison part first => ?_⟩
  let x (k : Fin 32) : Nat := ((s.regsOf b).lane16 vs k).toNat
  obtain ⟨pre, post, split, below, -⟩ := JobRegs.actives_split active
  have isActive : ∀ j ∈ pre, (s.regsOf b).active pg j = true := fun j hj => JobRegs.mem_actives.1 (by rw [split]; simp [hj])
  have bad := State.stores_poison (x := x) hn (reaches_mod hn aligned reach) reach split poison (by rw [← storesWhole_eq]; exact part)
    fun j hj hot => by rw [← storesWhole_eq]; exact first j (below j hj) (isActive j hj) hot
  exact ⟨i, name, hc.trans (storeStep_fault h legal rfl bad)⟩

end Sys2Proof.Machine
end

section
/-! CPOST (R178, R213). -/

namespace Sys2Proof.Machine

variable {s : State} {b : BayIx} {e : AccFault} {sd sa sb : SReg}

/-- The cart that CPOST names. -/
def JobRegs.cpostCart (r : JobRegs) (sb : SReg) : CartIx := finOf 32 ((r.getS sb).toNat % 32)

/-- Where CPOST reads its descriptor. -/
def JobRegs.cpostVa (r : JobRegs) (sa : SReg) : BitVec 40 := r.dseg.extractLsb' 0 8 ++ (r.getS sa &&& 0xFFFFFFE0#32)

def JobRegs.cpostVas (r : JobRegs) (sa : SReg) : List (BitVec 40) := [0, 8, 16, 24].map fun k => r.cpostVa sa + BitVec.ofNat 40 k

theorem cpostCart_eq (r : JobRegs) (sb : SReg) : (finOf 32 ((r.getS sb).extractLsb' 0 5).toNat : CartIx) = r.cpostCart sb := by
  rw [JobRegs.cpostCart, BitVec.extractLsb'_toNat]
  rfl

theorem cpostVas_eq (r : JobRegs) (sa : SReg) :
    ([0, 8, 16, 24].map fun k => r.dataVa (r.getS sa &&& ~~~(0x1F#32)) + BitVec.ofNat 40 k) = r.cpostVas sa := rfl

theorem cpost_fault (h : s.executes b) (takes : (vget s.det.carts ((s.regsOf b).cpostCart sb)).fullFor (s.getBay b).asid = false)
    (bad : s.loads ((s.getBay b).requester b) (s.getBay b).tlb ((s.regsOf b).cpostVas sa) = .error e) : FaultsWith (.cpost b sd sa sb) s b e := by
  refine ⟨.cpost sd sa sb, rfl, ?_⟩
  simp only [State.regsOf] at takes bad
  rw [exec_cpost, execCpost, issue_executes h rfl]
  simp only [cpostCart_eq, cpostVas_eq, takes, Bool.false_eq_true, if_false, bad]

theorem cpostFaults (h : s.executes b) (takes : (vget s.det.carts ((s.regsOf b).cpostCart sb)).fullFor (s.getBay b).asid = false) :
    (s.accessAll ((s.getBay b).requester b) .load (s.getBay b).tlb ((s.regsOf b).cpostVas sa) = .error e → FaultsWith (.cpost b sd sa sb) s b e)
      ∧ PoisonFaults (.cpost b sd sa sb) s b ((s.regsOf b).cpostVas sa) :=
  ⟨fun bad => cpost_fault h takes (State.loads_fails bad),
    fun _ _ _ _ _ reach hva hpa poison first => cpost_fault h takes (State.loads_poison reach hva hpa poison first)⟩

/-- Settles O14, form by form. -/
theorem failedAccessFaultsTheJob : Obligations.FailedAccessFaultsTheJob := by
  intro s b sd sa sb vd pg imm off f h y r fails
  have block : r.vecAddr sa off = blockVa r sa off 2 := funext fun k => JobRegs.vecAddr_eq _ sa k off
  have stride : r.strideAddr sa sb = strideVa r sa sb := funext fun k => JobRegs.strideAddr_eq _ sa sb k
  have byte : r.byteAddr sa off = blockVa r sa off 1 := funext fun k => JobRegs.byteAddr_eq _ sa k off
  obtain ⟨ldB, ldB'⟩ := scalarLoadFaults (e := f) (sd := sd) (sa := sa) (imm := imm) exec_ldB rfl h rfl
  obtain ⟨ldBu, ldBu'⟩ := scalarLoadFaults (e := f) (sd := sd) (sa := sa) (imm := imm) exec_ldBu rfl h rfl
  obtain ⟨ldH, ldH'⟩ := scalarLoadFaults (e := f) (sd := sd) (sa := sa) (imm := imm) exec_ldH rfl h rfl
  obtain ⟨ldHu, ldHu'⟩ := scalarLoadFaults (e := f) (sd := sd) (sa := sa) (imm := imm) exec_ldHu rfl h rfl
  obtain ⟨ldW, ldW'⟩ := scalarLoadFaults (e := f) (sd := sd) (sa := sa) (imm := imm) exec_ldW rfl h rfl
  obtain ⟨vld, vld'⟩ := vectorLoadFaults (e := f) (vd := vd) (pg := pg) exec_vld rfl h rfl block
  obtain ⟨vlds, vlds'⟩ := vectorLoadFaults (e := f) (vd := vd) (pg := pg) exec_vlds rfl h rfl stride
  obtain ⟨vldbu, vldbu'⟩ := vectorLoadFaults (e := f) (vd := vd) (pg := pg) exec_vldbu rfl h rfl byte
  obtain ⟨vst, vst'⟩ := vectorStoreFaults (e := f) (exec_vst (vd := vd) (pg := pg)) rfl h rfl block (.inr (.inl rfl)) (blockVa_mod (.inr rfl))
  obtain ⟨vsts, vsts'⟩ := vectorStoreFaults (e := f) (exec_vsts (vd := vd) (pg := pg)) rfl h rfl stride (.inr (.inl rfl)) strideVa_mod
  obtain ⟨vstb, vstb'⟩ := vectorStoreFaults (e := f) (exec_vstb (vd := vd) (pg := pg)) rfl h rfl byte (.inl rfl) (blockVa_mod (.inl rfl))
  have stB : fails (.stB b sd sa imm) .store [scalarVa r sa imm 1] := scalarStore_fails exec_stB rfl h rfl
  have stH : fails (.stH b sd sa imm) .store [scalarVa r sa imm 2] := scalarStore_fails exec_stH rfl h rfl
  have stW : fails (.stW b sd sa imm) .store [scalarVa r sa imm 4] := scalarStore_fails exec_stW rfl h rfl
  refine ⟨ldB, ldBu, ldH, ldHu, ldW, stB, stH, stW, vld, vst, vlds, vsts, vldbu, vstb, fun takes => cpostFaults h takes, ldB', ldBu', ldH', ldHu', ldW',
    vld', vlds', vldbu', vst', vsts', vstb', fun c n pa tl form reach poison => ?_⟩
  simp only [List.mem_cons, Prod.mk.injEq, List.not_mem_nil, or_false] at form
  obtain ⟨rfl, rfl⟩ | ⟨rfl, rfl⟩ | ⟨rfl, rfl⟩ := form
  · exact scalarStore_poison exec_stB rfl h rfl (.inl rfl) reach poison
  · exact scalarStore_poison exec_stH rfl h rfl (.inr (.inl rfl)) reach poison
  · exact scalarStore_poison exec_stW rfl h rfl (.inr (.inr rfl)) reach poison

end Sys2Proof.Machine
end

section
/-! LFR (R176, R195). -/

namespace Sys2Proof.Machine

variable {s : State} {b : BayIx} {vd : VReg} {sa : SReg} {age : BitVec 4} {fld : BitVec 2}

/-- The end of an instruction that only writes registers: its registers, and one cycle. -/
theorem State.tickCycle_onBay_regs (s : State) (b : BayIx) (q : JobRegs) : (s.onBay b fun y => { y with regs := q }).tickCycle b = s.ran b q := by
  simp [State.tickCycle, State.ran, State.onBay, State.getBay]

/-- What LFR finds in the ring, and the segment that it reads for. -/
def State.lfrFeed (s : State) (b : BayIx) (age : BitVec 4) (fld : BitVec 2) : Option (List (Nat × Nat) × BayIx) :=
  match (s.getBay b).work with
  | .line j => (s.ringLine j age.toNat fld.toNat).map fun vs => (vs, j.seg)
  | _ => none

/-- The first segment position that LFR reads. -/
def JobRegs.lfrStart (r : JobRegs) (sa : SReg) : Nat := (r.getS sa).toNat % 256

theorem lfr_executes (h : s.executes b) : exec (.lfr b vd sa age fld) s = .next (s.ran b
    (match s.lfrFeed b age fld with
      | some (vs, seg) => (s.regsOf b).setV vd fun i => feedAt vs seg ((s.regsOf b).lfrStart sa + i.val)
      | none => ((s.regsOf b).setV vd fun _ => 0).setSflags sfFeedgap).advance) := by
  have start : (((s.regsOf b).getS sa).extractLsb' 0 8).toNat = (s.regsOf b).lfrStart sa := by rw [BitVec.extractLsb'_toNat]; rfl
  rw [exec_lfr, execLfr, issue_executes h rfl]
  simp only [State.watchAt_nil, State.tickCycle_onBay_regs]
  rw [← start]
  rfl

theorem feedAt_eq (vs : List (Nat × Nat)) (seg : BayIx) (p : Nat) : feedAt vs seg p =
    if p ≤ 143 ∧ 0 ≤ 128 * (seg.val : Int) + (p : Nat) - 8 ∧ 128 * (seg.val : Int) + (p : Nat) - 8 ≤ 16383 then
      BitVec.ofNat 16 ((stripGet? vs (128 * (seg.val : Int) + (p : Nat) - 8).toNat).getD 0) else 0 := by
  simp only [feedAt, Bool.or_eq_true, decide_eq_true_eq]
  split
  · rw [if_neg (by omega)]
  · rw [if_pos (by omega)]

theorem lfr_of_feed (h : s.executes b) {vs : List (Nat × Nat)} {seg : BayIx} (feed : s.lfrFeed b age fld = some (vs, seg)) :
    RunsTo (.lfr b vd sa age fld) s b
      (LanesTo false vd (fun i => feedAt vs seg ((s.regsOf b).lfrStart sa + i.val)) (fun _ => false) (fun _ => false)) :=
  ⟨_, (lfr_executes h).trans (by rw [feed]; rfl), JobRegs.lanesTo_setLanes _ false vd _⟩

/-- LFR where the ring cannot give the line. -/
theorem lfr_of_gap (h : s.executes b) (feed : s.lfrFeed b age fld = none) : RunsTo (.lfr b vd sa age fld) s b fun r q =>
    q.sflags = r.sflags ||| 4 ∧ LanesTo false vd (fun _ => 0) (fun _ => false) (fun _ => false) { r with sflags := r.sflags ||| 4 } q :=
  ⟨_, (lfr_executes h).trans (by rw [feed]; rfl), rfl, JobRegs.lanesTo_setLanes { s.regsOf b with sflags := _ } false vd _⟩

/-- Settles O15. -/
theorem lineFeedReadsTheLoftRing : Obligations.LineFeedReadsTheLoftRing := by
  intro s b vd sa age fld h r p held gap
  cases work : (s.getBay b).work with
  | line j =>
    refine ⟨fun x vs here values => ?_, fun missing => lfr_of_gap h ?_⟩
    · obtain ⟨line, carried⟩ := here
      have feed : s.lfrFeed b age fld = some (vs, j.seg) := by
        simp only [State.lfrFeed, work, State.ringLine, line, if_pos carried, values, Option.map_some]
      have runs := lfr_of_feed (vd := vd) (sa := sa) h feed
      simp only [feedAt_eq] at runs
      exact runs
    · simp only [State.lfrFeed, work, State.ringLine]
      split
      · next x line => rw [if_neg fun carried => missing x ⟨line, carried⟩, Option.map_none]
      · rfl
  | idle | reset | deep | saving | restoring => exact lfr_of_gap h (by simp only [State.lfrFeed, work])

end Sys2Proof.Machine
end

section
/-! CSRs (R178, R179, R9). -/

namespace Sys2Proof.Machine

variable {s : State} {b : BayIx} {sc : SReg} {csr : Byte}

/-- A read of any CSR but CYC_LO. -/
theorem mfc_reads {v : Word} (h : s.executes b) (legal : (Myvik.mfc sc csr).legal = true) (plain : csr.toNat ≠ 0x0A)
    (value : s.csr b csr.toNat = v) : RunsTo (.mfc b sc csr) s b (ScalarTo sc v 0) := by
  refine ⟨_, ?_, JobRegs.scalarTo_plain _ sc v⟩
  rw [exec_mfc, execMfc, issue_executes h legal]
  simp only [State.watchAt_nil, State.csrRead, if_neg plain, value]
  exact congrArg Host.Outcome.next (s.tickCycle_onBay_regs b ((s.regsOf b).setS sc v).advance)

/-- A read of CYC_LO latches CYC_HI. -/
theorem mfc_cycLo (h : s.executes b) : exec (.mfc b sc 0x0A) s = .next
    ((s.ran b ((s.regsOf b).setS sc ((s.getBay b).cyc.extractLsb' 0 32)).advance).onBay b
      fun z => { z with cycHi := (s.getBay b).cyc.extractLsb' 32 32 }) := by
  rw [exec_mfc, execMfc, issue_executes h rfl]
  simp only [State.watchAt_nil, State.csrRead, show (0x0A : Byte).toNat = 0x0A from rfl, if_true]
  simp [State.csr, State.tickCycle, State.ran, State.onBay, State.getBay, State.regsOf]

/-- A write of a CSR that may be written. -/
theorem mtc_writes {f : JobRegs → JobRegs} (h : s.executes b) (legal : (Myvik.mtc sc csr).legal = true)
    (value : (s.regsOf b).csrWrite csr.toNat ((s.regsOf b).getS sc) = f (s.regsOf b)) :
    RunsTo (.mtc b sc csr) s b fun r q => NextPc (f r) q :=
  runsTo_regStep exec_mtc h legal (by rw [value]; exact ⟨rfl, pcMoved_pcPlus _ 1⟩)

/-- Settles O17, row by row of the table. -/
theorem csrsReadAndWriteAsTheTableSays : Obligations.CsrsReadAndWriteAsTheTableSays := by
  intro s b sc h y r x reads writes
  refine ⟨?vov, ?vsat, ?sflags, ?bay, ?job, ?seg, ?lineLo, ?lineHi, ?left, ?bflag, ?cycHi, ?kernel, ?dseg, ?cycLo,
    ?clearVov, ?clearVsat, ?clearSflags, ?setLineLo, ?setLineHi, ?clearBflag, ?setKernel, ?setDseg⟩
  case cycLo => exact ⟨_, mfc_cycLo h, JobRegs.scalarTo_plain _ sc _⟩
  case vov | vsat | sflags | bay | job | seg | lineLo | lineHi | left | bflag | cycHi | kernel | dseg => exact mfc_reads h rfl (by decide) rfl
  all_goals exact mtc_writes h rfl rfl

end Sys2Proof.Machine
end

section
/-! How a bay goes on when its job ends (R178, R196, R199, R200). -/

namespace Sys2Proof.Machine

variable {s : State} {b : BayIx}

/-- A bay for which nothing waits. -/
theorem State.startNext_nothing (queue : (s.getBay b).queue = []) (none_ : (s.getBay b).pick = none) : s.startNext b = s := by
  simp [State.startNext, queue, none_]

section
variable (idle : (s.getBay b).work = .idle) (runs : s.baysRun = true)
include idle runs

theorem State.startNext_queued {k : LineJob} {ks : List LineJob} (queue : (s.getBay b).queue = k :: ks) : s.startNext b =
    s.onBay b fun y => { y with work := .line k, regs := startRegs (s.kernelEntry k.kslot) k.kslot k.line, queue := ks } := by
  simp [State.startNext, idle, runs, queue]

variable {i : Fin 4} (queue : (s.getBay b).queue = []) (next : (s.getBay b).pick = some i)
include queue next

theorem State.startNext_fresh (ready : ((s.getBay b).getSlot i).state = .ready) (fresh : ((s.getBay b).getSlot i).fresh = true) :
    s.startNext b = s.onBay b fun y => y.runSlot i (startRegs (s.kernelEntry ((s.getBay b).getSlot i).kslot) ((s.getBay b).getSlot i).kslot 0) := by
  simp [State.startNext, idle, runs, queue, next, ready, fresh]

theorem State.startNext_restores (saved : ((s.getBay b).getSlot i).state = .saved ∨ ((s.getBay b).getSlot i).fresh = false) :
    s.startNext b = s.onBay b fun y => { y with work := .restoring i } := by
  have entry : ¬ (((s.getBay b).getSlot i).state = .ready ∧ ((s.getBay b).getSlot i).fresh = true) := by
    rintro ⟨ready, fresh⟩
    obtain saved | stale := saved
    · simp [ready] at saved
    · simp [fresh] at stale
  simp only [State.startNext, idle, runs, queue, next]
  rw [if_neg (by simp), if_neg (by simpa using entry)]

end

/-- A bay after one cycle. -/
def Bay.cycled (b : BayIx) (y : Bay) : Bay := { y with cyc := y.cyc + 1 + BitVec.ofNat 64 (Config.bayExtraCycles b.val y.cyc), skipBrk := false }

theorem State.onBay_congr {f g : Bay → Bay} (same : f (s.getBay b) = g (s.getBay b)) : s.onBay b f = s.onBay b g := by
  rw [State.getBay] at same
  simp only [State.onBay, vmod_eq_vset, same]

theorem State.ran_onBay (q : JobRegs) (f : Bay → Bay) : (s.ran b q).onBay b f = s.onBay b fun y => f (Bay.cycled b { y with regs := q }) := by
  simp [State.ran, State.onBay, State.getBay, Bay.cycled]

theorem State.onBay_tickCycle (f : Bay → Bay) : (s.onBay b f).tickCycle b = s.onBay b fun y => Bay.cycled b (f y) :=
  State.onBay_onBay s b f (Bay.cycled b)

theorem State.executes.baysRun (h : s.executes b) : s.baysRun = true := by
  have issue := h.1
  simp only [State.canIssue, Bool.and_eq_true] at issue
  obtain ⟨⟨⟨-, runs⟩, -⟩, -⟩ := issue
  exact runs

theorem State.executes.work (h : s.executes b) : (∃ j, (s.getBay b).work = .line j) ∨ ∃ j, (s.getBay b).work = .deep j := by
  have issue := h.1
  simp only [State.canIssue, Bool.and_eq_true] at issue
  obtain ⟨-, work⟩ := issue
  cases kind : (s.getBay b).work with
  | line j => exact .inl ⟨j, rfl⟩
  | deep j => exact .inr ⟨j, rfl⟩
  | idle | reset | saving | restoring => simp [kind] at work

/-- A bay whose job halts: a deep job's slot is DONE. -/
def Bay.ended (y : Bay) : Bay :=
  match y.work with
  | .deep j => y.onSlot j fun d => { d with state := .done }
  | _ => y

theorem Bay.ended_cycled (y : Bay) (q : JobRegs) : (Bay.cycled b { y with regs := q }).ended = Bay.cycled b { y.ended with regs := q } := by
  cases y with
  | mk work => cases work <;> rfl

/-- A bay whose job halts, before it takes the next. -/
def Bay.halting (y : Bay) : Bay := { y.ended with work := .idle, regs := y.regs.advance }

theorem Bay.halting_pick (y : Bay) : y.halting.pick = y.ended.pick := rfl

theorem Bay.halting_getSlot (y : Bay) (i : Fin 4) : y.halting.getSlot i = y.ended.getSlot i := rfl

theorem Bay.halting_queue (y : Bay) : y.halting.queue = y.queue := by
  unfold Bay.halting Bay.ended
  cases y.work <;> rfl

theorem halt_executes (h : s.executes b) : exec (.halt b) s = .next (((s.onBay b Bay.halting).startNext b).tickCycle b) := by
  rw [exec_halt, execHalt, issue_executes h rfl]
  simp only [State.watchAt_nil, State.haltJob, State.getBay_onBay]
  have same {f : Bay → Bay} (e : f (s.getBay b) = (s.getBay b).halting) :=
    State.onBay_congr (f := f) (g := Bay.halting) e
  obtain ⟨j, work⟩ | ⟨j, work⟩ := h.work <;> simp only [work, State.onBay_onBay]
  · rw [same (by simp only [Bay.halting, Bay.ended, work])]
  · rw [same (by simp only [Bay.halting, Bay.ended, work]; rfl)]

/-- A deep job of another slot may run in place of slot `j`. -/
def Bay.others (y : Bay) (j : Fin 4) : Prop := ∃ i, i ≠ j ∧ (y.getSlot i).runnable = true

theorem State.yieldJob_stays (alone : ∀ j, (s.getBay b).work = .deep j → ¬ (s.getBay b).others j) : s.yieldJob b = s := by
  unfold State.yieldJob
  dsimp only
  split
  · next j work =>
    rw [if_neg]
    simpa [Bay.others] using alone j work
  · rfl

theorem State.yieldJob_saves {j : Fin 4} (work : (s.getBay b).work = .deep j) (next : (s.getBay b).others j) :
    s.yieldJob b = s.onBay b fun y => { y with work := .saving j .yield } := by
  simp only [State.yieldJob, work]
  rw [if_pos]
  simpa [Bay.others] using next

section
variable (h : s.executes b)
include h

theorem halt_idles (queue : (s.getBay b).queue = []) (none_ : (s.getBay b).ended.pick = none) : exec (.halt b) s = .next
    ((s.ran b (s.regsOf b).advance).onBay b fun z => { z.ended with work := .idle }) := by
  rw [halt_executes h, State.startNext_nothing (s := s.onBay b Bay.halting) (by rw [State.getBay_onBay, Bay.halting_queue, queue]) (by rw [State.getBay_onBay, Bay.halting_pick, none_]), State.ran_onBay,
    State.onBay_tickCycle]
  refine congrArg Host.Outcome.next (State.onBay_congr ?_)
  rw [Bay.ended_cycled]
  rfl

theorem halt_queued {k : LineJob} {ks : List LineJob} (queue : (s.getBay b).queue = k :: ks) : exec (.halt b) s = .next
    ((s.ran b (startRegs (s.kernelEntry k.kslot) k.kslot k.line)).onBay b fun z => { z.ended with work := .line k, queue := ks }) := by
  rw [halt_executes h, State.startNext_queued (k := k) (ks := ks) (s := s.onBay b Bay.halting) (by rw [State.getBay_onBay]; rfl) h.baysRun (by rw [State.getBay_onBay, Bay.halting_queue, queue]), State.onBay_onBay,
    State.ran_onBay, State.onBay_tickCycle]
  refine congrArg Host.Outcome.next (State.onBay_congr ?_)
  rw [Bay.ended_cycled]
  rfl

variable {i : Fin 4} (queue : (s.getBay b).queue = []) (next : (s.getBay b).ended.pick = some i)
include queue next

theorem halt_restores (saved : ((s.getBay b).ended.getSlot i).state = .saved ∨ ((s.getBay b).ended.getSlot i).fresh = false) :
    exec (.halt b) s = .next ((s.ran b (s.regsOf b).advance).onBay b fun z => { z.ended with work := .restoring i }) := by
  rw [halt_executes h, State.startNext_restores (i := i) (s := s.onBay b Bay.halting) (by rw [State.getBay_onBay]; rfl) h.baysRun (by rw [State.getBay_onBay, Bay.halting_queue, queue]) (by rw [State.getBay_onBay, Bay.halting_pick, next])
    (by rw [State.getBay_onBay, Bay.halting_getSlot]; exact saved), State.onBay_onBay, State.ran_onBay, State.onBay_tickCycle]
  refine congrArg Host.Outcome.next (State.onBay_congr ?_)
  rw [Bay.ended_cycled]
  rfl

theorem halt_enters (ready : ((s.getBay b).ended.getSlot i).state = .ready) (fresh : ((s.getBay b).ended.getSlot i).fresh = true)
    {q : JobRegs} (entry : q = startRegs (s.kernelEntry ((s.getBay b).ended.getSlot i).kslot) ((s.getBay b).ended.getSlot i).kslot 0) :
    exec (.halt b) s = .next ((s.ran b q).onBay b fun z => z.ended.runSlot i q) := by
  rw [halt_executes h, State.startNext_fresh (i := i) (s := s.onBay b Bay.halting) (by rw [State.getBay_onBay]; rfl) h.baysRun (by rw [State.getBay_onBay, Bay.halting_queue, queue]) (by rw [State.getBay_onBay, Bay.halting_pick, next])
    (by rw [State.getBay_onBay, Bay.halting_getSlot]; exact ready) (by rw [State.getBay_onBay, Bay.halting_getSlot]; exact fresh), State.onBay_onBay, State.ran_onBay, State.onBay_tickCycle]
  refine congrArg Host.Outcome.next (State.onBay_congr ?_)
  rw [Bay.ended_cycled, entry]
  simp only [State.getBay_onBay]
  rfl

end

theorem yield_executes (h : s.executes b) : exec (.yield b) s = .next (((s.onBay b fun y => { y with regs := y.regs.advance }).yieldJob b).tickCycle b) := by
  rw [exec_yield, execYield, issue_executes h rfl]
  simp only [State.watchAt_nil]

theorem yield_stays (h : s.executes b) (alone : ∀ j, (s.getBay b).work = .deep j → ¬ (s.getBay b).others j) :
    exec (.yield b) s = .next (s.ran b (s.regsOf b).advance) := by
  rw [yield_executes h, State.yieldJob_stays (by rw [State.getBay_onBay]; exact alone)]
  exact congrArg Host.Outcome.next (s.tickCycle_onBay_regs b (s.regsOf b).advance)

theorem yield_saves (h : s.executes b) {j : Fin 4} (work : (s.getBay b).work = .deep j) (next : (s.getBay b).others j) :
    exec (.yield b) s = .next ((s.ran b (s.regsOf b).advance).onBay b fun z => { z with work := .saving j .yield }) := by
  rw [yield_executes h, State.yieldJob_saves (j := j) (by rw [State.getBay_onBay]; exact work) (by rw [State.getBay_onBay]; exact next),
    State.onBay_onBay, State.ran_onBay, State.onBay_tickCycle]
  rfl

end Sys2Proof.Machine
end

section
/-! The job-control instructions (R178, R196, R199, R200, R213). -/

namespace Sys2Proof.Machine

variable {s : State} {b : BayIx} {sd sa sb : SReg}

theorem cpost_full (h : s.executes b) (full : (vget s.det.carts ((s.regsOf b).cpostCart sb)).fullFor (s.getBay b).asid = true) :
    RunsTo (.cpost b sd sa sb) s b (ScalarTo sd 1 0) := by
  refine ⟨_, ?_, JobRegs.scalarTo_plain _ sd 1⟩
  simp only [State.regsOf] at full
  rw [exec_cpost, execCpost, issue_executes h rfl]
  simp only [cpostCart_eq, full, if_true, State.watchAt_nil]
  exact congrArg Host.Outcome.next (s.tickCycle_onBay_regs b ((s.regsOf b).setS sd 1).advance)

theorem cpost_posts {pas : List Nat} {tl : List TlbEntry} (h : s.executes b) 
    (takes : (vget s.det.carts ((s.regsOf b).cpostCart sb)).fullFor (s.getBay b).asid = false)
    (reach : s.reaches b .load ((s.regsOf b).cpostVas sa) pas tl) (clean : ∀ a ∈ pas, s.mem.poisoned (a / 8) = false)
    (watch : s.watchAt b (((s.regsOf b).cpostVas sa).map fun va => (va, 8, false)) = none) : exec (.cpost b sd sa sb) s = .next
      (((s.afterReads b ((s.regsOf b).cpostVas sa) (pas.map (· / 8))).ranTlb b ((s.regsOf b).setS sd 0).advance tl).onCart ((s.regsOf b).cpostCart sb)
        fun c => { c with queue := c.queue ++ [{ raw := some (BitVec.ofNat 256 (natLe (pas.flatMap fun a => s.mem.gets a 8))), va := (s.regsOf b).cpostVa sa, asid := (s.getBay b).asid, poster := (s.getBay b).poster b, chained := false }] }) := by
  have loads := State.loads_of_reaches reach clean
  have run := (s.afterReads b ((s.regsOf b).cpostVas sa) (pas.map (· / 8))).tickCycle_onBay_ranTlb b (fun r => (r.setS sd 0).advance) tl
  rw [State.afterReads_regsOf] at run
  rw [← run]
  simp only [State.regsOf] at takes loads watch ⊢
  rw [exec_cpost, execCpost, issue_executes h rfl]
  simp only [cpostCart_eq, cpostVas_eq, takes, Bool.false_eq_true, if_false, loads, watch]
  rfl

theorem fullFor_iff (c : Cart) (asid : BitVec 4) : c.fullFor asid = true ↔ c.queue.length ≥ 16 ∨ c.owner ≠ asid ∨ c.state = .reset := by
  simp [Cart.fullFor, or_assoc]

/-- Settles O18, instruction by instruction. -/
theorem jobControlInstructions : Obligations.JobControlInstructions := by
  intro s b sd sa sb flag h y r cart va vas full other ended
  have ended_eq (z : Bay) (same : z.work = y.work) : ended z = z.ended := by
    obtain ⟨work⟩ := z
    obtain rfl : work = y.work := same
    rfl
  have halts (q : JobRegs) (g : Bay → Bay) : (s.ran b q).onBay b (fun z => g z.ended) = (s.ran b q).onBay b fun z => g (ended z) :=
    State.onBay_congr (congrArg g (ended_eq _ (by simp [State.ran, State.getBay, y])).symm)
  refine ⟨?fence, ?cwait, ?yields, ?saves, ?falls, ?queued, ?deep, ?isFull, ?posts⟩
  case fence => exact runsTo_regStep exec_fence h rfl ⟨rfl, pcMoved_pcPlus _ 1⟩
  case isFull => exact fun full => cpost_full h ((fullFor_iff _ _).2 full)
  case posts =>
    intro takes pas tl reach clean watch
    have takes : (vget s.det.carts (r.cpostCart sb)).fullFor y.asid = false := Bool.eq_false_iff.2 fun full => takes ((fullFor_iff _ _).1 full)
    exact ⟨(r.setS sd 0).advance, _, JobRegs.scalarTo_plain r sd 0, rfl, cpost_posts h takes reach clean watch⟩
  case cwait =>
    refine runsTo_regStep exec_cwait h rfl ?_
    split
    · exact ⟨rfl, pcMoved_pcPlus _ 1⟩
    · rfl
  case yields => exact fun alone => ⟨r.advance, yield_stays h alone, rfl, pcMoved_pcPlus _ 1⟩
  case saves => exact fun j work next => ⟨r.advance, ⟨rfl, pcMoved_pcPlus _ 1⟩, yield_saves h work next⟩
  case falls =>
    intro queue none_
    rw [ended_eq y rfl] at none_
    exact ⟨r.advance, ⟨rfl, pcMoved_pcPlus _ 1⟩, (halt_idles h queue none_).trans (congrArg Host.Outcome.next (halts _ fun z => { z with work := .idle }))⟩
  case queued =>
    intro k ks queue
    exact ⟨_, rfl, (halt_queued h queue).trans (congrArg Host.Outcome.next (halts _ fun z => { z with work := .line k, queue := ks }))⟩
  case deep =>
    intro i queue next d
    have slot : d = y.ended.getSlot i := congrArg (Bay.getSlot · i) (ended_eq y rfl)
    rw [ended_eq y rfl] at next
    refine ⟨fun ready fresh => ⟨_, rfl, ?_⟩, fun saved => ⟨r.advance, ⟨rfl, pcMoved_pcPlus _ 1⟩, ?_⟩⟩
    · exact (halt_enters h queue next (slot ▸ ready) (slot ▸ fresh) (by rw [slot])).trans (congrArg Host.Outcome.next (halts _ fun z => z.runSlot i _))
    · exact (halt_restores h queue next (slot ▸ saved)).trans (congrArg Host.Outcome.next (halts _ fun z => { z with work := .restoring i }))

end Sys2Proof.Machine
end

section
/-! Illegal instructions (R165, R169). -/

namespace Sys2Proof.Machine

variable {s : State} {b : BayIx} {i : Myvik}

/-- What an outcome is when the bay executes an illegal instruction: ILLEGAL_INSTRUCTION with its own word, before any effect. -/
def AbortsIllegal (s : State) (b : BayIx) (i : Myvik) (o : Host.Outcome State Fault Refusal) : Prop :=
  o = .next ((s.tickCycle b).bayIllegal b (myvikEncode i))

section
variable (h : s.executes b) (illegal : i.legal = false)
include h illegal

theorem issue_aborts {body : State → Did} : AbortsIllegal s b i (issue b i body s) := issue_illegal h illegal

theorem regStep_aborts {f : JobRegs → JobRegs} : AbortsIllegal s b i (regStep b i f s) := issue_illegal h illegal

theorem loadStep_aborts {n : Nat} {addrs : JobRegs → List (BitVec 40)} {f : JobRegs → List Nat → JobRegs} :
    AbortsIllegal s b i (loadStep b i n addrs f s) := issue_illegal h illegal

theorem storeStep_aborts {n : Nat} {xs : JobRegs → List (BitVec 40 × Nat)} : AbortsIllegal s b i (storeStep b i n xs s) := issue_illegal h illegal

theorem scalarLoad_aborts {n : Nat} {sd sa : SReg} {imm : BitVec 14} {f : Nat → Word} : AbortsIllegal s b i (scalarLoad b i n sd sa imm f s) :=
  loadStep_aborts h illegal

theorem vectorLoad_aborts {n : Nat} {vd : VReg} {pg : PReg} {addr : JobRegs → Fin 32 → BitVec 40} :
    AbortsIllegal s b i (vectorLoad b i n vd pg addr s) := loadStep_aborts h illegal

theorem scalarStore_aborts {n : Nat} {s_ sa : SReg} {imm : BitVec 14} : AbortsIllegal s b i (scalarStore b i n s_ sa imm s) :=
  storeStep_aborts h illegal

theorem vectorStore_aborts {n : Nat} {vs : VReg} {pg : PReg} {addr : JobRegs → Fin 32 → BitVec 40} :
    AbortsIllegal s b i (vectorStore b i n vs pg addr s) := storeStep_aborts h illegal

/-- Each Myvik instruction is issued with its own word (R165). -/
theorem exec_aborts {c : Instr} (name : c.toMyvik = some (b, i)) : AbortsIllegal s b i (exec c s) := by
  cases c
  all_goals cases name
  all_goals delta exec
  case ldB | ldBu | ldH | ldHu | ldW => exact scalarLoad_aborts h illegal
  case vld | vlds | vldbu => exact vectorLoad_aborts h illegal
  case stB | stH | stW => exact scalarStore_aborts h illegal
  case vst | vsts | vstb => exact vectorStore_aborts h illegal
  case lfr | emit | mfc | yield | halt | cpost  => exact issue_aborts h illegal
  all_goals exact regStep_aborts h illegal

end

end Sys2Proof.Machine
end

section
/-! A block that the device writes (R218). -/

namespace Sys2Proof.Machine

variable {cs ds : List Host.Cell} {x : Nat}

theorem cellAt_append_of_notMem_left (h : ∀ c ∈ cs, c.1 ≠ x) : cellAt (cs ++ ds) x = cellAt ds x := by
  rw [cellAt, List.find?_append, List.find?_eq_none.2 (by simpa using h), Option.none_or, cellAt]

theorem cellAt_append_of_notMem_right (h : ∀ d ∈ ds, d.1 ≠ x) : cellAt (cs ++ ds) x = cellAt cs x := by
  rw [cellAt, List.find?_append, (List.find?_eq_none (l := ds)).2 (by simpa using h), Option.or_none, cellAt]

theorem cellAt_filter {p : Host.Cell → Bool} (keeps : ∀ c ∈ cs, c.1 = x → p c = true) : cellAt (cs.filter p) x = cellAt cs x := by
  have same : (cs.filter p).find? (fun c => c.1 = x) = cs.find? fun c => c.1 = x := by
    rw [List.find?_filter]
    refine List.find?_congr fun c hc => ?_
    by_cases at_ : c.1 = x
    · simp [at_, keeps c hc at_]
    · simp [at_]
  rw [cellAt, same, cellAt]

/-- Bytes of a block that memory need not list read as the block says. -/
theorem cellAt_listed {a k : Nat} {bs : List Byte} (h : k < bs.length) :
    cellAt ((cellsAt a bs).filter fun c => Memory.lists c.1 c.2) (a + k) = bs[k] := by
  induction bs generalizing a k with
  | nil => cases h
  | cons b bs ih =>
    have later : cellAt ((cellsAt (a + 1) bs).filter fun c => Memory.lists c.1 c.2) a = Memory.unlisted a :=
      cellAt_of_lt fun c hc => (mem_cellsAt (List.mem_of_mem_filter hc)).1
    rw [cellsAt, List.filter_cons]
    cases k with
    | zero =>
      split
      · rw [cellAt_cons, if_pos (Nat.add_zero a).symm, List.getElem_cons_zero]
      · next unlisted => exact later.trans (unlisted_of_not_lists (Bool.eq_false_iff.2 unlisted))
    | succ k =>
      have lt : k < bs.length := by simpa using h
      have rest := ih (a := a + 1) lt
      rw [Nat.add_right_comm] at rest
      split
      · rw [cellAt_cons, if_neg (by simp)]
        exact rest
      · exact rest

variable (m : Memory) (a : Nat) (bs : List Byte)

theorem Memory.get_deviceWrite {k : Nat} (h : k < bs.length) : (m.deviceWrite a bs).get (a + k) = bs[k] := by
  have below : ∀ c ∈ m.cells.filter (fun c => c.1 < a), c.1 ≠ a + k := by
    intro c hc
    simp only [List.mem_filter, decide_eq_true_eq] at hc
    omega
  have above : ∀ c ∈ m.cells.filter (fun c => a + bs.length ≤ c.1), c.1 ≠ a + k := by
    intro c hc
    simp only [List.mem_filter, decide_eq_true_eq] at hc
    omega
  rw [Memory.get_eq, Memory.deviceWrite, cellsBlock, cellAt_append_of_notMem_right above, cellAt_append_of_notMem_left below, cellAt_listed h]

theorem Memory.gets_deviceWrite : (m.deviceWrite a bs).gets a bs.length = bs := by
  refine List.ext_getElem (by simp [Memory.gets]) fun k _ lt => ?_
  simp only [Memory.gets, List.getElem_map, List.getElem_range, Memory.get_deviceWrite m a bs lt]

theorem Memory.get_deviceWrite_of_outside (h : x < a ∨ a + bs.length ≤ x) : (m.deviceWrite a bs).get x = m.get x := by
  have block : ∀ c ∈ (cellsAt a bs).filter (fun c => Memory.lists c.1 c.2), c.1 ≠ x := by
    intro c hc
    have := mem_cellsAt (List.mem_of_mem_filter hc)
    omega
  rw [Memory.get_eq, Memory.deviceWrite, cellsBlock, Memory.get_eq]
  obtain below | above := h
  · have past : ∀ c ∈ m.cells.filter (fun c => a + bs.length ≤ c.1), c.1 ≠ x := by
      intro c hc
      simp only [List.mem_filter, decide_eq_true_eq] at hc
      omega
    rw [cellAt_append_of_notMem_right past, cellAt_append_of_notMem_right block, cellAt_filter fun c _ at_ => decide_eq_true (by omega)]
  · have before : ∀ c ∈ m.cells.filter (fun c => c.1 < a), c.1 ≠ x := by
      intro c hc
      simp only [List.mem_filter, decide_eq_true_eq] at hc
      omega
    rw [List.append_assoc, cellAt_append_of_notMem_left before, cellAt_append_of_notMem_left block,
      cellAt_filter fun c _ at_ => decide_eq_true (by omega)]

end Sys2Proof.Machine
end

section
/-! ILLEGAL_INSTRUCTION aborts the job (R170, R198, R217, R218). -/

namespace Sys2Proof.Machine

variable {s : State} {b : BayIx}

theorem State.report_mem (k : FltClass) : (s.report k).mem = s.mem := by
  unfold State.report
  dsimp only
  split
  · exact (State.noteRise_sideEffect _ k).mem
  · rfl

theorem State.faultRecord_det (r : FaultRec) : (s.faultRecord r).det = { s.det with
    fltRecords := s.det.fltRecords + 1
    fltHead := if s.det.fltHead + 1 = s.det.fltTail then s.det.fltHead else s.det.fltHead + 1
    fltLost := if s.det.fltHead + 1 = s.det.fltTail then satInc s.det.fltLost else s.det.fltLost } := (State.report_keepsUnits _ .job).det

theorem State.getBay_faultRecord (r : FaultRec) : (s.faultRecord r).getBay b = s.getBay b := by
  rw [State.getBay, State.faultRecord_det]
  rfl

theorem State.faultRecord_mem (r : FaultRec) : (s.faultRecord r).mem =
    if s.det.fltHead + 1 = s.det.fltTail then s.mem
    else s.mem.deviceWrite (faultRing + 32 * s.det.fltHead.toNat) (r.bytes (s.det.fltRecords + 1)) := State.report_mem .job

/-- A report sets the bit of its class. -/
theorem State.report_bit (k : FltClass) : bit (s.report k).flt.cls k.bit.val = true := by
  have set : bit (setBit s.flt.cls k.bit.val true) k.bit.val = true := by rw [bit_setBit _ _ _ _ (by omega), if_pos rfl]
  unfold State.report
  dsimp only
  split
  · exact set
  · exact set

theorem FaultRec.bytes_length (r : FaultRec) (n : BitVec 16) : (r.bytes n).length = 32 := by
  simp [FaultRec.bytes]

/-- The record of an illegal instruction (R217). -/
def illegalRecord (b : BayIx) (y : Bay) (w : Word) : FaultRec :=
  { cls := .illegal, point := 0, source := BitVec.ofNat 8 b.val, asid := y.asid, deep := y.onDeep, walk := false, loft := false, page := false,
    pc := y.regs.pc, word := w, va := y.regs.pc, line := y.jobLine }

theorem State.marker_onBay (f : Bay → Bay) (j : LineJob) (k : BitVec 16) : (s.onBay b f).marker b j k = (s.marker b j k).onBay b f := rfl

theorem State.getBay_marker (j : LineJob) (k : BitVec 16) : (s.marker b j k).getBay b = s.getBay b := rfl

/-- The abort of a line job after which the bay has nothing to do. -/
theorem State.bayIllegal_line {w : Word} {j : LineJob} (work : (s.getBay b).work = .line j) (queue : (s.getBay b).queue = [])
    (none_ : (s.getBay b).pick = none) : s.bayIllegal b w =
      ((s.faultRecord (illegalRecord b (s.getBay b) w)).marker b j ((s.getBay b).regs.kernel.extractLsb' 0 16)).onBay b
        fun y => { y with faults := satInc y.faults, illegal := satInc y.illegal, work := .idle } := by
  have bay : (s.faultRecord (illegalRecord b (s.getBay b) w)).getBay b = s.getBay b := State.getBay_faultRecord _
  rw [State.bayIllegal]
  unfold illegalRecord at bay ⊢
  simp only [work, State.bayRecord, State.endLineJob, State.onBay_onBay, State.getBay_onBay, bay, State.marker_onBay]
  refine State.startNext_nothing ?_ ?_
  · rw [State.getBay_onBay, State.getBay_marker, bay, queue]
  · rw [State.getBay_onBay, State.getBay_marker, bay]
    exact none_

/-- Settles O19. -/
theorem illegalInstructionAbortsTheJob : Obligations.IllegalInstructionAbortsTheJob := by
  refine ⟨fun s b c i name h illegal => exec_aborts h illegal name, fun s b w h none_ => exec_illegal_word h none_, ?_⟩
  intro s b w j work queue none_ t y
  have result : t = _ := State.bayIllegal_line work queue none_
  have bay : t.getBay b = { y with faults := satInc y.faults, illegal := satInc y.illegal, work := .idle } := by
    rw [result, State.getBay_onBay, State.getBay_marker, State.getBay_faultRecord]
  have det := State.faultRecord_det (s := s) (illegalRecord b y w)
  have flawOut : t.det.flawOut = s.det.flawOut ++ [.incomplete j.line j.seg b (y.regs.kernel.extractLsb' 0 16)] :=
    (congrArg (·.det.flawOut) result).trans (congrArg (·.flawOut ++ _) det)
  have records : t.det.fltRecords = s.det.fltRecords + 1 := (congrArg (·.det.fltRecords) result).trans (congrArg (·.fltRecords) det)
  have head := (congrArg (·.det.fltHead) result).trans (congrArg (·.fltHead) det)
  have lost := (congrArg (·.det.fltLost) result).trans (congrArg (·.fltLost) det)
  have job : bit t.flt.cls 12 = true := (congrArg (fun z : State => bit z.flt.cls 12) result).trans (State.report_bit .job)
  have mem : t.mem = _ := (congrArg State.mem result).trans (State.faultRecord_mem (illegalRecord b y w))
  have bytes : (illegalRecord b y w).bytes (s.det.fltRecords + 1) = [5, 0, BitVec.ofNat 8 b.val, BitVec.ofNat 8 y.asid.toNat] ++ bytesLe 8 y.regs.pc.toNat
      ++ bytesLe 4 w.toNat ++ bytesLe 8 y.regs.pc.toNat ++ bytesLe 6 j.line ++ bytesLe 2 (s.det.fltRecords + 1).toNat := by
    simp only [FaultRec.bytes, illegalRecord, Bay.onDeep, Bay.jobLine, y, work]
    rfl
  refine ⟨by rw [bay], by rw [bay], by rw [bay], by rw [bay], flawOut, job, records, fun full => ?_, fun room => ?_⟩
  · exact ⟨head.trans (if_pos full), mem.trans (if_pos full), lost.trans (if_pos full)⟩
  · have written := mem.trans (if_neg room)
    have length := FaultRec.bytes_length (illegalRecord b y w) (s.det.fltRecords + 1)
    refine ⟨head.trans (if_neg room), lost.trans (if_neg room), ?_, fun a outside => ?_⟩
    · rw [written, records, ← bytes, ← length]
      exact Memory.gets_deviceWrite _ _ _
    · rw [written]
      exact Memory.get_deviceWrite_of_outside _ _ _ (length.symm ▸ outside)

end Sys2Proof.Machine
end
